-- ==== Sys2Proof/Word.lean ====
section
/-! DEFINITION. The plain word types of the AK460: bytes and words of the exchange port, keys, salts,
sector data, and the numbers that name volumes, credential slots and request slots (00_scope.md section 4.2). -/

namespace Sys2Proof

/-- One byte of the exchange memory. -/
abbrev Byte := BitVec 8

/-- One 4-byte word of the exchange port, or one register (R159, R175). -/
abbrev Word := BitVec 32

/-- A 32-byte media key (R21), or a wrapped one (R26). -/
abbrev MediaKey := BitVec 256

/-- A 16-byte key-encryption key (R27). -/
abbrev Kek := BitVec 128

/-- A 16-byte salt or verifier (R24). -/
abbrev Half := BitVec 128

/-- An 8-byte wrap tag (R26). -/
abbrev Tag := BitVec 64

/-- The 512 bytes of one sector, byte 0 in the lowest bits (R95). -/
abbrev Sector := BitVec 4096

/-- A set of volumes: bit n - 1 stands for volume n (10_formats.md). -/
abbrev VolSet := BitVec 8

/-- A volume, held as its number less one: volume 1 is `0`, volume 8 is `7`. -/
abbrev Vol := Fin 8

/-- A credential slot, 0 to 15. -/
abbrev CSlot := Fin 16

/-- A request slot, 0 to 31. -/
abbrev RSlot := Fin 32

/-- A digit of a PIN. -/
abbrev Digit := Fin 10

end Sys2Proof
end

