-- ==== Sys2Proof/Syntax.lean ====
section
/-! DEFINITION. The commands of the AK460: one constructor of `Instr` for each row of spec/opcode_table.json, with
what arrives from outside the part in that step as its operands. A row without operands takes the head of a queue
or an inbox that State holds. -/

namespace Sys2Proof

/-- The twelve keys (00_scope.md section 3). -/
inductive Key where
  | digit (d : Digit)
  | enter
  | clear
  deriving DecidableEq, Repr

/-- The nine blocks that take the supply monitor's signals (R140). -/
inductive Block where
  | exchange | guard | credential | lockout | keypad | sector | link | engine | store
  deriving DecidableEq, Repr

/-- The two attempt-accounting domains (R48). -/
inductive Domain where
  | normal | recovery
  deriving DecidableEq, Repr

/-- The seven volume states (R1). -/
inductive VState where
  | absent | locked | opened | openRo | erasing | blank | fault
  deriving DecidableEq, Repr

/-- The last erase result of a volume (R1). -/
inductive EraseResult where
  | none | complete | completeSuspect | failed | aborted
  deriving DecidableEq, Repr

/-- The fields of a VOLUME record (R1, R143). -/
structure VolRec where
  state : VState
  first : Nat
  count : Nat
  idleCode : Nat
  writeProtect : Bool
  lastResult : EraseResult
  suspects : Nat
  deriving DecidableEq, Repr

/-- What the array holds after a commit that was cut off (R147) or that failed (R148): the old contents, the new
contents, or contents whose check value does not agree; `raw` is then what a VOLUME record reads as (R23). -/
inductive Cut where
  | old
  | new
  | damaged (raw : VolRec)
  deriving DecidableEq, Repr

/-- The reply of the flash module (R96). -/
inductive Reply where
  | ident (capacity : BitVec 32) (ef ed : BitVec 16)
  | data (sectors : List Sector)
  | ok
  | mediaError (sector : BitVec 32)
  deriving DecidableEq, Repr

/-- A reply frame with whether its 16-bit check value is right (section 5.4). -/
structure Frame where
  checkOk : Bool
  reply : Reply
  deriving DecidableEq, Repr

/-- The outcome of a commit's write and read-back (R147). `left` is what the array holds if this was the second
try and the commit has failed (R148). -/
inductive ReadBack where
  | agrees
  | differs (left : Cut)
  deriving DecidableEq, Repr

/-- The commands: one constructor per row of spec/opcode_table.json, in its order. -/
inductive Instr where
  | resetAssert (cut : Cut)
  | startUp (supplyGood : Bool)
  | powerLoss (cut : Cut)
  | loadRecords
  | orphanCheck
  | lockoutExamination
  | startUpIdent
  | leaveStarting (sensor : Int)
  | supplyWarning
  | supplyRise
  | supplyRecovery
  | warningTaken (b : Block)
  | recoveryTaken (b : Block)
  | haltOrder (b : Block)
  | portWordWrite (addr : BitVec 32) (value : Word)
  | attnWrite (value : Word)
  | attnLvlWrite (value : Word)
  | scanWrite (value : Word)
  | scanCfgWrite (value : Word)
  | registerWriteOther (reg : BitVec 3) (value : Word)
  | scanTimerExpiry
  | identify
  | setPolicy
  | cancel
  | readSectors
  | writeSectors
  | lock
  | defineVolume
  | deleteVolume
  | enroll
  | revoke
  | erase
  | pause
  | resume
  | abort
  | sectorGrant
  | linkReply (frame : Frame) (t : Nat)
  | linkTimeout
  | linkReissue
  | probe
  | stripeGrant
  | stripeReply
  | wipeTrigger
  | factoryChord
  | linkFaultReport
  | linkReturn
  | extentLost
  | temperatureSample (sensor : Int)
  | hotSignal
  | criticalSignal (b : Block)
  | releaseSignal (b : Block)
  | openOrder
  | faultOrder
  | lockOrder
  | eraseAcceptance
  | eraseEnd
  | capacityReport
  | idleTimerExpiry (v : Vol)
  | entryHanded
  | charge
  | chargeCommitted
  | derivationDone
  | matchReport
  | noMatchReport
  | acceptanceComplete
  | lockoutTick
  | lockoutEnd (d : Domain)
  | factoryOrder
  | factoryRevocation
  | windowTick
  | windowExpiry
  | windowClose
  | wrapAndAdd
  | removal
  | enrollEntry
  | enrollEarlyEnd
  | commitDone (r : ReadBack)
  | keyScan (levels : BitVec 12)
  | keyAccepted (k : Key)
  | hold (k : Key)
  | chord
  | digitPress
  | enterPress
  | enterHold
  | clearPress
  | clearHold
  | chordTaken
  | entryTimeout
  | stageTimeout
  | enrollOrder
  | outcomeReport
  | returnToIdle
  | flashEnd
  | indicatorPhase
  deriving DecidableEq, Repr

end Sys2Proof
end

