-- ==== Sys2Proof/Config.lean ====
section
/-! DEFINITION. What the data book does not disclose or leaves free, as opaque constants: nothing in Lean can
evaluate them, so a claim that holds holds whatever they are (log 6, log 7). -/

namespace Sys2Proof.Config

/-- The derivation function of R27: 32 bytes from a PIN's digits (with their length), a salt and a work code.
The first 16 bytes, here the low half, are the verifier and the last 16 the KEK. Not disclosed (00_scope.md
section 1.3). -/
opaque derive : List Digit → Half → BitVec 2 → BitVec 256

/-- Wrapping a media key under a KEK for one volume (R28): undone by the inverse. Not disclosed. -/
opaque wrapPerm : Kek → Vol → Equiv.Perm MediaKey

/-- The wrap tag over the wrapped key and the volume index under a KEK (R28). Not disclosed. -/
opaque wrapTag : Kek → Vol → MediaKey → Tag

/-- What R95 says of the sector transform: for each key and absolute sector number a permutation of a sector, and one
plaintext at two different sector numbers gives two different results. The values given here only show that such a
transform exists. -/
structure SectorCipher where
  apply : MediaKey → BitVec 32 → Equiv.Perm Sector := fun _ a => Equiv.addRight (a.setWidth 4096)
  distinct : ∀ k a b x, a ≠ b → apply k a x ≠ apply k b x := by
    intro k a b x h e
    have e' : (a.setWidth 4096 : BitVec 4096) = b.setWidth 4096 := by simpa using e
    exact h (by simpa using congrArg (BitVec.setWidth 32) e')
  deriving Inhabited

/-- The transform of the part (R95). Not disclosed. -/
opaque sectorCipher : SectorCipher

/-- The sector transform of R95 under a key at an absolute sector number. -/
def sectorTransform (k : MediaKey) (a : BitVec 32) : Equiv.Perm Sector := sectorCipher.apply k a

/-- The `n`th 32 bytes drawn from the random generator as a media key (R21). -/
opaque randomKey : Nat → MediaKey

/-- The `n`th 16 bytes drawn from the random generator as a salt (R42). -/
opaque randomSalt : Nat → Half

end Sys2Proof.Config
end

