-- ==== Sys2Proof/Machine/State.lean ====
section
/-! DEFINITION. The state of the AK460 as plain data: one structure per block, the orders on their way between
blocks, the nonvolatile array, the status page and the queue of waiting commands; and the state after reset. -/

namespace Sys2Proof.Machine

/-- No command stops the part: RESET, power loss and HALTED are states, so there is no fault. -/
inductive Fault where
  deriving DecidableEq, Repr

/-- The reasons a command can have no meaning. -/
inductive Refusal where
  /-- Raised by an arm of `exec` whose command has no meaning yet. Safe: nothing is claimed of it. -/
  | notModelled (mnemonic : String)
  deriving DecidableEq, Repr

/-- Whether the part works: powered, held by RESET (R150), or without power (R181). -/
inductive PowerState where
  | on | inReset | off
  deriving DecidableEq, Repr

/-- The four device states (00_scope.md section 2.2). -/
inductive DeviceState where
  | starting | unprovisioned | ready | halted
  deriving DecidableEq, Repr

/-- What a monitor or the store hands to a block (R137, R140, R141, R148). -/
inductive Signal where
  | warning | recovery | halt | hot | critical | release
  deriving DecidableEq, Repr

/-- The signals handed to the blocks that have no inbox and not yet taken, oldest first. At the others a signal stands in
the inbox, in its arrival order among the orders and events there (R4, R29, R49, R83, R110, log 4). -/
structure Signals where
  exchange : List Signal := []
  sector : List Signal := []
  link : List Signal := []
  store : List Signal := []
  deriving DecidableEq, Repr

/-! ### Requests -/

/-- The twelve kinds (R177). -/
inductive Kind where
  | identify | setPolicy | cancel | readSectors | writeSectors | lock | defineVolume | deleteVolume
  | enroll | revoke | erase | eraseControl
  deriving DecidableEq, Repr

/-- The status codes (R178). -/
inductive Status where
  | ok | badKind | badParam | chainRange | skipped | cancelled | notCancellable | notAuthorized | halted | hot
  | power | absent | locked | readOnly | range | erasing | blank | faultVolume | lockedDuring | linkFault
  | flashError | overlap | notBlank | slotInUse | lastAdmin | keyUnavailable | duplicate | mismatch | timeout
  | keypadAbort | badLength | wipeActive
  deriving DecidableEq, Repr

/-- The three kind queues (R165). -/
inductive QueueId where
  | sector | control | enroll
  deriving DecidableEq, Repr

/-- A taken request (R164): its slot, kind, chain offset, bytes 4 to 31, follower flag and proceed condition. `begun` is
set when its serving block has been given it; `late` says that it was taken while the device was HALTED (R171). -/
structure Request where
  slot : RSlot
  kind : Kind
  offset : Int
  params : List Byte
  follower : Bool := false
  cond : BitVec 2 := 0
  begun : Bool := false
  late : Bool := false
  deriving DecidableEq, Repr

/-! ### Volumes and the guard -/

/-- One volume: its record (R1), the volatile fields, the media key register (R3) and the idle timer (R9). -/
structure Volume where
  data : VolRec
  openedBy : Option CSlot := none
  extentKnown : Bool := false
  key : MediaKey := 0
  keyHeld : Bool := false
  idle : Option Nat := none
  deriving DecidableEq, Repr

/-- The ABSENT values of R1. -/
def VolRec.absent : VolRec :=
  { state := .absent, first := 0, count := 0, idleCode := 0, writeProtect := false, lastResult := .none, suspects := 0 }

/-- The orders the guard takes (R4), and the signals among them (R137, R140, R148). -/
inductive GuardOrder where
  | openVolume (v : Vol) (key : MediaKey) (slot : CSlot) (readWrite : Bool)
  | fault (v : Vol)
  | lock (mask : VolSet)
  | eraseAccept (v : Vol)
  | eraseEnd (v : Vol) (result : EraseResult) (suspects : Nat)
  | capacity (cap : BitVec 32) (ef ed : BitVec 16)
  | sectorDecision
  | sectorCheck
  | request (r : Request)
  | signal (x : Signal)
  deriving DecidableEq, Repr

/-- What the guard does once the commits it waits for are complete. -/
inductive GuardThen where
  | faulted
  | accepted (v : Vol)
  | retired (v : Vol)
  | ended (v : Vol)
  | define (r : Request) (v : Vol) (key : MediaKey) (slot : CSlot)
  | delete (r : Request) (v : Vol)
  deriving DecidableEq, Repr

/-- What holds the guard (R4). -/
inductive GuardWait where
  | free
  | commits (n : Nat) (next : GuardThen)
  | wrapAdd (r : Request) (v : Vol) (key : MediaKey)
  | windowClose (r : Request) (locked : VolSet)
  deriving DecidableEq, Repr

/-- The volume guard. -/
structure Guard where
  vols : Vector Volume 8
  inbox : List GuardOrder := []
  wait : GuardWait := .free
  critical : Bool := false
  warned : Bool := false
  deriving DecidableEq, Repr

/-! ### Credential slots and the credential unit -/

/-- The roles of a credential slot (R24). -/
inductive Role where
  | empty | user | admin | recovery | wipe | damaged
  deriving DecidableEq, Repr

/-- A wrap entry (R26). -/
structure WrapEntry where
  vol : Vol
  wrapped : MediaKey
  tag : Tag
  deriving DecidableEq, Repr

/-- A credential slot record (R24). -/
structure CredSlot where
  role : Role := .empty
  readOnly : Bool := false
  salt : Half := 0
  work : BitVec 2 := 0
  verifier : Half := 0
  bind : VolSet := 0
  wraps : List WrapEntry := []
  deriving DecidableEq, Repr

/-- Why an enrollment ends early, as its sender reports it (R44). -/
inductive EarlyEnd where
  | keypadAbort | chord | timeout
  deriving DecidableEq, Repr

/-- The events the credential unit takes from other blocks (R29), the signals among them. A tick of the 1 s timebase (R37)
and the completion of the derivation in flight stand among them while the unit is held or an older event waits. -/
inductive CredEvent where
  | entry (digits : List Digit) (d : Domain) (cadence : Bool)
  | chargeCommitted
  | enrollEntry (digits : List Digit)
  | enrollEnd (why : EarlyEnd)
  | revoke (r : Request)
  | wrapAdd (v : Vol) (key : MediaKey)
  | removal (v : Vol)
  | windowClose (forLock : Bool)
  | factory
  | tick
  | derived
  | signal (x : Signal)
  deriving DecidableEq, Repr

/-- The admin window (R36, R37). -/
structure Window where
  slot : CSlot
  left : Nat
  held : Bool
  deriving DecidableEq, Repr

/-- Where a verification stands: its charge asked for, or the search at a slot, with whether that slot was revoked
since its derivation began (R30, R31). -/
inductive VerifyPhase where
  | charging
  | trying (slot : CSlot) (revoked : Bool)
  deriving DecidableEq, Repr

/-- A verification in progress (R30); `abandoned` is set by a supply warning while its charge is awaited (R35). -/
structure Verification where
  digits : List Digit
  domain : Domain
  cadence : Bool
  phase : VerifyPhase
  abandoned : Bool := false
  deriving DecidableEq, Repr

/-- The stages of an enrollment (R41 to R43). -/
inductive EnrollStage where
  | first
  | second
  | duplicate (slot : CSlot) (revoked : Bool)
  | final
  | slotCommit
  | deviceCommit
  deriving DecidableEq, Repr

/-- An enrollment in progress (R41): the request with its parameters as checked, the first entry (later the PIN),
the salt and KEK of the new slot, and whether it is the first ADMIN enrollment (R43). -/
structure Enrollment where
  req : Request
  slot : CSlot
  role : Role
  readOnly : Bool
  bind : VolSet
  work : BitVec 2
  firstAdmin : Bool
  pin : List Digit := []
  salt : Half := 0
  kek : Kek := 0
  stage : EnrollStage := .first
  deriving DecidableEq, Repr

/-- The derivation in flight (R27). -/
structure Derivation where
  digits : List Digit
  salt : Half
  work : BitVec 2
  left : Nat
  deriving DecidableEq, Repr

/-- What holds the credential unit (R29). -/
inductive CredWait where
  | free
  | removal (n : Nat)
  | revoke (r : Request) (role : Role) (slot : CSlot)
  | factory (n : Nat)
  | enroll
  deriving DecidableEq, Repr

/-- The credential unit. `shutByWarning` says that the supply warning it works under closed the window (R38), `halted` that
it has taken the entry of the device to HALTED (R29, R47). -/
structure Credential where
  slots : Vector CredSlot 16
  window : Option Window := none
  adminKey : Kek := 0
  inbox : List CredEvent := []
  verify : Option Verification := none
  enroll : Option Enrollment := none
  deriv : Option Derivation := none
  wait : CredWait := .free
  warned : Bool := false
  shutByWarning : Bool := false
  halted : Bool := false
  deriving DecidableEq, Repr

/-! ### Domains and the lockout unit -/

/-- The policy inputs of a domain as sampled (R50): A, B in seconds, Cap in seconds, W. -/
structure Sampled where
  a : Nat
  b : Nat
  cap : Nat
  w : Nat
  deriving DecidableEq, Repr

/-- A domain record (R48). -/
structure DomainState where
  f : Nat := 0
  flag : Bool := false
  lockedOut : Bool := false
  left : Nat := 0
  step : Nat := 0
  inputs : Sampled
  deriving DecidableEq, Repr

/-- The events the lockout unit takes from other blocks (R49), the signals among them; a tick of the 1 s timebase stands
among them while the unit is held or an older event waits. -/
inductive LockEvent where
  | charge (d : Domain)
  | matched (d : Domain)
  | noMatch (d : Domain)
  | factory
  | accepted
  | tick
  | signal (x : Signal)
  deriving DecidableEq, Repr

/-- What holds the lockout unit (R49): the commit of a charge, or the acceptance of a brute-force wipe. -/
inductive LockWait where
  | free
  | charge (d : Domain)
  | wipe (d : Domain)
  deriving DecidableEq, Repr

/-- The lockout unit. `halted` says that it has taken the entry of the device to HALTED (R49, R63). -/
structure Lockout where
  normal : DomainState
  recovery : DomainState
  inbox : List LockEvent := []
  wait : LockWait := .free
  halted : Bool := false
  deriving DecidableEq, Repr

/-! ### Keypad unit -/

/-- The debounce state of one key (R66, R69, R70). `due` says that the last full scan changes its accepted level. -/
structure KeyState where
  down : Bool := false
  run : Nat := 0
  due : Bool := false
  suppressed : Bool := false
  held : Nat := 0
  holdTime : Nat := 0
  holdGiven : Bool := false
  deriving DecidableEq, Repr

/-- A key event (section 4.2). -/
inductive KeyEvent where
  | press (k : Key) (time : Nat)
  | hold (k : Key)
  | chord
  deriving DecidableEq, Repr

/-- The assembler states (section 4.6). -/
inductive Assembler where
  | idle | digits | recoveryWait | recoveryDigits | enrollFirst | enrollSecond | verifying
  deriving DecidableEq, Repr

/-- The orders the keypad unit takes from the credential unit, the supply signals and the entry to HALTED (R83), and the expiry
of its own timeout when older events or orders wait (R74). -/
inductive KeyOrder where
  | enroll
  | outcome (accepted : Bool)
  | toIdle (flash : Bool)
  | expiry
  | signal (x : Signal)
  deriving DecidableEq, Repr

/-- The one-shot flashes (R84). -/
inductive OneShot where
  | reject | accept | noPin
  deriving DecidableEq, Repr

/-- The keypad settings in use (R73), each clamped. -/
structure KeySettings where
  debounce : Nat
  hold : Nat
  entryTimeout : Nat
  cadence : Nat
  minPin : Nat
  deriving DecidableEq, Repr

/-- The keypad unit. `marker` is the overrun marker with the number of queued events up to and including the marker
point (R71). `ahead` gives for each order in the inbox the number of queued key events that came before it (R74). `halted`
says that the unit has taken the entry of the device to HALTED (R83). -/
structure Keypad where
  keys : Vector KeyState 12
  chordMs : Option Nat := none
  chordGiven : Bool := false
  scanning : Bool := false
  contacts : BitVec 12 := 0
  queue : List KeyEvent := []
  marker : Option Nat := none
  settings : KeySettings
  asm : Assembler := .idle
  buffer : List Digit := []
  lastTime : Option Nat := none
  cadence : Bool := false
  timeout : Option Nat := none
  inbox : List KeyOrder := []
  ahead : List Nat := []
  flash : Option OneShot := none
  flashLeft : Nat := 0
  pattern : Nat := 2
  phase : Nat := 0
  phaseLeft : Nat := 0
  warned : Bool := false
  halted : Bool := false
  deriving DecidableEq, Repr

/-! ### Sector path and storage link -/

/-- The phases of the active sector request (R87). ENDING lasts no longer than one step. -/
inductive Phase where
  | idle | deciding | waitingGrant | checking | inFlight | ending
  deriving DecidableEq, Repr

/-- The sector path (R87). `ended` is the end already decided while a command is still in flight (R17, R94). -/
structure SectorPath where
  phase : Phase := .idle
  slot : RSlot := 0
  write : Bool := false
  vol : Vol := 0
  absFirst : Nat := 0
  relFirst : Nat := 0
  count : Nat := 0
  firstBuf : Nat := 0
  k : Nat := 0
  done : Nat := 0
  errorSector : Option Nat := none
  ended : Option Status := none
  warned : Bool := false
  deriving DecidableEq, Repr

/-- The link states (R99). -/
inductive LinkState where
  | down | ready | busy | fault
  deriving DecidableEq, Repr

/-- The link commands (R96). -/
inductive LinkCmd where
  | ident | read | write | discard
  deriving DecidableEq, Repr

/-- Who has the link: the sector path, the erase engine, or the controller itself for IDENT. -/
inductive Requester where
  | sector | engine | controller
  deriving DecidableEq, Repr

/-- The command in flight (R96 to R98). Times are in 0.1 ms units. `expect` is the expected time E held at the
issue of a stripe command (R120). `data` holds the sectors that a WRITE sends (R89, R119). -/
structure InFlight where
  cmd : LinkCmd
  first : Nat
  count : Nat
  owner : Requester
  data : List Sector := []
  failedOnce : Bool := false
  resetting : Bool := false
  withdrawn : Bool := false
  probe : Bool := false
  expect : Nat := 0
  left : Nat
  deriving DecidableEq, Repr

/-- Where the taking of an identity stands (R101). -/
inductive IdentStage where
  | none | guard | commit
  deriving DecidableEq, Repr

/-- The storage link controller with its arbiter. -/
structure Link where
  state : LinkState := .down
  capacity : BitVec 32 := 0
  ef : BitVec 16 := 0
  ed : BitVec 16 := 0
  identified : Bool := false
  timeouts : BitVec 16 := 0
  malformed : BitVec 16 := 0
  reissues : BitVec 16 := 0
  mediaErrors : BitVec 16 := 0
  faults : BitVec 16 := 0
  inFlight : Option InFlight := none
  staging : Sector := 0
  ident : IdentStage := .none
  probeLeft : Option Nat := none
  sectorAsks : Bool := false
  engineAsks : Bool := false
  granted : Option Requester := none
  losses : Nat := 0
  warned : Bool := false
  deriving DecidableEq, Repr

/-! ### Erase engine -/

/-- The plans (R107). -/
inductive Plan where
  | quick | clear | full
  deriving DecidableEq, Repr

/-- The passes (R107). -/
inductive Pass where
  | key | fill | verify | discard
  deriving DecidableEq, Repr

/-- The post-completion actions (R108). -/
inductive Action where
  | none | lockAll | halt
  deriving DecidableEq, Repr

/-- An erase entry (R108). `wipe` is the origin: WIPE or REQUEST. ACTIVE is the state of the head (R109). -/
structure EraseEntry where
  vol : Vol
  plan : Plan
  wipe : Bool
  stopOnFault : Bool
  share : Nat
  action : Action
  passes : List Pass
  passIndex : Nat := 1
  nextStripe : Nat := 0
  begun : Bool := false
  suspects : Nat := 0
  mismatches : Nat := 0
  deriving DecidableEq, Repr

/-- A stripe command's outcome as the engine sees it (R119 to R122). -/
inductive StripeOutcome where
  | ok (t expect : Nat)
  | data (allZero : Bool)
  | mediaError
  | givenUp
  deriving DecidableEq, Repr

/-- The events the erase engine takes from other blocks (R110): requests, triggers, the orphans of start-up (R153), the
arbiter's grant, replies and reports of the link, lost extents, and the signals among them. -/
inductive EngineEvent where
  | request (r : Request)
  | wipe (mask : VolSet)
  | brute
  | chord
  | orphans (vs : List Vol)
  | grant
  | reply (o : StripeOutcome)
  | linkFault
  | linkReturn
  | extentLost (v : Vol)
  | signal (x : Signal)
  deriving DecidableEq, Repr

/-- Where an acceptance comes from (R111). -/
inductive AcceptSource where
  | request (r : Request)
  | wipeSlot
  | brute
  | chord
  | orphan
  deriving DecidableEq, Repr

/-- What an acceptance waits for (R112 to R114): the removal, the guard's acceptance order with its commits, the
commit of a merge with whether the merge brought its entry to the head, or the reply of a suspended entry's command. -/
inductive AcceptStage where
  | removal (v : Vol)
  | guard (v : Vol)
  | merge (newHead : Bool)
  | reply
  deriving DecidableEq, Repr

/-- An acceptance in progress (R111, R112). -/
structure Acceptance where
  source : AcceptSource
  wipe : Bool
  plan : Plan
  todo : List Vol
  accepted : VolSet := 0
  merged : VolSet := 0
  retired : VolSet := 0
  stage : AcceptStage
  deriving DecidableEq, Repr

/-- The work that holds the erase engine (R110). -/
inductive Job where
  | none
  | accept (a : Acceptance)
  | endGuard (v : Vol)
  | endList (action : Action) (wasHead : Bool)
  | abortReply (r : Request)
  | abortGuard (r : Request) (todo : List Vol) (removed : Nat) (action : Action)
  | abortList (r : Request) (removed : Nat) (action : Action)
  deriving DecidableEq, Repr

/-- The erase engine. `flying` is the volume of the stripe command in flight; `pace` says that the stripe at the
cursor was measured SHORT or LONG once (R120); `due` that a checkpoint waits for the reply of that command (R125). -/
structure Erase where
  list : List EraseEntry := []
  pause : Bool := false
  supplyHold : Bool := false
  linkHold : Bool := false
  thermalHold : Bool := false
  inbox : List EngineEvent := []
  job : Job := .none
  flying : Option Vol := none
  pace : Bool := false
  due : Bool := false
  deriving DecidableEq, Repr

/-! ### Monitors -/

/-- The temperature conditions (R133). -/
inductive TempCond where
  | normal | hot | critical
  deriving DecidableEq, Repr

/-- The temperature monitor (R133). `sensor` is the die sensor's conversion as last given. -/
structure Temperature where
  cond : TempCond := .normal
  last : Option Int := none
  peak : Option Int := none
  hot : Int := 80
  hyst : Int := 10
  sensor : Int := 25
  deriving DecidableEq, Repr

/-- The supply conditions (R139). -/
inductive SupplyCond where
  | good | warning | recovering
  deriving DecidableEq, Repr

/-- The supply monitor (R139). -/
structure Supply where
  cond : SupplyCond := .good
  count : Nat := 0
  deriving DecidableEq, Repr

/-! ### Persistent store -/

/-- The four policy inputs of one domain as held in the POLICY record (R157). -/
structure DomainPolicy where
  a : Nat
  b : Nat
  c : Nat
  w : Nat
  deriving DecidableEq, Repr

/-- The POLICY record (R157), as codes. -/
structure Policy where
  normal : DomainPolicy
  recovery : DomainPolicy
  debounce : Nat
  hold : Nat
  entryTimeout : Nat
  cadence : Nat
  minPin : Nat
  wipePlan : Nat
  stopOnFault : Bool
  eraseShare : Nat
  action : Nat
  hot : Nat
  hyst : Nat
  deriving DecidableEq, Repr

/-- The defaults of R157. -/
def Policy.defaults : Policy :=
  { normal := ⟨5, 2, 4, 20⟩, recovery := ⟨3, 3, 7, 10⟩, debounce := 4, hold := 1, entryTimeout := 1, cadence := 0
    minPin := 6, wipePlan := 2, stopOnFault := false, eraseShare := 4, action := 0, hot := 4, hyst := 1 }

/-- The DOMAIN record (R143). -/
structure DomainRec where
  f : Nat
  flag : Bool
  deriving DecidableEq, Repr

/-- The CHECKPOINT record (R126); no volume is volume 0. -/
structure Checkpoint where
  vol : Option Vol := none
  passIndex : Nat := 0
  nextStripe : Nat := 0
  suspects : Nat := 0
  mismatches : Nat := 0
  deriving DecidableEq, Repr

/-- The DEVICE record (R143). -/
structure DeviceRec where
  provisioned : Bool
  capacity : BitVec 32
  deriving DecidableEq, Repr

/-- The name of a record: its kind and index (R143). -/
inductive RecId where
  | policy | slot (i : CSlot) | volume (v : Vol) | domain (d : Domain) | eraseList | checkpoint | device
  deriving DecidableEq, Repr

/-- A record with its contents, as handed to the store (R146). -/
inductive Rec where
  | policy (p : Policy)
  | slot (i : CSlot) (c : CredSlot)
  | volume (v : Vol) (r : VolRec)
  | domain (d : Domain) (r : DomainRec)
  | eraseList (l : List EraseEntry)
  | checkpoint (c : Checkpoint)
  | device (d : DeviceRec)
  deriving DecidableEq, Repr

/-- The owners that act after a commit (R146). -/
inductive Waiter where
  | guard | credential | lockout | engine | link | store | startUp
  deriving DecidableEq, Repr

/-- A queued record with the owners waiting on it (R146). -/
structure Queued where
  data : Rec
  waiters : List Waiter
  deriving DecidableEq, Repr

/-- A record of the nonvolatile array: its contents and whether its check value agrees with them (R144). -/
structure Stored (α : Type) where
  ok : Bool
  val : α
  deriving DecidableEq, Repr

/-- The nonvolatile array of thirty records (R143). -/
structure NvArray where
  policy : Stored Policy
  slots : Vector (Stored CredSlot) 16
  volumes : Vector (Stored VolRec) 8
  normal : Stored DomainRec
  recovery : Stored DomainRec
  eraseList : Stored (List EraseEntry)
  checkpoint : Stored Checkpoint
  device : Stored DeviceRec
  deriving DecidableEq, Repr

/-- The factory contents of R145. -/
def NvArray.factory : NvArray :=
  { policy := ⟨true, Policy.defaults⟩
    slots := Vector.replicate 16 ⟨true, {}⟩
    volumes := Vector.replicate 8 ⟨true, VolRec.absent⟩
    normal := ⟨true, ⟨0, false⟩⟩
    recovery := ⟨true, ⟨0, false⟩⟩
    eraseList := ⟨true, []⟩
    checkpoint := ⟨true, {}⟩
    device := ⟨true, ⟨false, 0⟩⟩ }

/-- Whether the store commits: running; finishing its queue after the action HALT; or stopped by a failure (R148). -/
inductive StoreMode where
  | running | finishing | stopped
  deriving DecidableEq, Repr

/-- The persistent store. `room` holds the records whose owners wait for room in the queue (R146). `settings` is the
SET_POLICY request given to the store; `setting` the one whose commit it waits for (R158). -/
structure Store where
  nv : NvArray
  policy : Policy
  device : DeviceRec
  queue : List Queued := []
  room : List Queued := []
  current : Option Queued := none
  retrying : Bool := false
  retries : BitVec 16 := 0
  failed : Option RecId := none
  damage : BitVec 30 := 0
  mode : StoreMode := .running
  settings : Option Request := none
  setting : Option Request := none
  warned : Bool := false
  deriving DecidableEq, Repr

/-! ### Exchange unit and status page -/

/-- The exchange unit. `mem` holds the request slots and the data buffers (R159). -/
structure Exchange where
  mem : List Host.Cell := []
  held : BitVec 32 := 0
  scanPending : Bool := false
  takePtr : RSlot := 31
  sectorQ : List Request := []
  controlQ : List Request := []
  enrollQ : List Request := []
  followers : List Request := []
  attn : BitVec 8 := 0
  level : BitVec 16 := 0
  scanCode : BitVec 4 := 0
  run : Bool := false
  continuous : Bool := false
  scanLeft : Nat := 0
  warned : Bool := false
  deriving DecidableEq, Repr

/-- The eight sections of the status page (section 9.9). -/
inductive Section where
  | device | volumes | domains | window | erase | link | temperature | keypad
  deriving DecidableEq, Repr

/-- A section of the status page: its change counter and the bytes after it (R172). -/
structure PageSection where
  counter : BitVec 16 := 0
  body : List Byte
  deriving DecidableEq, Repr

/-- The status page (R179). -/
structure Page where
  device : PageSection
  volumes : PageSection
  domains : PageSection
  window : PageSection
  erase : PageSection
  link : PageSection
  temperature : PageSection
  keypad : PageSection
  deriving DecidableEq, Repr

/-- The start-up sequence (R150 to R156): the step due next, 2 to 6, or 0 when start-up has ended; the domain whose
wipe the examination of step 4 waits for; whether step 5 has asked for IDENT; whether step 6 has begun (R156), and whether
it waits for the DEVICE commit of R155. -/
structure StartUp where
  next : Nat := 2
  examining : Option Domain := none
  identAsked : Bool := false
  sixBegun : Bool := false
  deviceCommit : Bool := false
  deriving DecidableEq, Repr

/-- The whole part. -/
structure State where
  pending : List Instr
  power : PowerState
  device : DeviceState
  startUp : StartUp
  ms : Nat
  msOfSecond : Nat
  draws : Nat
  signals : Signals
  guard : Guard
  cred : Credential
  lockout : Lockout
  keypad : Keypad
  sector : SectorPath
  link : Link
  erase : Erase
  temp : Temperature
  supply : Supply
  store : Store
  exch : Exchange
  page : Page
  deriving DecidableEq, Repr

/-- The inputs sampled from the default POLICY (R50, R157): the model's choice until the first sampling (log 9). -/
def DomainState.initial (p : Sampled) : DomainState := { inputs := p }

/-- The status page at the end of step 1: every change counter 0 (R150, R172) and every byte 0, but for what the
temperature section (R138) and the keypad mode section (R86) show from start-up on (log 9). -/
def Page.initial : Page :=
  { device := ⟨0, List.replicate 14 0⟩
    volumes := ⟨0, List.replicate 142 0⟩
    domains := ⟨0, List.replicate 46 0⟩
    window := ⟨0, List.replicate 14 0⟩
    erase := ⟨0, List.replicate 94 0⟩
    link := ⟨0, List.replicate 30 0⟩
    temperature := ⟨0, [0, 0, 0, 0, 80, 10, 70, 0x6E, 0, 0, 0, 0, 0, 0]⟩
    keypad := ⟨0, [0, 2, 0, 0, 4, 1, 1, 0, 6, 0, 0, 0, 0, 0]⟩ }

/-- The part at the end of step 1 of start-up (R150), with the factory records of R145 and a good supply: STARTING,
with step 2 due next (log 1). -/
def State.reset : State :=
  { pending := []
    power := .on
    device := .starting
    startUp := {}
    ms := 0
    msOfSecond := 0
    draws := 0
    signals := {}
    guard := { vols := Vector.replicate 8 { data := VolRec.absent } }
    cred := { slots := Vector.replicate 16 {} }
    lockout := { normal := DomainState.initial ⟨5, 30, 3600, 20⟩, recovery := DomainState.initial ⟨3, 60, 36000, 10⟩ }
    keypad := { keys := Vector.replicate 12 {}, settings := ⟨4, 1, 1, 0, 6⟩ }
    sector := {}
    link := {}
    erase := {}
    temp := {}
    supply := {}
    store := { nv := NvArray.factory, policy := Policy.defaults, device := ⟨false, 0⟩ }
    exch := {}
    page := Page.initial }

end Sys2Proof.Machine
end

