-- ==== Sys2Proof/Machine/Ops.lean ====
section
/-! DEFINITION. The shared operations below all blocks: updating one block of the state, the exchange memory as cells
in one canonical form, byte order, the volumes and slots by number, and the signals handed to blocks. -/

namespace Sys2Proof.Machine

/-! ### Updating one block -/

/-- Updates the `guard` part alone. -/
def State.modGuard (s : State) (g : Guard → Guard) : State := { s with guard := g s.guard }

/-- Updates the `cred` part alone. -/
def State.modCred (s : State) (g : Credential → Credential) : State := { s with cred := g s.cred }

/-- Updates the `lockout` part alone. -/
def State.modLockout (s : State) (g : Lockout → Lockout) : State := { s with lockout := g s.lockout }

/-- Updates the `keypad` part alone. -/
def State.modKeypad (s : State) (g : Keypad → Keypad) : State := { s with keypad := g s.keypad }

/-- Updates the `sector` part alone. -/
def State.modSector (s : State) (g : SectorPath → SectorPath) : State := { s with sector := g s.sector }

/-- Updates the `link` part alone. -/
def State.modLink (s : State) (g : Link → Link) : State := { s with link := g s.link }

/-- Updates the `erase` part alone. -/
def State.modErase (s : State) (g : Erase → Erase) : State := { s with erase := g s.erase }

/-- Updates the `temp` part alone. -/
def State.modTemp (s : State) (g : Temperature → Temperature) : State := { s with temp := g s.temp }

/-- Updates the `supply` part alone. -/
def State.modSupply (s : State) (g : Supply → Supply) : State := { s with supply := g s.supply }

/-- Updates the `store` part alone. -/
def State.modStore (s : State) (g : Store → Store) : State := { s with store := g s.store }

/-- Updates the `exch` part alone. -/
def State.modExch (s : State) (g : Exchange → Exchange) : State := { s with exch := g s.exch }

/-- Updates the `page` part alone. -/
def State.modPage (s : State) (g : Page → Page) : State := { s with page := g s.page }

/-- Updates the `startUp` part alone. -/
def State.modStartUp (s : State) (g : StartUp → StartUp) : State := { s with startUp := g s.startUp }

/-- Updates the `signals` part alone. -/
def State.modSignals (s : State) (g : Signals → Signals) : State := { s with signals := g s.signals }

/-! ### Bytes -/

/-- `n` bytes of a number, least significant first (10_formats.md). -/
def leBytes : Nat → Nat → List Byte
  | 0, _ => []
  | n + 1, x => BitVec.ofNat 8 x :: leBytes n (x / 256)

/-- The number that bytes spell, least significant first (10_formats.md). -/
def ofLeBytes : List Byte → Nat
  | [] => 0
  | b :: t => b.toNat + 256 * ofLeBytes t

/-- 512 bytes as a sector, and back. -/
def sectorOfBytes (bs : List Byte) : Sector := BitVec.ofNat 4096 (ofLeBytes bs)

/-- The 512 bytes of a sector. -/
def bytesOfSector (x : Sector) : List Byte := leBytes 512 x.toNat

/-- A flag as a bit. -/
def bit (b : Bool) : Nat := if b then 1 else 0

/-- One more, up to 65535 (the saturating counts of R1, R105, R108, R147). -/
def satInc (n : Nat) : Nat := min (n + 1) 65535

/-- A 16-bit count incremented, saturating at 65535. -/
def satInc16 (n : BitVec 16) : BitVec 16 := if n = 0xFFFF then n else n + 1

/-! ### Exchange memory (R159) -/

/-- What a byte reads as. A byte that is not listed reads zero: start-up clears the memory (R159). -/
def readByte : List Host.Cell → Nat → Byte
  | [], _ => 0
  | (k, v) :: t, a => if k = a then v else readByte t a

/-- Writes one byte, keeping the cells strictly rising and none of them zero. -/
def writeByte : List Host.Cell → Nat → Byte → List Host.Cell
  | [], a, b => if b = 0 then [] else [(a, b)]
  | (k, v) :: t, a, b =>
    if a < k then (if b = 0 then (k, v) :: t else (a, b) :: (k, v) :: t)
    else if a = k then (if b = 0 then t else (a, b) :: t)
    else (k, v) :: writeByte t a b

/-- Writes bytes from an address upward. -/
def writeBytes : List Host.Cell → Nat → List Byte → List Host.Cell
  | m, _, [] => m
  | m, a, b :: t => writeBytes (writeByte m a b) (a + 1) t

/-- Reads `n` bytes from an address upward. -/
def readBytes (m : List Host.Cell) : Nat → Nat → List Byte
  | _, 0 => []
  | a, n + 1 => readByte m a :: readBytes m (a + 1) n

/-- The canonical form: addresses strictly rising from `low`, no listed byte zero. -/
def Memory.wfFrom : Nat → List Host.Cell → Bool
  | _, [] => true
  | low, (k, v) :: t => low ≤ k && v ≠ 0 && Memory.wfFrom (k + 1) t

/-- The memory is in canonical form. -/
def Memory.wf (m : List Host.Cell) : Bool := Memory.wfFrom 0 m

/-- The first address of request slot `n` (R176). -/
def slotAddr (n : RSlot) : Nat := 0x40 * n.val

/-- The first address of data buffer `n` (R159). -/
def bufAddr (n : Nat) : Nat := 0x1000 + 0x200 * (n % 16)

/-! ### Volumes and credential slots by number -/

/-- Volume `v` as the guard holds it. -/
def State.vol (s : State) (v : Vol) : Volume := s.guard.vols[v]

/-- Changes volume `v` alone. -/
def State.modVol (s : State) (v : Vol) (g : Volume → Volume) : State :=
  s.modGuard fun x => { x with vols := x.vols.set v (g x.vols[v]) }

/-- Credential slot `i`. -/
def State.cslot (s : State) (i : CSlot) : CredSlot := s.cred.slots[i]

/-- Replaces credential slot `i`. -/
def State.setSlot (s : State) (i : CSlot) (c : CredSlot) : State :=
  s.modCred fun x => { x with slots := x.slots.set i c }

/-- All volumes in ascending order. -/
def allVols : List Vol := List.finRange 8

/-- All credential slots in ascending order. -/
def allSlots : List CSlot := List.finRange 16

/-- All request slots in ascending order. -/
def allRSlots : List RSlot := List.finRange 32

/-- Whether a set of volumes names `v`. -/
def inSet (m : VolSet) (v : Vol) : Bool := m.getLsbD v.val

/-- The set of one volume. -/
def single (v : Vol) : VolSet := 1#8 <<< v.val

/-- The volumes for which `p` holds, as a set. -/
def setOf (p : Vol → Bool) : VolSet := allVols.foldl (fun m v => if p v then m ||| single v else m) 0

/-- Volume `v` is OPEN or OPEN_RO. -/
def Volume.isOpen (v : Volume) : Bool := v.data.state = .opened || v.data.state = .openRo

/-- One of the domains' records. -/
def State.domain (s : State) : Domain → DomainState
  | .normal => s.lockout.normal
  | .recovery => s.lockout.recovery

/-- Replaces one domain's record. -/
def State.setDomain (s : State) (d : Domain) (x : DomainState) : State :=
  match d with
  | .normal => s.modLockout fun l => { l with normal := x }
  | .recovery => s.modLockout fun l => { l with recovery := x }

/-! ### Orders and events between blocks -/

/-- Puts an order into the guard's inbox. -/
def State.tellGuard (s : State) (o : GuardOrder) : State := s.modGuard fun g => { g with inbox := g.inbox ++ [o] }

/-- Tells the credential unit something. -/
def State.tellCred (s : State) (e : CredEvent) : State := s.modCred fun c => { c with inbox := c.inbox ++ [e] }

/-- Tells the lockout unit something. -/
def State.tellLockout (s : State) (e : LockEvent) : State := s.modLockout fun l => { l with inbox := l.inbox ++ [e] }

/-- Gives the keypad unit an order, behind the key events that wait (R74). -/
def State.tellKeypad (s : State) (o : KeyOrder) : State :=
  s.modKeypad fun k => { k with inbox := k.inbox ++ [o], ahead := k.ahead ++ [k.queue.length] }

/-- Puts an event into the erase engine's inbox. -/
def State.tellEngine (s : State) (e : EngineEvent) : State := s.modErase fun x => { x with inbox := x.inbox ++ [e] }

/-! ### Signals -/

/-- The signal that an order of the guard is, if it is one. -/
def GuardOrder.signal? : GuardOrder → Option Signal
  | .signal x => some x
  | _ => none

/-- The signal that an event of the credential unit is, if it is one. -/
def CredEvent.signal? : CredEvent → Option Signal
  | .signal x => some x
  | _ => none

/-- The signal that an event of the lockout unit is, if it is one. -/
def LockEvent.signal? : LockEvent → Option Signal
  | .signal x => some x
  | _ => none

/-- The signal that an order of the keypad unit is, if it is one. -/
def KeyOrder.signal? : KeyOrder → Option Signal
  | .signal x => some x
  | _ => none

/-- The signal that an event of the erase engine is, if it is one. -/
def EngineEvent.signal? : EngineEvent → Option Signal
  | .signal x => some x
  | _ => none

/-- An event of the erase engine is the trigger of the orphan check (R153). -/
def EngineEvent.isOrphans : EngineEvent → Bool
  | .orphans _ => true
  | _ => false

/-- The signals waiting at a block, oldest first. -/
def State.signalsAt (s : State) : Block → List Signal
  | .exchange => s.signals.exchange
  | .guard => s.guard.inbox.filterMap GuardOrder.signal?
  | .credential => s.cred.inbox.filterMap CredEvent.signal?
  | .lockout => s.lockout.inbox.filterMap LockEvent.signal?
  | .keypad => s.keypad.inbox.filterMap KeyOrder.signal?
  | .sector => s.signals.sector
  | .link => s.signals.link
  | .engine => s.erase.inbox.filterMap EngineEvent.signal?
  | .store => s.signals.store

/-- No order and no event stands before the first signal at a block (R4, R29, R49, R83, R110). At the blocks without an inbox
nothing else waits (log 4). -/
def State.signalFirst (s : State) : Block → Bool
  | .guard => (s.guard.inbox.head?.bind GuardOrder.signal?).isSome
  | .credential => (s.cred.inbox.head?.bind CredEvent.signal?).isSome
  | .lockout => (s.lockout.inbox.head?.bind LockEvent.signal?).isSome
  | .keypad => (s.keypad.inbox.head?.bind KeyOrder.signal?).isSome
  | .engine => (s.erase.inbox.head?.bind EngineEvent.signal?).isSome
  | .exchange => true
  | .sector => true
  | .link => true
  | .store => true

/-- Hands a signal to a block, behind what waits there (R137, R140, R141, R148). -/
def State.hand (s : State) (x : Signal) : Block → State
  | .exchange => s.modSignals fun q => { q with exchange := q.exchange ++ [x] }
  | .guard => s.tellGuard (.signal x)
  | .credential => s.tellCred (.signal x)
  | .lockout => s.tellLockout (.signal x)
  | .keypad => s.tellKeypad (.signal x)
  | .sector => s.modSignals fun q => { q with sector := q.sector ++ [x] }
  | .link => s.modSignals fun q => { q with link := q.link ++ [x] }
  | .engine => s.tellEngine (.signal x)
  | .store => s.modSignals fun q => { q with store := q.store ++ [x] }

/-- Takes the first such signal away from what waits at a block. -/
def State.dropSignal (s : State) (x : Signal) : Block → State
  | .exchange => s.modSignals fun q => { q with exchange := q.exchange.erase x }
  | .guard => s.modGuard fun g => { g with inbox := g.inbox.erase (.signal x) }
  | .credential => s.modCred fun c => { c with inbox := c.inbox.erase (.signal x) }
  | .lockout => s.modLockout fun l => { l with inbox := l.inbox.erase (.signal x) }
  | .keypad => s.modKeypad fun k =>
    { k with inbox := k.inbox.erase (.signal x), ahead := k.ahead.eraseIdx (k.inbox.idxOf (.signal x)) }
  | .sector => s.modSignals fun q => { q with sector := q.sector.erase x }
  | .link => s.modSignals fun q => { q with link := q.link.erase x }
  | .engine => s.modErase fun e => { e with inbox := e.inbox.erase (.signal x) }
  | .store => s.modSignals fun q => { q with store := q.store.erase x }

/-- The nine blocks that take supply signals (R140). -/
def allBlocks : List Block :=
  [.exchange, .guard, .credential, .lockout, .keypad, .sector, .link, .engine, .store]

/-- Hands a signal to every block. -/
def State.handAll (s : State) (x : Signal) : State := allBlocks.foldl (fun t b => t.hand x b) s

/-- The part works: it is powered and not held in RESET (R150). -/
def State.alive (s : State) : Bool := s.power = .on

/-- Takes the first signal waiting at `b` if it is `x`: the state without it. -/
def State.takeSignal (s : State) (b : Block) (x : Signal) : Option State :=
  if (s.signalsAt b).head? = some x then some (s.dropSignal x b) else none

/-- The next outcome of a step that is never refused. -/
def go (s : State) : Host.Outcome State Fault Refusal := .next s

end Sys2Proof.Machine
end

