-- ==== Sys2Proof/Machine/Operands.lean ====
section
/-! DEFINITION. What the commands compute with: the parameters of requests (R176, R177), the clamps of the policy
codes (R50, R73, R108, R135, R157, R158), the lockout schedule and its report (R55, R60), plans, passes and stripes
(R107), the pace window (R120), link timeouts (R97) and extents (R2). -/

namespace Sys2Proof.Machine

/-! ### Request parameters (R176, R177) -/

/-- Byte `n` of the slot, 4 to 31, as read at the take. -/
def Request.byte (r : Request) (n : Nat) : Byte := r.params.getD (n - 4) 0

/-- A field of `k` bytes from byte `n`. -/
def Request.field (r : Request) (n k : Nat) : Nat := ofLeBytes ((List.range k).map fun i => r.byte (n + i))

/-- The volume that an index names, none outside 1 to 8. -/
def volOfIndex (n : Nat) : Option Vol :=
  if h : 1 ≤ n ∧ n ≤ 8 then some ⟨n - 1, by omega⟩ else none

/-- The credential slot that a number names, none above 15. -/
def slotOfNumber (n : Nat) : Option CSlot := if h : n < 16 then some ⟨n, h⟩ else none

/-- The request slot that a number names, none above 31. -/
def rslotOfNumber (n : Nat) : Option RSlot := if h : n < 32 then some ⟨n, h⟩ else none

/-- The kind of a kind code (R177). -/
def kindOfCode (b : Byte) : Option Kind :=
  if b = 0x01 then some .identify
  else if b = 0x02 then some .setPolicy
  else if b = 0x03 then some .cancel
  else if b = 0x10 then some .readSectors
  else if b = 0x11 then some .writeSectors
  else if b = 0x20 then some .lock
  else if b = 0x21 then some .defineVolume
  else if b = 0x22 then some .deleteVolume
  else if b = 0x30 then some .enroll
  else if b = 0x31 then some .revoke
  else if b = 0x40 then some .erase
  else if b = 0x41 then some .eraseControl
  else none

/-- The queue of a kind (R165). -/
def Kind.queue : Kind → QueueId
  | .readSectors => .sector
  | .writeSectors => .sector
  | .enroll => .enroll
  | .identify => .control
  | .setPolicy => .control
  | .cancel => .control
  | .lock => .control
  | .defineVolume => .control
  | .deleteVolume => .control
  | .revoke => .control
  | .erase => .control
  | .eraseControl => .control

/-- The capacity of a kind queue (R165). -/
def QueueId.room : QueueId → Nat
  | .sector => 4
  | .control => 4
  | .enroll => 1

/-- The role of a role byte that ENROLL may name (R40, R177). -/
def roleOfCode (b : Byte) : Option Role :=
  if b = 1 then some .user else if b = 2 then some .admin else if b = 3 then some .recovery
  else if b = 4 then some .wipe else none

/-- The role codes of ENROLL and REVOKE (R177). -/
def Role.code : Role → Byte
  | .empty => 0
  | .user => 1
  | .admin => 2
  | .recovery => 3
  | .wipe => 4
  | .damaged => 5

/-- The plan of a plan byte (R177). -/
def planOfCode (n : Nat) : Option Plan :=
  if n = 1 then some .quick else if n = 2 then some .clear else if n = 3 then some .full else none

/-- The plan numbers of ERASE and SET_POLICY (R177). -/
def Plan.code : Plan → Byte
  | .quick => 1
  | .clear => 2
  | .full => 3

/-- The wipe plan of its policy code: FULL for any other code (R111). -/
def wipePlanOf (n : Nat) : Plan := (planOfCode n).getD .full

/-- The post-completion action of its policy code: NONE for any other code (R108). -/
def actionOf (n : Nat) : Action := if n = 1 then .lockAll else if n = 2 then .halt else .none

/-- The action codes (R177). -/
def Action.code : Action → Byte
  | .none => 0
  | .lockAll => 1
  | .halt => 2

/-- The erase share of its policy code, 1 to 8 (R108). -/
def shareOf (n : Nat) : Nat := if n = 0 then 1 else min n 8

/-! ### Domain inputs (R50) -/

/-- The value of base code `b` in seconds. -/
def baseSeconds (b : Nat) : Nat := [5, 10, 30, 60, 300].getD b 300

/-- The value of cap code `c` in seconds. -/
def capSeconds (c : Nat) : Nat := [60, 300, 900, 1800, 3600, 7200, 14400, 36000].getD c 36000

/-- The free attempts used for a code: 0 clamps to 1. -/
def clampA (a : Nat) : Nat := min (max a 1) 15

/-- The wipe threshold used, with the domain's clamped A. -/
def clampW (a w : Nat) : Nat := if w = 0 then 0 else min (if w ≤ a then a + 1 else w) 63

/-- Sampling a domain's inputs (R50). -/
def sampleInputs (p : DomainPolicy) : Sampled :=
  { a := clampA p.a, b := baseSeconds p.b, cap := capSeconds p.c, w := clampW (clampA p.a) p.w }

/-- The inputs of one domain in the POLICY record. -/
def Policy.domain (p : Policy) : Domain → DomainPolicy
  | .normal => p.normal
  | .recovery => p.recovery

/-- The duration D(s) of lockout step `s` (R55). -/
def lockoutSeconds (i : Sampled) (s : Nat) : Nat := min (i.b * 2 ^ (s - 1)) i.cap

/-- The unit and value of the remaining-time report (R60): minutes when `true`. -/
def remainingReport (d : DomainState) : Bool × Nat :=
  if d.lockedOut then
    (if d.left ≤ 635 then (false, (d.left + 4) / 5) else (true, min ((d.left + 299) / 300) 127))
  else (false, 0)

/-! ### Keypad settings (R73) -/

/-- The keypad settings in use for a POLICY record. -/
def keySettings (p : Policy) : KeySettings :=
  { debounce := min (max p.debounce 2) 15
    hold := min p.hold 7
    entryTimeout := min p.entryTimeout 3
    cadence := min p.cadence 7
    minPin := min (max p.minPin 6) 16 }

/-- The hold time of a hold code, in ms (R69). -/
def holdMs (h : Nat) : Nat := (h + 1) * 1000

/-- The entry timeout of its code, in ms (R73). -/
def entryTimeoutMs (c : Nat) : Nat := [5000, 10000, 20000, 30000].getD c 30000

/-- The enrollment stage timeout, in ms (R81). -/
def stageTimeoutMs : Nat := 60000

/-- The number of a key in the twelve: digits 0 to 9, ENTER 10, CLEAR 11. -/
def Key.index : Key → Fin 12
  | .digit d => ⟨d.val, by omega⟩
  | .enter => 10
  | .clear => 11

/-- The key of a number. -/
def keyOfIndex (i : Fin 12) : Key :=
  if h : i.val < 10 then .digit ⟨i.val, h⟩ else if i.val = 10 then .enter else .clear

/-! ### SET_POLICY (R158, R177) -/

/-- The inputs of one domain from four bytes, clamped as R50 gives. -/
def Request.domainPolicy (r : Request) (n : Nat) : DomainPolicy :=
  let a := clampA ((r.byte n).toNat % 16)
  { a := a, b := min ((r.byte (n + 1)).toNat % 8) 4, c := (r.byte (n + 2)).toNat % 8
    w := clampW a (r.byte (n + 3)).toNat }

/-- The settings of a SET_POLICY request, each clamped as its own rule gives (R158). -/
def Request.policy (r : Request) : Policy :=
  { normal := r.domainPolicy 4
    recovery := r.domainPolicy 8
    debounce := min (max ((r.byte 12).toNat % 16) 2) 15
    hold := (r.byte 13).toNat % 8
    entryTimeout := min (r.byte 14).toNat 3
    cadence := (r.byte 15).toNat % 8
    minPin := min (max (r.byte 16).toNat 6) 16
    wipePlan := (wipePlanOf (r.byte 17).toNat).code.toNat
    stopOnFault := (r.byte 18).getLsbD 0
    eraseShare := shareOf (r.byte 19).toNat
    action := (actionOf (r.byte 20).toNat).code.toNat
    hot := min ((r.byte 21).toNat % 16) 8
    hyst := (r.byte 22).toNat % 4 }

/-- The settings as stored, in the layout of bytes 4 to 22 (R177). -/
def Policy.bytes (p : Policy) : List Byte :=
  [p.normal.a, p.normal.b, p.normal.c, p.normal.w, p.recovery.a, p.recovery.b, p.recovery.c, p.recovery.w,
   p.debounce, p.hold, p.entryTimeout, p.cadence, p.minPin, p.wipePlan, bit p.stopOnFault, p.eraseShare, p.action,
   p.hot, p.hyst].map (BitVec.ofNat 8)

/-! ### Temperature (R134, R135) -/

/-- A conversion clamped to -40 to 125. -/
def clampTemp (t : Int) : Int := max (-40) (min t 125)

/-- The hot threshold H of a hot code. -/
def hotThreshold (h : Nat) : Int := 60 + 5 * (min h 8 : Nat)

/-- The hysteresis of its code. -/
def hysteresis (y : Nat) : Int := 5 * ((min y 3 : Nat) + 1)

/-- The critical threshold, 110 degrees. -/
def criticalAt : Int := 110

/-! ### Credential slots (R25, R27, R41) -/

/-- A slot is occupied when its role is anything but EMPTY (R24). -/
def CredSlot.occupied (c : CredSlot) : Bool := c.role ≠ .empty

/-- The domain of a role (R25). -/
def Role.domain : Role → Option Domain
  | .user => some .normal
  | .admin => some .normal
  | .wipe => some .normal
  | .recovery => some .recovery
  | .empty => none
  | .damaged => none

/-- The slot binds volumes by its wrap list: USER, ADMIN or RECOVERY (R25). -/
def Role.bindsByWraps : Role → Bool
  | .user => true
  | .admin => true
  | .recovery => true
  | .wipe => false
  | .empty => false
  | .damaged => false

/-- The nominal duration of a derivation in ms (R27). -/
def derivationMs (w : BitVec 2) : Nat := [15, 60, 240, 960].getD w.toNat 960

/-- A work code byte: above 3 it is taken as 3 (R27, R40). -/
def workOf (b : Byte) : BitVec 2 := BitVec.ofNat 2 (min b.toNat 3)

/-- The verifier of a derivation: its first 16 bytes (R27). -/
def verifierOf (x : BitVec 256) : Half := x.extractLsb' 0 128

/-- The KEK of a derivation: its last 16 bytes (R27). -/
def kekOf (x : BitVec 256) : Kek := x.extractLsb' 128 128

/-- Wrapping a media key under a KEK for a volume (R28). -/
def wrapEntry (kek : Kek) (v : Vol) (key : MediaKey) : WrapEntry :=
  { vol := v, wrapped := Config.wrapPerm kek v key, tag := Config.wrapTag kek v (Config.wrapPerm kek v key) }

/-- Unwrapping an entry: no key when the tag recomputed differs from the stored one (R28). -/
def unwrap (kek : Kek) (e : WrapEntry) : Option MediaKey :=
  if Config.wrapTag kek e.vol e.wrapped = e.tag then some ((Config.wrapPerm kek e.vol).symm e.wrapped) else none

/-- Inserting a wrap entry in ascending volume order, an entry for the same volume being replaced (R26). -/
def insertWrap (e : WrapEntry) : List WrapEntry → List WrapEntry
  | [] => [e]
  | x :: t => if e.vol < x.vol then e :: x :: t else if e.vol = x.vol then e :: t else x :: insertWrap e t

/-- Whether a PIN of length `n` is allowed for a role, with the minimum PIN length in force (R41). -/
def lengthAllowed (role : Role) (minPin n : Nat) : Bool :=
  if role = .recovery then n = 16 else 6 ≤ n && n ≤ 16 && minPin ≤ n

/-! ### Volumes (R1, R2, R9) -/

/-- The idle period in seconds of an idle code, none for code 0 (R9). -/
def idlePeriod (c : Nat) : Option Nat :=
  if c = 0 then none else some ([60, 120, 300, 600, 1200, 1800, 3600].getD (c - 1) 3600)

/-- An extent lies within a capacity (R2). -/
def fits (r : VolRec) (cap : Nat) : Bool := r.first + r.count ≤ cap

/-- Two extents overlap: some sector number lies in both (R2). -/
def overlaps (f1 c1 f2 c2 : Nat) : Bool := f1 < f2 + c2 && f2 < f1 + c1 && 0 < c1 && 0 < c2

/-! ### Plans, passes and stripes (R107, R113) -/

/-- The passes of a plan, in order. -/
def Plan.passes : Plan → List Pass
  | .quick => [.key]
  | .clear => [.key, .discard]
  | .full => [.key, .fill, .verify, .discard]

/-- The strength of a plan: FULL > CLEAR > QUICK. -/
def Plan.strength : Plan → Nat
  | .quick => 0
  | .clear => 1
  | .full => 2

/-- The stronger of two plans. -/
def Plan.stronger (p q : Plan) : Plan := if p.strength < q.strength then q else p

/-- The number of stripes of an extent of `count` sectors. -/
def stripes (count : Nat) : Nat := (count + 255) / 256

/-- The length of stripe `j`. -/
def stripeLength (count j : Nat) : Nat := min 256 (count - 256 * j)

/-- The pass at an entry's cursor, none past the end. -/
def EraseEntry.pass (e : EraseEntry) : Option Pass := e.passes[e.passIndex]?

/-- The passes counted as done (R113): those the cursor has moved past, and the one at the cursor when it has issued a
command. -/
def EraseEntry.donePasses (e : EraseEntry) : List Pass := e.passes.take (if e.begun then e.passIndex + 1 else e.passIndex)

/-- The entry after a trigger with plan `p` and origin WIPE or not is merged into it (R113). -/
def EraseEntry.merge (e : EraseEntry) (p : Plan) (wipe : Bool) : EraseEntry :=
  let plan := e.plan.stronger p
  let e' := { e with wipe := e.wipe || wipe }
  if plan = e.plan then e'
  else
    let passes := e.donePasses ++ plan.passes.filter fun x => !e.donePasses.contains x
    if e.begun then { e' with plan := plan, passes := passes }
    else { e' with plan := plan, passes := passes, passIndex := e.donePasses.length, nextStripe := 0 }

/-- The pace window accepts a measured time (R120). -/
def paceAccepts (expect t : Nat) : Bool := expect ≤ 2 * t && t ≤ 2 * expect

/-- The timeout of a stripe command in 0.1 ms units (R97). -/
def stripeTimeout (expect : Nat) : Nat := max 10000 (4 * expect)

/-- The timeout of IDENT and of the sector path's commands in 0.1 ms units (R97). -/
def sectorTimeout : Nat := 2500

end Sys2Proof.Machine
end

