-- ==== Sys2Proof/Machine/Flags.lean ====
section
/-! DEFINITION. Codes, flags and outputs: status codes (R178), the attention flags and the ALERT level (R174), the
erase engine's state (R110), the indicator patterns and outputs (R84, R85), and the five registers as read (R175). -/

namespace Sys2Proof.Machine

/-- The status codes of R178. -/
def Status.code : Status → Byte
  | .ok => 0x00
  | .badKind => 0x01
  | .badParam => 0x02
  | .chainRange => 0x03
  | .skipped => 0x04
  | .cancelled => 0x05
  | .notCancellable => 0x06
  | .notAuthorized => 0x07
  | .halted => 0x08
  | .hot => 0x09
  | .power => 0x0A
  | .absent => 0x10
  | .locked => 0x11
  | .readOnly => 0x12
  | .range => 0x13
  | .erasing => 0x14
  | .blank => 0x15
  | .faultVolume => 0x16
  | .lockedDuring => 0x17
  | .linkFault => 0x18
  | .flashError => 0x19
  | .overlap => 0x20
  | .notBlank => 0x21
  | .slotInUse => 0x22
  | .lastAdmin => 0x23
  | .keyUnavailable => 0x24
  | .duplicate => 0x25
  | .mismatch => 0x26
  | .timeout => 0x27
  | .keypadAbort => 0x28
  | .badLength => 0x29
  | .wipeActive => 0x2A

/-! ### Attention and ALERT (R174, R175) -/

/-- The eight attention flags, in the order of the ATTN bits. -/
inductive Attn where
  | done | volume | lockout | erase | thermal | link | store | supply
  deriving DecidableEq, Repr

/-- The ATTN bit of a flag (section 10.1). -/
def Attn.index : Attn → Nat
  | .done => 0
  | .volume => 1
  | .lockout => 2
  | .erase => 3
  | .thermal => 4
  | .link => 5
  | .store => 6
  | .supply => 7

/-- Sets an attention flag, whatever its level (R174). -/
def State.attend (s : State) (a : Attn) : State :=
  s.modExch fun x => { x with attn := x.attn ||| (1#8 <<< a.index) }

/-- The level of flag `n` in ATTN_LVL. -/
def flagLevel (level : BitVec 16) (n : Nat) : Nat := (level.extractLsb' (2 * n) 2).toNat

/-- The level the ALERT lines show: the highest among the flags that are set, 0 when there is none; low while the part
is held in RESET or without power (R174, R150). -/
def State.alertLevel (s : State) : Nat :=
  if s.alive then
    (List.range 8).foldl (fun m n => if s.exch.attn.getLsbD n then max m (flagLevel s.exch.level n) else m) 0
  else 0

/-- The IDENT register: vendor 0C47H, part 46H, revision 01H (R175). -/
def identRegister : Word := 0x0C474601

/-- SCAN_CFG as it reads back (R163, R175). -/
def State.scanCfg (s : State) : Word :=
  BitVec.ofNat 32 (s.exch.scanCode.toNat + 16 * bit s.exch.run + 32 * bit s.exch.continuous)

/-- A register read (R175); none while the part is held in RESET or without power. -/
def State.regRead (s : State) (n : BitVec 3) : Option Word :=
  if s.alive then
    some (if n = 0 then identRegister else if n = 1 then s.exch.attn.setWidth 32
      else if n = 2 then s.exch.level.setWidth 32 else if n = 4 then s.scanCfg else 0)
  else none

/-! ### The erase engine's state (R110) -/

/-- The states of R110. -/
inductive EngineState where
  | idle | running | paused | heldThermal | heldLink | heldSupply
  deriving DecidableEq, Repr

/-- The engine state: the first row of R110's table that holds. -/
def Erase.state (e : Erase) : EngineState :=
  match e.list with
  | [] => .idle
  | h :: _ =>
    if e.supplyHold then .heldSupply
    else if e.linkHold then .heldLink
    else if e.thermalHold then .heldThermal
    else if e.pause && !h.wipe then .paused
    else .running

/-- The engine state codes (R179). -/
def EngineState.code : EngineState → Byte
  | .idle => 0
  | .running => 1
  | .paused => 2
  | .heldThermal => 3
  | .heldLink => 4
  | .heldSupply => 5

/-! ### Indicators (R84, R85) -/

/-- Some volume is OPEN or OPEN_RO. -/
def State.anyOpen (s : State) : Bool := allVols.any fun v => (s.vol v).isOpen

/-- The pattern to show: the first of R85's table whose condition holds. -/
def State.patternNow (s : State) : Nat :=
  if s.device = .halted then 1
  else if s.device = .starting then 2
  else if s.keypad.flash.isSome then 3
  else if s.keypad.asm = .verifying then 4
  else if s.lockout.normal.lockedOut || s.lockout.recovery.lockedOut then 5
  else if s.device = .unprovisioned then 6
  else if s.erase.state ≠ .idle && s.erase.state ≠ .paused then 7
  else if s.cred.window.isSome then 8
  else if s.anyOpen then 9
  else 10

/-- One phase of a pattern: its length in ms (0 for steady) and the outputs RED, GREEN, BLUE. -/
structure Blink where
  ms : Nat
  red : Bool
  green : Bool
  blue : Bool
  deriving DecidableEq, Repr

/-- The phases of a one-shot (R84). -/
def OneShot.phases : OneShot → List Blink
  | .reject => [⟨150, true, false, false⟩, ⟨150, false, false, false⟩, ⟨150, true, false, false⟩,
      ⟨150, false, false, false⟩, ⟨150, true, false, false⟩, ⟨150, false, false, false⟩]
  | .accept => [⟨500, false, true, false⟩, ⟨200, false, false, false⟩]
  | .noPin => [⟨250, false, false, true⟩, ⟨250, false, false, false⟩, ⟨250, false, false, true⟩,
      ⟨250, false, false, false⟩]

/-- The length of a one-shot (R84). -/
def OneShot.length : OneShot → Nat
  | .reject => 900
  | .accept => 700
  | .noPin => 1000

/-- The phases of the pattern shown (R85), each pattern from its first phase. That the alternating pattern of VERIFYING starts with
RED and not with GREEN is the model's choice (log 73). -/
def State.phases (s : State) : List Blink :=
  match s.keypad.pattern with
  | 1 => [⟨100, true, false, true⟩, ⟨100, false, false, false⟩]
  | 2 => [⟨0, true, true, true⟩]
  | 3 => (s.keypad.flash.map OneShot.phases).getD [⟨0, false, false, false⟩]
  | 4 => [⟨250, true, false, false⟩, ⟨250, false, true, false⟩]
  | 5 => [⟨100, true, false, false⟩, ⟨100, false, false, false⟩]
  | 6 => [⟨1000, false, false, true⟩, ⟨1000, false, false, false⟩]
  | 7 => [⟨500, false, false, true⟩, ⟨500, false, false, false⟩]
  | 8 => [⟨0, false, s.anyOpen, true⟩]
  | 9 => [⟨0, false, true, false⟩]
  | _ => [⟨0, true, false, false⟩]

/-- The phase of the pattern shown that is on now. -/
def State.blink (s : State) : Blink := s.phases.getD s.keypad.phase ⟨0, false, false, false⟩

/-- The outputs RED, GREEN and BLUE: off while the part is held in RESET or without power (R150). -/
def State.indicators (s : State) : Bool × Bool × Bool :=
  if s.alive then (s.blink.red, s.blink.green, s.blink.blue) else (false, false, false)

/-- Starts the first phase of the pattern shown. -/
def State.startPattern (s : State) : State :=
  let t := s.modKeypad fun k => { k with phase := 0 }
  t.modKeypad fun k => { k with phaseLeft := t.blink.ms }

end Sys2Proof.Machine
end

