-- ==== Sys2Proof/Machine/PageOps.lean ====
section
/-! DEFINITION. The status page: what each section shows, byte by byte (R179), its rewrite together with its change
counter (R172), and the port's reads of the exchange memory (R159). -/

namespace Sys2Proof.Machine

/-- Zero bytes that fill a section or an entry (R179). -/
def zeros (n : Nat) : List Byte := List.replicate n 0

/-- The device state codes. -/
def DeviceState.code : DeviceState → Byte
  | .starting => 0
  | .unprovisioned => 1
  | .ready => 2
  | .halted => 3

/-- The supply condition codes. -/
def SupplyCond.code : SupplyCond → Byte
  | .good => 0
  | .warning => 1
  | .recovering => 2

/-- The volume state codes. -/
def VState.code : VState → Byte
  | .absent => 0
  | .locked => 1
  | .opened => 2
  | .openRo => 3
  | .erasing => 4
  | .blank => 5
  | .fault => 6

/-- The last erase result codes. -/
def EraseResult.code : EraseResult → Byte
  | .none => 0
  | .complete => 1
  | .completeSuspect => 2
  | .failed => 3
  | .aborted => 4

/-- The domain's number in the failed record field. -/
def Domain.code : Domain → Byte
  | .normal => 0
  | .recovery => 1

/-- The failed record's kind and index (R179). -/
def RecId.codes : RecId → List Byte
  | .policy => [1, 0]
  | .slot i => [2, BitVec.ofNat 8 i.val]
  | .volume v => [3, BitVec.ofNat 8 (v.val + 1)]
  | .domain d => [4, Domain.code d]
  | .eraseList => [5, 0]
  | .checkpoint => [6, 0]
  | .device => [7, 0]

/-- The link state codes. -/
def LinkState.code : LinkState → Byte
  | .down => 0
  | .ready => 1
  | .busy => 2
  | .fault => 3

/-- The pass codes. -/
def Pass.code : Pass → Byte
  | .key => 0
  | .fill => 1
  | .verify => 2
  | .discard => 3

/-- The temperature condition codes. -/
def TempCond.code : TempCond → Byte
  | .normal => 0
  | .hot => 1
  | .critical => 2

/-- The assembler state codes. -/
def Assembler.code : Assembler → Byte
  | .idle => 0
  | .digits => 1
  | .recoveryWait => 2
  | .recoveryDigits => 3
  | .enrollFirst => 4
  | .enrollSecond => 5
  | .verifying => 6

/-- The one-shot codes. -/
def OneShot.code : OneShot → Byte
  | .reject => 1
  | .accept => 2
  | .noPin => 3

/-- The device section after its counter. -/
def State.deviceBody (s : State) : List Byte :=
  [s.device.code, s.supply.cond.code] ++ leBytes 4 s.store.damage.toNat ++ leBytes 2 s.store.retries.toNat ++
    (s.store.failed.map RecId.codes).getD [0, 0] ++ zeros 4

/-- A volume entry (R4, R179). -/
def Volume.entry (v : Volume) : List Byte :=
  [VState.code v.data.state, (v.openedBy.map fun i => BitVec.ofNat 8 i.val).getD 0xFF, BitVec.ofNat 8 (bit v.data.writeProtect),
    BitVec.ofNat 8 v.data.idleCode] ++ leBytes 4 v.data.first ++ leBytes 4 v.data.count ++
    [EraseResult.code v.data.lastResult, 0] ++ leBytes 2 v.data.suspects

/-- The volumes section after its counter. -/
def State.volumesBody (s : State) : List Byte := zeros 14 ++ allVols.flatMap fun v => (s.vol v).entry

/-- A domain entry (R61, R179). -/
def DomainState.entry (d : DomainState) : List Byte :=
  [BitVec.ofNat 8 (bit d.lockedOut), BitVec.ofNat 8 d.f, BitVec.ofNat 8 d.step,
    BitVec.ofNat 8 (128 * bit (remainingReport d).1 + (remainingReport d).2)] ++ zeros 12

/-- The domains section after its counter, NORMAL first. -/
def State.domainsBody (s : State) : List Byte :=
  zeros 14 ++ s.lockout.normal.entry ++ s.lockout.recovery.entry

/-- The admin window section after its counter (R36). -/
def State.windowBody (s : State) : List Byte :=
  match s.cred.window with
  | none => [0, 0xFF, 0, 0, 0] ++ zeros 9
  | some w => [1, BitVec.ofNat 8 w.slot.val] ++ leBytes 2 w.left ++ [BitVec.ofNat 8 (bit w.held)] ++ zeros 9

/-- A pass sequence, two bits a pass, the first in bits 1 and 0. -/
def passBits : List Pass → Nat
  | [] => 0
  | p :: t => p.code.toNat + 4 * passBits t

/-- A list position (R131, R179); the head is ACTIVE. -/
def EraseEntry.position (e : EraseEntry) (active : Bool) : List Byte :=
  [BitVec.ofNat 8 (e.vol.val + 1), e.plan.code,
    BitVec.ofNat 8 (bit e.wipe + 2 * bit active + 4 * bit e.stopOnFault), BitVec.ofNat 8 e.share, e.action.code,
    BitVec.ofNat 8 e.passes.length, BitVec.ofNat 8 (passBits e.passes), 0]

/-- The positions of the list, the first of them ACTIVE. -/
def positions : List EraseEntry → List Byte
  | [] => []
  | h :: t => h.position true ++ t.flatMap fun e => e.position false

/-- The head's cursor and counters; `n` is its stripe count. -/
def EraseEntry.cursorBytes (e : EraseEntry) (n : Nat) : List Byte :=
  [BitVec.ofNat 8 (e.vol.val + 1), BitVec.ofNat 8 e.passIndex, (e.pass.map Pass.code).getD 0xFF,
    BitVec.ofNat 8 (bit e.begun)] ++ leBytes 4 e.nextStripe ++ leBytes 4 n ++ leBytes 2 e.suspects ++
    leBytes 2 e.mismatches

/-- The stripe count of a volume's extent (R107). -/
def State.stripesOf (s : State) (v : Vol) : Nat := stripes (s.vol v).data.count

/-- The erase section after its counter (R131, R179). That 51H to 5FH are 0 when the list is empty, for which R179 gives 50H
alone, is the model's choice (log 53). -/
def State.eraseBody (s : State) : List Byte :=
  [s.erase.state.code,
    BitVec.ofNat 8 (bit s.erase.pause + 2 * bit s.erase.thermalHold + 4 * bit s.erase.linkHold +
      8 * bit s.erase.supplyHold), BitVec.ofNat 8 s.erase.list.length] ++ zeros 11 ++
    (positions s.erase.list ++ zeros 64).take 64 ++
    (match s.erase.list with
     | [] => zeros 16
     | h :: _ => h.cursorBytes (s.stripesOf h.vol))

/-- The link section after its counter (R105). -/
def State.linkBody (s : State) : List Byte :=
  [s.link.state.code, BitVec.ofNat 8 (bit s.link.identified)] ++ leBytes 4 s.link.capacity.toNat ++
    leBytes 2 s.link.ef.toNat ++ leBytes 2 s.link.ed.toNat ++ leBytes 2 s.link.timeouts.toNat ++
    leBytes 2 s.link.malformed.toNat ++ leBytes 2 s.link.reissues.toNat ++ leBytes 2 s.link.mediaErrors.toNat ++
    leBytes 2 s.link.faults.toNat ++ zeros 10

/-- A temperature as a signed byte, 0 when there is none. -/
def tempByte (t : Option Int) : Byte := BitVec.ofInt 8 (t.getD 0)

/-- The temperature section after its counter (R138). -/
def State.temperatureBody (s : State) : List Byte :=
  [s.temp.cond.code, BitVec.ofNat 8 (bit s.temp.last.isSome), tempByte s.temp.last, tempByte s.temp.peak,
    BitVec.ofInt 8 s.temp.hot, BitVec.ofInt 8 s.temp.hyst, BitVec.ofInt 8 (s.temp.hot - s.temp.hyst), 0x6E] ++ zeros 6

/-- The keypad mode section after its counter (R86). -/
def State.keypadBody (s : State) : List Byte :=
  [s.keypad.asm.code, BitVec.ofNat 8 s.keypad.pattern,
    (if s.keypad.pattern = 3 then (s.keypad.flash.map OneShot.code).getD 0 else 0),
    BitVec.ofNat 8 (bit s.keypad.marker.isSome), BitVec.ofNat 8 s.keypad.settings.debounce,
    BitVec.ofNat 8 s.keypad.settings.hold, BitVec.ofNat 8 s.keypad.settings.entryTimeout,
    BitVec.ofNat 8 s.keypad.settings.cadence, BitVec.ofNat 8 s.keypad.settings.minPin] ++ zeros 5

/-- What a section shows now. -/
def State.body (s : State) : Section → List Byte
  | .device => s.deviceBody
  | .volumes => s.volumesBody
  | .domains => s.domainsBody
  | .window => s.windowBody
  | .erase => s.eraseBody
  | .link => s.linkBody
  | .temperature => s.temperatureBody
  | .keypad => s.keypadBody

/-- One section of the page. -/
def Page.get (p : Page) : Section → PageSection
  | .device => p.device
  | .volumes => p.volumes
  | .domains => p.domains
  | .window => p.window
  | .erase => p.erase
  | .link => p.link
  | .temperature => p.temperature
  | .keypad => p.keypad

/-- Replaces one section of the page. -/
def Page.set (p : Page) (x : Section) (c : PageSection) : Page :=
  match x with
  | .device => { p with device := c }
  | .volumes => { p with volumes := c }
  | .domains => { p with domains := c }
  | .window => { p with window := c }
  | .erase => { p with erase := c }
  | .link => { p with link := c }
  | .temperature => { p with temperature := c }
  | .keypad => { p with keypad := c }

/-- A rewrite of a section: the contents as they now stand and the counter one up, wrapping, as one section claim
(R160, R172). When nothing shown has changed there is no rewrite. -/
def State.refresh (s : State) (x : Section) : State :=
  if (s.page.get x).body = s.body x then s
  else s.modPage fun p => p.set x { counter := (p.get x).counter + 1, body := s.body x }

/-- What the page shows of a domain (R61, R179): its 16 bytes of the domains section. -/
def Page.domainEntry (p : Page) : Domain → List Byte
  | .normal => (p.domains.body.drop 14).take 16
  | .recovery => (p.domains.body.drop 30).take 16

/-- The domains section after its counter with the entries of the domains `on` as they now stand and the other as the page
shows it. -/
def State.entriesBody (s : State) (on : Domain → Bool) : List Byte :=
  let entry (d : Domain) : List Byte := if on d then (s.domain d).entry else s.page.domainEntry d
  zeros 14 ++ entry .normal ++ entry .recovery

/-- A rewrite of the entries of the domains `on` alone (R51, R53, R56 to R58), the counter one up for both together (R61). -/
def State.refreshEntries (s : State) (on : Domain → Bool) : State :=
  if s.page.domains.body = s.entriesBody on then s
  else s.modPage fun p => p.set .domains { counter := (p.get .domains).counter + 1, body := s.entriesBody on }

/-- A rewrite of one domain's entry. -/
def State.refreshEntry (s : State) (d : Domain) : State := s.refreshEntries (· = d)

/-- Where a section begins and how long it is, its counter included (section 10.5). -/
def Section.range : Section → Nat × Nat
  | .device => (0x800, 0x10)
  | .volumes => (0x810, 0x90)
  | .domains => (0x8A0, 0x30)
  | .window => (0x8D0, 0x10)
  | .erase => (0x8E0, 0x60)
  | .link => (0x940, 0x20)
  | .temperature => (0x960, 0x10)
  | .keypad => (0x970, 0x10)

/-- The eight sections. -/
def allSections : List Section := [.device, .volumes, .domains, .window, .erase, .link, .temperature, .keypad]

/-- A byte of the status page; 0 outside the sections (R179). -/
def Page.byte (p : Page) (a : Nat) : Byte :=
  match allSections.find? fun x => x.range.1 ≤ a && a < x.range.1 + x.range.2 with
  | some x => (leBytes 2 (p.get x).counter.toNat ++ (p.get x).body).getD (a - x.range.1) 0
  | none => 0

/-- A byte of the exchange memory as the port reads it: the page from 0800H to 0FFFH, zero from 3000H (R159). -/
def State.portByte (s : State) (a : Nat) : Byte :=
  if 0x800 ≤ a ∧ a < 0x1000 then s.page.byte a else if a < 0x3000 then readByte s.exch.mem a else 0

/-- A word of the exchange memory as the port reads it, the two lowest address bits ignored; none while the part is
held in RESET or without power (R150, R159). -/
def State.portRead (s : State) (addr : BitVec 32) : Option Word :=
  let a := 4 * (addr.toNat / 4)
  if s.alive then
    some (BitVec.ofNat 32 (ofLeBytes [s.portByte a, s.portByte (a + 1), s.portByte (a + 2), s.portByte (a + 3)]))
  else none

/-- The records have not been loaded (R151), and the page does not show the table yet (R150). -/
def State.unloaded (s : State) : Bool := s.startUp.next = 2

/-- The guard's report of an order that has ended (R4): when the order changed what some volume's entry shows, the
VOLUME flag is set and the section is rewritten once. Before the records are loaded no order changes a volume. -/
def State.reportVolumes (s : State) : State :=
  if s.unloaded then s
  else if s.page.volumes.body = s.volumesBody then s else (s.attend .volume).refresh .volumes

/-- The keypad unit's recomputation of the pattern (R85) and the rewrite of its section (R86). That the items which have changed by
then are one rewrite, with one increment of the counter, is the model's choice (log 79). -/
def State.settle (s : State) : State :=
  if s.alive then
    let t := if s.patternNow = s.keypad.pattern then s
      else (s.modKeypad fun k => { k with pattern := s.patternNow }).startPattern
    t.refresh .keypad
  else s

end Sys2Proof.Machine
end

