-- ==== Sys2Proof/Machine/StoreOps.lean ====
section
/-! DEFINITION. The temperature monitor's sample (R134 to R138), the persistent store's array and commit queue
(R143 to R149), and the entry of the device to HALTED (R148). -/

namespace Sys2Proof.Machine

/-! ### One temperature sample -/

/-- The condition after a reading, with the signal handed at a change (R136). -/
def classify (c : TempCond) (t hot release : Int) : TempCond × Option Signal :=
  match c with
  | .normal => if criticalAt ≤ t then (.critical, some .critical) else if hot ≤ t then (.hot, some .hot) else (c, none)
  | .hot => if criticalAt ≤ t then (.critical, some .critical) else if t ≤ release then (.normal, some .release) else (c, none)
  | .critical => if t ≤ release then (.normal, some .release) else (c, none)

/-- Hands a temperature signal to its recipients (R137); `was` is the condition left. -/
def State.handTemp (s : State) (x : Signal) (was : TempCond) : State :=
  let t := s.hand x .engine
  if x = .critical || (x = .release && was = .critical) then t.hand x .guard else t

/-- One sample of the sensor (R134 to R138). -/
def State.sample (s : State) (sensor : Int) : State :=
  let t := clampTemp sensor
  let hot := hotThreshold s.store.policy.hot
  let hyst := hysteresis s.store.policy.hyst
  let r := classify s.temp.cond t hot (hot - hyst)
  let s' := s.modTemp fun m =>
    { m with cond := r.1, last := some t, peak := some (max t (m.peak.getD t)), hot := hot, hyst := hyst, sensor := sensor }
  let s'' := match r.2 with
    | none => s'
    | some x => (s'.attend .thermal).handTemp x s.temp.cond
  s''.refresh .temperature

/-! ### The nonvolatile array -/

/-- The name of a record. -/
def Rec.id : Rec → RecId
  | .policy _ => .policy
  | .slot i _ => .slot i
  | .volume v _ => .volume v
  | .domain d _ => .domain d
  | .eraseList _ => .eraseList
  | .checkpoint _ => .checkpoint
  | .device _ => .device

/-- The array with one record written, its check value agreeing (R147). -/
def NvArray.write (n : NvArray) : Rec → NvArray
  | .policy p => { n with policy := ⟨true, p⟩ }
  | .slot i c => { n with slots := n.slots.set i ⟨true, c⟩ }
  | .volume v r => { n with volumes := n.volumes.set v ⟨true, r⟩ }
  | .domain .normal r => { n with normal := ⟨true, r⟩ }
  | .domain .recovery r => { n with recovery := ⟨true, r⟩ }
  | .eraseList l => { n with eraseList := ⟨true, l⟩ }
  | .checkpoint c => { n with checkpoint := ⟨true, c⟩ }
  | .device d => { n with device := ⟨true, d⟩ }

/-- The array with one record's check value no longer agreeing; a VOLUME record then reads as `raw` (R147, R23), and any other
keeps its former contents in the model, which nothing reads (log 8). -/
def NvArray.spoil (n : NvArray) (raw : VolRec) : RecId → NvArray
  | .policy => { n with policy := { n.policy with ok := false } }
  | .slot i => { n with slots := n.slots.set i { n.slots[i] with ok := false } }
  | .volume v => { n with volumes := n.volumes.set v ⟨false, raw⟩ }
  | .domain .normal => { n with normal := { n.normal with ok := false } }
  | .domain .recovery => { n with recovery := { n.recovery with ok := false } }
  | .eraseList => { n with eraseList := { n.eraseList with ok := false } }
  | .checkpoint => { n with checkpoint := { n.checkpoint with ok := false } }
  | .device => { n with device := { n.device with ok := false } }

/-- The settings that the array gives: those of the POLICY record, or the defaults when it is damaged (R157). -/
def NvArray.settings (n : NvArray) : Policy := if n.policy.ok then n.policy.val else Policy.defaults

/-- The array after a commit of `r` was cut off or failed (R147, R148). -/
def NvArray.cut (n : NvArray) (r : Rec) : Cut → NvArray
  | .old => n
  | .new => n.write r
  | .damaged raw => n.spoil raw r.id

/-- The array with the commit in progress, if any, cut off (R150, R181). -/
def State.cutArray (s : State) (c : Cut) : NvArray :=
  match s.store.current with
  | some q => s.store.nv.cut q.data c
  | none => s.store.nv

/-! ### The commit queue (R146) -/

/-- The record stands in a list of queued records. -/
def standsIn (i : RecId) (l : List Queued) : Bool := l.any fun q => q.data.id = i

/-- Replaces the contents of a queued record in its place; its owners go on waiting. -/
def replaceIn (r : Rec) (ws : List Waiter) (l : List Queued) : List Queued :=
  l.map fun q => if q.data.id = r.id then { data := r, waiters := q.waiters ++ ws } else q

/-- Begins the commit of the record at the head of the queue when none is in progress; the first owner that waits for
room then gets it. -/
def State.beginCommit (s : State) : State :=
  match s.store.current, s.store.queue with
  | none, q :: t =>
    s.modStore fun x =>
      { x with current := some q, retrying := false, queue := t ++ x.room.take 1, room := x.room.drop 1 }
  | _, _ => s

/-- The store takes records: it is neither stopped nor finishing its queue (R148). -/
def State.storeTakes (s : State) : Bool := s.store.mode = .running

/-- Queues a record for commit on behalf of the owners `ws` that wait for it (R146). With the queue full it waits for room; an
owner that queues several records in one step begins to wait with all of them at that moment, which is the model's choice
(log 58). Once the device is HALTED the record is not taken (R148). -/
def State.queueRec (s : State) (r : Rec) (ws : List Waiter) : State :=
  if s.storeTakes then
    if standsIn r.id s.store.queue then s.modStore fun x => { x with queue := replaceIn r ws x.queue }
    else if standsIn r.id s.store.room then s.modStore fun x => { x with room := replaceIn r ws x.room }
    else if s.store.queue.length < 8 && s.store.room.isEmpty then
      (s.modStore fun x => { x with queue := x.queue ++ [⟨r, ws⟩] }).beginCommit
    else s.modStore fun x => { x with room := x.room ++ [⟨r, ws⟩] }
  else s

/-- The block that owns a record (R143). The DEVICE record has two owners, and neither is held by it here. -/
def RecId.owner : RecId → Option Block
  | .policy => some .store
  | .slot _ => some .credential
  | .volume _ => some .guard
  | .domain _ => some .lockout
  | .eraseList => some .engine
  | .checkpoint => some .engine
  | .device => none

/-- A block waits for room in the commit queue (R146). -/
def State.waitsForRoom (s : State) (b : Block) : Bool := s.store.room.any fun q => q.data.id.owner = some b

/-- The VOLUME record as committed: an open state is written as LOCKED (R1). -/
def Volume.persisted (v : Volume) : VolRec := { v.data with state := if v.isOpen then .locked else v.data.state }

/-- The DOMAIN record of a domain (R143). -/
def State.domainRec (s : State) (d : Domain) : Rec := .domain d ⟨(s.domain d).f, (s.domain d).flag⟩

/-- The SLOT record of a slot. -/
def State.slotRec (s : State) (i : CSlot) : Rec := .slot i (s.cslot i)

/-- The VOLUME record of a volume. -/
def State.volRec (s : State) (v : Vol) : Rec := .volume v (s.vol v).persisted

/-- Every commit has landed (R155). -/
def State.storeQuiet (s : State) : Bool :=
  s.store.current.isNone && s.store.queue.isEmpty && s.store.room.isEmpty

/-! ### Entry to HALTED -/

/-- Moves the device to HALTED and hands the entry to every block (R148, R130). A device that is HALTED already stays
so, and nothing is handed again. -/
def State.enterHalted (s : State) : State :=
  if s.device = .halted then s else { (s.handAll .halt) with device := .halted }

end Sys2Proof.Machine
end

