-- ==== Sys2Proof/Machine/ExchangeOps.lean ====
section
/-! DEFINITION. The exchange unit's shared operations: owners (R161), takes and scans (R162, R164), the kind queues and
their dispatch (R165), completion (R166), chains (R167) and the follower list (R168). -/

namespace Sys2Proof.Machine

/-! ### A slot as it stands in the exchange memory (R176) -/

/-- Byte `k` of request slot `n`. -/
def State.slotByte (s : State) (n : RSlot) (k : Nat) : Byte := readByte s.exch.mem (slotAddr n + k)

/-- The owner reads POSTED (R161). -/
def State.posted (s : State) (n : RSlot) : Bool := s.slotByte n 0 = 1

/-- The follower flag. -/
def State.isFollower (s : State) (n : RSlot) : Bool := (s.slotByte n 3).getLsbD 0

/-- The chain offset, -128 to 127. -/
def State.slotOffset (s : State) (n : RSlot) : Int := (s.slotByte n 2).toInt

/-- The kind, none for a byte that is no kind code. -/
def State.slotKind (s : State) (n : RSlot) : Option Kind := kindOfCode (s.slotByte n 1)

/-- The proceed condition of a follower against its predecessor's status (R167): 1 ON_SUCCESS, 2 ON_FAILURE, else
ALWAYS. -/
def condHolds (code : BitVec 2) (st : Status) : Bool :=
  if code = 1 then st = .ok else if code = 2 then st ≠ .ok else true

/-- The target of a chain: the slot number plus the offset, none when the offset or the target is out of range
(R164). -/
def chainTarget (n : RSlot) (off : Int) : Option RSlot :=
  if -16 ≤ off ∧ off ≤ 15 ∧ 0 ≤ (n.val : Int) + off then rslotOfNumber ((n.val : Int) + off).toNat else none

/-- The proceed condition of a slot (R167). -/
def State.slotCond (s : State) (n : RSlot) : BitVec 2 := (s.slotByte n 3).extractLsb' 1 2

/-- The request that a take reads from a slot (R164 step 2), and whether the device is HALTED by then (R171). -/
def State.requestAt (s : State) (n : RSlot) (k : Kind) : Request :=
  { slot := n, kind := k, offset := s.slotOffset n, params := readBytes s.exch.mem (slotAddr n + 4) 28
    follower := s.isFollower n, cond := s.slotCond n, late := s.device = .halted }

/-- Writes the owner byte of a slot. -/
def State.setOwner (s : State) (n : RSlot) (b : Byte) : State :=
  s.modExch fun x => { x with mem := writeByte x.mem (slotAddr n) b }

/-- The bytes 32 to 63 that a completion writes (R166, R176): every result byte not given is 0. -/
def resultBytes (st : Status) (chain done : Nat) (results : List Byte) : List Byte :=
  [st.code, BitVec.ofNat 8 chain] ++ leBytes 2 done ++ (results ++ zeros 28).take 28

/-- Steps 2, 3 and 5 of a completion (R166): the results, DONE in the owner, out of the held set, DONE attention. -/
def State.finishSlot (s : State) (n : RSlot) (st : Status) (chain done : Nat) (results : List Byte) : State :=
  let t := s.modExch fun x =>
    { x with
      mem := writeByte (writeBytes x.mem (slotAddr n + 32) (resultBytes st chain done results)) (slotAddr n) 3
      held := x.held &&& ~~~(1#32 <<< n.val) }
  t.attend .done

/-! ### Kind queues -/

/-- One of the kind queues. -/
def Exchange.queue (x : Exchange) : QueueId → List Request
  | .sector => x.sectorQ
  | .control => x.controlQ
  | .enroll => x.enrollQ

/-- Replaces one of the kind queues. -/
def Exchange.setQueue (x : Exchange) (q : QueueId) (l : List Request) : Exchange :=
  match q with
  | .sector => { x with sectorQ := l }
  | .control => { x with controlQ := l }
  | .enroll => { x with enrollQ := l }

/-- A kind queue has room. -/
def Exchange.hasRoom (x : Exchange) (q : QueueId) : Bool := (x.queue q).length < q.room

/-- A follower for this queue waits in the follower list. -/
def Exchange.followerWaits (x : Exchange) (q : QueueId) : Bool := x.followers.any fun r => r.kind.queue = q

/-- Gives the head of the control queue to its serving block, once (R165). IDENTIFY and CANCEL are served by the exchange
unit itself. -/
def State.dispatch (s : State) : State :=
  match s.exch.controlQ with
  | [] => s
  | r :: t =>
    if r.begun then s
    else
      let r' := { r with begun := true }
      let s' := s.modExch fun x => { x with controlQ := r' :: t }
      match r.kind with
      | .setPolicy => s'.modStore fun x => { x with settings := some r' }
      | .lock => s'.tellGuard (.request r')
      | .defineVolume => s'.tellGuard (.request r')
      | .deleteVolume => s'.tellGuard (.request r')
      | .revoke => s'.tellCred (.revoke r')
      | .erase => s'.tellEngine (.request r')
      | .eraseControl => s'.tellEngine (.request r')
      | .identify => s
      | .cancel => s
      | .readSectors => s
      | .writeSectors => s
      | .enroll => s

/-- Moves the oldest follower for a queue that has room to its tail (R168). -/
def State.promote (s : State) (q : QueueId) : State :=
  if s.exch.hasRoom q then
    match s.exch.followers.find? fun r => r.kind.queue = q with
    | some r =>
      s.modExch fun x =>
        { x.setQueue q (x.queue q ++ [r]) with followers := x.followers.erase r }
    | none => s
  else s

/-! ### Takes and chains -/

/-- What a take does with a slot's request (R164 steps 3 and 4, R171): completed at once, or queued. -/
inductive Verdict where
  | finish (st : Status)
  | enqueue (k : Kind)
  deriving DecidableEq, Repr

/-- The verdict on a slot at its take. -/
def State.verdict (s : State) (n : RSlot) : Verdict :=
  match s.slotKind n with
  | none => .finish .badKind
  | some k =>
    if s.slotOffset n ≠ 0 ∧ chainTarget n (s.slotOffset n) = none then .finish .chainRange
    else if s.exch.warned then .finish .power
    else if s.device = .halted ∧ k ≠ .identify ∧ k ≠ .cancel then .finish .halted
    else .enqueue k

/-- Claims a slot for its take (R164 step 1): TAKEN, in the held set. -/
def State.claim (s : State) (n : RSlot) : State :=
  (s.setOwner n 2).modExch fun x => { x with held := x.held ||| (1#32 <<< n.val) }

/-- Takes a slot into its kind queue, or into the follower list when there is no room for it: room goes to the oldest
follower of the queue that waits in the list (R164 step 4, R166, R167, R168). -/
def State.takeInto (s : State) (n : RSlot) (k : Kind) : State :=
  let r := s.requestAt n k
  let t := s.claim n
  if t.exch.hasRoom k.queue && !t.exch.followerWaits k.queue then
    (t.modExch fun x => x.setQueue k.queue (x.queue k.queue ++ [r])).dispatch
  else t.modExch fun x => { x with followers := x.followers ++ [r] }

/-- Settles the chain of a request that completes with status `st` (R167), with the chain result. Each follower's owner
is claimed before its own chain is settled, so a chain that loops back finds no POSTED follower and 33 rounds
suffice. A slot that ended without a range check and whose offset or target is out of range has no target, and its result is 3
(logs 11 and 60). -/
def State.settleChain : Nat → RSlot → Int → Status → State → State × Nat
  | 0, _, _, _, s => (s, 3)
  | fuel + 1, n, off, st, s =>
    if off = 0 ∨ st = .chainRange then (s, 0)
    else
      match chainTarget n off with
      | none => (s, 3)
      | some t =>
        if s.posted t && s.isFollower t then
          if st ≠ .skipped ∧ condHolds (s.slotCond t) st then
            match s.verdict t with
            | .finish st' =>
              let r := State.settleChain fuel t (s.slotOffset t) st' (s.claim t)
              (r.1.finishSlot t st' r.2 0 [], 1)
            | .enqueue k => (s.takeInto t k, 1)
          else
            let r := State.settleChain fuel t (s.slotOffset t) .skipped (s.setOwner t 3)
            (r.1.finishSlot t .skipped r.2 0 [], 2)
        else (s, 3)

/-- The rounds that any cascade fits in. -/
def chainRounds : Nat := 33

/-- Completes a slot that stands in no queue: at its take, or POSTED under a CANCEL (R164, R169). -/
def State.finishNow (s : State) (n : RSlot) (off : Int) (st : Status) : State :=
  let r := State.settleChain chainRounds n off st s
  r.1.finishSlot n st r.2 0 []

/-- A completion (R166): the chain settled, the results written, DONE, out of its queue or the follower list; then the
freed room goes to a waiting follower (R168) and the next control request to its block (R165). -/
def State.complete (s : State) (r : Request) (st : Status) (done : Nat) (results : List Byte) : State :=
  let c := State.settleChain chainRounds r.slot r.offset st s
  let t := c.1.finishSlot r.slot st c.2 done results
  let u := t.modExch fun x =>
    { x with
      sectorQ := x.sectorQ.filter fun y => y.slot ≠ r.slot
      controlQ := x.controlQ.filter fun y => y.slot ≠ r.slot
      enrollQ := x.enrollQ.filter fun y => y.slot ≠ r.slot
      followers := x.followers.filter fun y => y.slot ≠ r.slot }
  (((u.promote .sector).promote .control).promote .enroll).dispatch

/-! ### Scans (R162, R164) -/

/-- One slot of a scan: taken if it is POSTED, no follower, and needs no queue room or finds it with no follower of its
queue waiting. -/
def State.scanSlot (s : State) (n : RSlot) : State :=
  if s.posted n && !s.isFollower n then
    match s.verdict n with
    | .finish st =>
      let off := s.slotOffset n
      ((s.claim n).modExch fun x => { x with takePtr := n }).finishNow n off st
    | .enqueue k =>
      if s.exch.hasRoom k.queue && !s.exch.followerWaits k.queue then
        (s.takeInto n k).modExch fun x => { x with takePtr := n }
      else s
  else s

/-- The 32 slots in the order of a scan: from the slot after the take pointer, wrapping. -/
def scanOrder (p : RSlot) : List RSlot := allRSlots.map fun i => p + 1 + i

/-- One whole scan. -/
def State.scan (s : State) : State := (scanOrder s.exch.takePtr).foldl State.scanSlot s

/-- A scan request (R162): pending while STARTING or under a supply warning, else a scan begins. -/
def State.scanRequest (s : State) : State :=
  if s.device = .starting || s.exch.warned then s.modExch fun x => { x with scanPending := true }
  else s.scan

/-- Begins the pending scan, if there is one (R162, R171). -/
def State.pendingScan (s : State) : State :=
  if s.exch.scanPending then (s.modExch fun x => { x with scanPending := false }).scan else s

/-! ### The idle timer (R9) -/

/-- A volume with its idle timer reloaded: it runs while the volume is open and its idle code is not 0. -/
def Volume.reloaded (x : Volume) : Volume := if x.isOpen then { x with idle := idlePeriod x.data.idleCode } else x

/-- Reloads a volume's idle timer. -/
def State.reloadIdle (s : State) (v : Vol) : State := s.modVol v Volume.reloaded

/-- A sector request reads or writes sectors. -/
def Kind.isSector (k : Kind) : Bool := k = .readSectors || k = .writeSectors

/-- The end of a sector request reloads the idle timer of its volume, whatever its status (R9); that of another request
reloads none. -/
def State.reloadFor (s : State) (r : Request) : State :=
  if r.kind.isSector then
    match volOfIndex (r.byte 4).toNat with
    | some v => s.reloadIdle v
    | none => s
  else s

/-! ### The end of what waits (R171) -/

/-- A waiting request that a sweep ends: at the entry to HALTED those taken before it (R171). -/
def Request.swept (r : Request) (st : Status) : Bool := st ≠ .halted || !r.late

/-- Completes every request that waits in a kind queue and has not been begun, and every follower in the follower list
(R171), one queue after another: the sector, the control and the enroll queue, then the follower list, an order that is the
model's choice (log 61). A CANCEL at the head of the control queue that waits for the credential unit has not been begun, which is
the model's choice too (log 75). `sectorBegun` and `enrollBegun` say that the head of that queue is being served. They
leave their queues at once, so that none of them is given to its block on the way. -/
def State.endWaiting (s : State) (st : Status) (sectorBegun enrollBegun : Bool) : State :=
  let rs := (if sectorBegun then s.exch.sectorQ.drop 1 else s.exch.sectorQ) ++
    (s.exch.controlQ.filter fun r => !r.begun && r.swept st) ++
    (if enrollBegun then s.exch.enrollQ.drop 1 else s.exch.enrollQ) ++ s.exch.followers.filter fun r => r.swept st
  let t := s.modExch fun x =>
    { x with
      sectorQ := if sectorBegun then x.sectorQ.take 1 else []
      controlQ := x.controlQ.filter fun r => r.begun || !r.swept st
      enrollQ := if enrollBegun then x.enrollQ.take 1 else []
      followers := x.followers.filter fun r => !r.swept st }
  rs.foldl (fun t r => (t.complete r st 0 []).reloadFor r) t

end Sys2Proof.Machine
end

