-- ==== Sys2Proof/Machine/LinkOps.lean ====
section
/-! DEFINITION. The storage link controller and its arbiter (R96 to R106) and the sector path's part of a request
(R87 to R94). -/

namespace Sys2Proof.Machine

/-! ### The arbiter (R102, R103) -/

/-- The arbiter grants nothing under a supply warning or in HALTED (R102, R106). -/
def State.linkServes (s : State) : Bool := !s.link.warned && s.device ≠ .halted

/-- Grants the link: BUSY from this moment (R99). A grant to the erase engine sets L to 0 (R103) and is one of the engine's
events (R110). -/
def State.grant (s : State) (q : Requester) : State :=
  let t := s.modLink fun l =>
    { l with
      state := .busy
      granted := some q
      sectorAsks := if q = .sector then false else l.sectorAsks
      engineAsks := if q = .engine then false else l.engineAsks
      losses := if q = .engine then 0 else l.losses }
  let u := t.refresh .link
  if q = .engine then u.tellEngine .grant else u

/-- A grant that is handed or taken back no longer stands among the engine's events. -/
def State.dropGrant (s : State) : State := s.modErase fun e => { e with inbox := e.inbox.filter (· ≠ .grant) }

/-- The decision between two pending requests, by the head entry (R103): the winner and the new L. -/
def arbitrate (list : List EraseEntry) (losses : Nat) : Requester × Nat :=
  match list with
  | [] => (.engine, 0)
  | h :: _ => if h.wipe then (.engine, 0) else if h.share ≤ losses then (.engine, 0) else (.sector, losses + 1)

/-- The link is READY and nobody holds it. -/
def Link.open_ (l : Link) : Bool := l.state = .ready && l.inFlight.isNone && l.granted.isNone

/-- A command boundary (R102): with the link READY, the pending request is granted, or one of two by R103. -/
def State.boundary (s : State) : State :=
  if s.linkServes && s.link.open_ then
    if s.link.sectorAsks && s.link.engineAsks then
      let d := arbitrate s.erase.list s.link.losses
      (s.modLink fun l => { l with losses := d.2 }).grant d.1
    else if s.link.sectorAsks then s.grant .sector
    else if s.link.engineAsks then s.grant .engine
    else s
  else s

/-- The link returns to READY with nothing in flight (R99). -/
def State.linkReady (s : State) : State :=
  (s.modLink fun l => { l with state := .ready, inFlight := none, granted := none }).refresh .link

/-- A grant handed back unused is a boundary too (R102). -/
def State.handBack (s : State) (q : Requester) : State :=
  if s.link.granted = some q then (if q = .engine then s.dropGrant else s).linkReady.boundary else s

/-- The sector path's withdrawal (R102). -/
def State.withdrawSector (s : State) : State :=
  (s.modLink fun l => { l with sectorAsks := false }).handBack .sector

/-- The erase engine's withdrawal, which also sets L to 0 (R102, R103). -/
def State.withdrawEngine (s : State) : State :=
  if s.link.engineAsks || s.link.granted = some .engine then
    (s.modLink fun l => { l with engineAsks := false, losses := 0 }).handBack .engine
  else s

/-! ### The sector path -/

/-- The request at the head of the sector queue. -/
def State.sectorHead (s : State) : Option Request := s.exch.sectorQ.head?

/-- Overwrites the first `n` buffers of a request with zero bytes (R17). -/
def zeroBuffers (first : Nat) : Nat → List Host.Cell → List Host.Cell
  | 0, m => m
  | n + 1, m => writeBytes (zeroBuffers first n m) (bufAddr (first + n)) (zeros 512)

/-- The statuses whose end zeroes the buffers a READ has filled (R17, R94). -/
def Status.zeroes (st : Status) : Bool := st = .lockedDuring || st = .power || st = .halted

/-- The kind-specific results of a sector request (R177). -/
def SectorPath.results (p : SectorPath) (st : Status) : List Byte :=
  if st = .flashError then leBytes 4 (p.errorSector.getD 0) ++ [1] else []

/-- The end of the active request with nothing of it in flight (R91): first a grant not used is handed back, so that the
engine's grant stands ahead of what the request's chain gives the engine; then buffers zeroed where R17 and R94 give it, the
slot completed, the idle timer of its volume reloaded if that is still open, also for a request that the guard refused
(R9). -/
def State.endSector (s : State) (st : Status) : State :=
  match s.sectorHead with
  | none => s
  | some r =>
    let p := s.sector
    let s0 := s.withdrawSector
    let s1 := s0.modGuard fun g => { g with inbox := g.inbox.filter fun o => o ≠ .sectorCheck && o ≠ .sectorDecision }
    let s2 := if !p.write && st.zeroes then
        s1.modExch fun x => { x with mem := zeroBuffers p.firstBuf p.done x.mem }
      else s1
    let s3 := s2.modSector fun q => { warned := q.warned }
    let s4 := s3.complete r st p.done (p.results st)
    match (if p.phase = .deciding then volOfIndex (r.byte 4).toNat else some p.vol) with
    | some v => s4.reloadIdle v
    | none => s4

/-- Ends the active request by an order (R17, R94): at once when nothing of it is in flight, else when its command's
reply is taken, without a reissue. The end first decided stands. -/
def State.stopSector (s : State) (st : Status) : State :=
  match s.sector.phase with
  | .idle => s
  | .ending => s
  | .inFlight =>
    if s.sector.ended.isSome then s
    else
      (s.modSector fun p => { p with ended := some st }).modLink fun l =>
        { l with inFlight := l.inFlight.map fun f => { f with withdrawn := true } }
  | .deciding => s.endSector st
  | .waitingGrant => s.endSector st
  | .checking => s.endSector st

/-- What a volume's leaving of OPEN or OPEN_RO does to an active request for it (R17). -/
def State.volumeLeft (s : State) (v : Vol) : State :=
  if s.sector.vol = v ∧ (s.sector.phase = .waitingGrant ∨ s.sector.phase = .checking ∨ s.sector.phase = .inFlight) then
    s.stopSector .lockedDuring
  else s

/-- The status with which the link controller answers a sector command under a supply warning or in HALTED (R98, R102); when
both stand it is that of the warning (log 46). -/
def State.linkRefusal (s : State) : Status := if s.link.warned then .power else .halted

/-- Asks the arbiter for the link for the next sector (R88, R89, R102). In FAULT the request ends LINK_FAULT; under a supply
warning and in HALTED the arbiter answers with the warning or the halt. -/
def State.askSector (s : State) : State :=
  if s.link.state = .fault then s.endSector .linkFault
  else if !s.linkServes then s.endSector s.linkRefusal
  else
    ((s.modSector fun p => { p with phase := .waitingGrant }).modLink fun l => { l with sectorAsks := true }).boundary

/-- A sector of the active request is done (R89, R90 step 4). -/
def State.advanceSector (s : State) : State :=
  let t := s.modSector fun p => { p with done := p.done + 1, k := p.k + 1 }
  if t.sector.k = t.sector.count then (t.endSector .ok).boundary else t.askSector

/-- The sector path applies the reply to its command (R89 to R92); the link is READY by then. That the staging area is zero
after every reply, and not after an OK alone, is the model's choice (log 52). Where the reply ends the request, its slot is
completed and its chain settled before a pending request of the engine is granted: R91 and R102 give no order of the two, and
this one is the model's choice (log 68). -/
def State.sectorReply (s : State) (r : Reply) : State :=
  let t := s.modLink fun l => { l with staging := 0 }
  match t.sector.ended with
  | some st =>
    let u := if t.sector.write && r = .ok then t.modSector fun p => { p with done := p.done + 1 } else t
    (u.endSector st).boundary
  | none =>
    match r with
    | .mediaError _ =>
      let u := t.modSector fun p => { p with errorSector := some (p.relFirst + p.k) }
      (u.endSector .flashError).boundary
    | .data (d :: _) =>
      if (t.vol t.sector.vol).keyHeld then
        let plain := (Config.sectorTransform (t.vol t.sector.vol).key
          (BitVec.ofNat 32 (t.sector.absFirst + t.sector.k))).symm d
        (t.modExch fun x =>
          { x with mem := writeBytes x.mem (bufAddr (t.sector.firstBuf + t.sector.k)) (bytesOfSector plain) }).advanceSector
      else (t.endSector .lockedDuring).boundary
    | .data [] => t.boundary
    | .ok => t.advanceSector
    | .ident _ _ _ => t.boundary

/-! ### Commands and their failures (R96 to R101) -/

/-- Issues a command (R99): the link is BUSY. -/
def State.issue (s : State) (f : InFlight) : State :=
  (s.modLink fun l => { l with state := .busy, inFlight := some f, granted := none }).refresh .link

/-- The IDENT command, of start-up or of a probe. -/
def identCommand (probe : Bool) : InFlight :=
  { cmd := .ident, first := 0, count := 0, owner := .controller, probe := probe, left := sectorTimeout }

/-- A frame is well formed as the reply to a command (R96): its check value is right, it fits the command, a
MEDIA_ERROR names a sector of the command, a capacity is not 0. -/
def frameFits (f : InFlight) (x : Frame) : Bool :=
  x.checkOk &&
    match f.cmd, x.reply with
    | .ident, .ident cap _ _ => cap ≠ 0
    | .read, .data d => d.length = f.count
    | .write, .ok => true
    | .discard, .ok => true
    | .ident, .mediaError _ => false
    | _, .mediaError n => f.first ≤ n.toNat && n.toNat < f.first + f.count
    | _, _ => false

/-- What the erase engine is told of the reply to its command (R97, R119). -/
def stripeOutcome (f : InFlight) (t : Nat) : Reply → StripeOutcome
  | .ok => .ok t f.expect
  | .data d => .data (d.all (· = 0))
  | .mediaError _ => .mediaError
  | .ident _ _ _ => .givenUp

/-- The erase engine can take a stripe reply next: nothing holds it but a wait for that reply (R110). -/
def Erase.takesReply (e : Erase) : Bool :=
  match e.job with
  | .none => true
  | .accept a => a.stage = .reply
  | .abortReply _ => true
  | .endGuard _ => false
  | .endList _ _ => false
  | .abortGuard _ _ _ _ => false
  | .abortList _ _ _ => false

/-- Gives the reply of a stripe command to the engine. The next grant waits for the engine's own request when no work holds
the engine, so that both requests stand at the boundary (R103, section 5.9). It does so also when an older event stands before
the reply: the link is READY then and a pending sector request is granted at the end of the engine's next event that is no signal
of a monitor, which is the model's choice (log 70; that the grant waits at all is deduced, log 28). -/
def State.stripeReplied (s : State) (o : StripeOutcome) : State :=
  let t := s.tellEngine (.reply o)
  if t.erase.takesReply then t else t.boundary

/-- The link enters FAULT (R100): a sector request ends LINK_FAULT, the engine is told, LINK attention is set, the fault
is counted and the probe timer starts. While the device is STARTING start-up goes on instead (R101), and the engine
learns of the FAULT when STARTING is left (R127). -/
def State.enterFault (s : State) : State :=
  let t := s.modLink fun l =>
    { l with state := .fault, inFlight := none, granted := none, faults := satInc16 l.faults, probeLeft := some 1000 }
  let u := (t.attend .link).refresh .link
  let w := match u.sector.phase with
    | .idle => u
    | .deciding => u
    | .ending => u
    | .waitingGrant => u.endSector .linkFault
    | .checking => u.endSector .linkFault
    | .inFlight => u.endSector .linkFault
  if w.device = .starting then
    w.modStartUp fun x => { x with next := if x.identAsked then 6 else x.next, identAsked := false }
  else w.tellEngine .linkFault

/-- A command is given up without FAULT (R98): the requester is told and the link returns to READY. A sector request that was
not withdrawn ends with the warning or the halt for which it was given up, and its slot and chain come before the grant of a
pending request of the engine (log 68). -/
def State.giveUp (s : State) (f : InFlight) : State :=
  let t := s.linkReady
  match f.owner with
  | .sector =>
    (t.endSector (t.sector.ended.getD s.linkRefusal)).boundary
  | .engine => t.stripeReplied .givenUp
  | .controller => (t.modStartUp fun x => { x with identAsked := false }).boundary

/-- A command fails, by timeout or by a malformed reply already counted (R98). A second failure under a supply warning or in
HALTED, or of a requester that has withdrawn, gives the command up without FAULT (log 45). -/
def State.commandFails (s : State) (f : InFlight) : State :=
  if f.probe then
    (s.modLink fun l =>
      { l with inFlight := none, probeLeft := if l.warned || s.device = .halted then none else some 1000 }).refresh .link
  else if f.withdrawn || !s.linkServes then s.giveUp f
  else if f.failedOnce then s.enterFault
  else
    (s.modLink fun l =>
      { l with
        reissues := satInc16 l.reissues
        inFlight := some { f with failedOnce := true, resetting := true, left := 20 } }).refresh .link

/-- The identity is taken: the section is rewritten with it (R101 step 4), and then the link is READY, which is a rewrite of
its own (R101, R100, R105); a probe's success also sets LINK attention and tells the engine, start-up's goes on to step 6. -/
def State.identDone (s : State) : State :=
  let probe := s.link.state = .fault
  let t := ((s.refresh .link).modLink fun l => { l with ident := .none, probeLeft := none }).linkReady
  let u := if probe then (t.attend .link) else t
  let w := u.modStartUp fun x => { x with next := if x.identAsked then 6 else x.next, identAsked := false }
  (if probe && w.device ≠ .starting then w.tellEngine .linkReturn else w).boundary

end Sys2Proof.Machine
end

