-- ==== Sys2Proof/Machine/GuardOps.lean ====
section
/-! DEFINITION. The volume guard's shared operations: the orders of R4 on the volume table (R5 to R13), the guard
decision and the per-sector check (R15, R16), and its waits for commits. -/

namespace Sys2Proof.Machine

/-! ### Locks (R7, R8) -/

/-- The key register overwritten with zero bytes and empty, the idle timer stopped, opened by none: what a volume loses
as it leaves OPEN or OPEN_RO for `st` (R3, R7, R10). -/
def Volume.shut (v : Volume) (st : VState) : Volume :=
  { v with data := { v.data with state := st }, openedBy := none, key := 0, keyHeld := false, idle := none }

/-- Locks one volume: a volume that is not open is unchanged (R7). -/
def State.lockVolume (s : State) (v : Vol) : State :=
  if (s.vol v).isOpen then (s.modVol v fun x => x.shut .locked).volumeLeft v else s

/-- A lock order for a set of volumes, in ascending order (R8), without the report. -/
def State.lockSet (s : State) (m : VolSet) : State :=
  allVols.foldl (fun t v => if inSet m v then t.lockVolume v else t) s

/-- All volumes. -/
def allSet : VolSet := 0xFF

/-- The volumes of a set that are open. -/
def State.openIn (s : State) (m : VolSet) : VolSet := setOf fun v => inSet m v && (s.vol v).isOpen

/-! ### Opening (R5, R6) -/

/-- The state a LOCKED volume opens to: OPEN when the access permits writing and it is not write protected (R5). -/
def openState (readWrite protect : Bool) : VState := if readWrite && !protect then .opened else .openRo

/-- A LOCKED volume opened under a key by a slot (R5). -/
def Volume.unlock (v : Volume) (key : MediaKey) (slot : CSlot) (readWrite : Bool) : Volume :=
  { v with
    data := { v.data with state := openState readWrite v.data.writeProtect }
    openedBy := some slot, key := key, keyHeld := true, idle := idlePeriod v.data.idleCode }

/-- An open order for a volume that is open already (R6). -/
def Volume.reopen (v : Volume) (slot : CSlot) (readWrite : Bool) : Volume :=
  { v with
    data := { v.data with
      state := if v.data.state = .openRo ∧ readWrite ∧ !v.data.writeProtect then .opened else v.data.state }
    openedBy := some slot, idle := idlePeriod v.data.idleCode }

/-- Open orders are refused: HALTED, critical temperature, or a supply warning (R5). -/
def State.refusesOpen (s : State) : Bool := s.device = .halted || s.guard.critical || s.guard.warned

/-- An open order taken (R5, R6); a refused one changes nothing. -/
def State.openVolume (s : State) (v : Vol) (key : MediaKey) (slot : CSlot) (readWrite : Bool) : State :=
  if s.refusesOpen then s
  else
    match (s.vol v).data.state with
    | .locked => s.modVol v fun x => x.unlock key slot readWrite
    | .opened => s.modVol v fun x => x.reopen slot readWrite
    | .openRo => s.modVol v fun x => x.reopen slot readWrite
    | .absent => s
    | .erasing => s
    | .blank => s
    | .fault => s

/-! ### Extents (R2) -/

/-- The flash capacity last identified, or none while no good IDENT has come since start-up and it is 0 (R2). -/
def State.capacityLimit (s : State) : Option Nat :=
  if !s.link.identified && s.link.capacity = 0 then none else some s.link.capacity.toNat

/-- An extent overlaps that of a volume other than `except` that is neither ABSENT nor FAULT (R2, R20). -/
def State.overlapsOther (s : State) (except : Option Vol) (first count : Nat) : Bool :=
  allVols.any fun w =>
    some w ≠ except && (s.vol w).data.state ≠ .absent && (s.vol w).data.state ≠ .fault &&
      overlaps first count (s.vol w).data.first (s.vol w).data.count

/-- The extent of a FAULT volume is clear (R2). -/
def State.extentClear (s : State) (v : Vol) : Bool :=
  (s.vol v).extentKnown &&
    (match s.capacityLimit with | none => true | some c => fits (s.vol v).data c) &&
    !s.overlapsOther (some v) (s.vol v).data.first (s.vol v).data.count

/-! ### The guard decision (R15, R16) -/

/-- The first failing check of R15 for a request, none when every check passes. -/
def State.guardDecision (s : State) (r : Request) : Option Status :=
  let count := r.field 6 2
  let rel := r.field 8 4
  if s.device = .halted then some .halted
  else if s.guard.critical then some .hot
  else
    match volOfIndex (r.byte 4).toNat with
    | none => some .absent
    | some v =>
      let d := (s.vol v).data
      match d.state with
      | .absent => some .absent
      | .fault => some .faultVolume
      | .erasing => some .erasing
      | .blank => some .blank
      | .locked => some .locked
      | st =>
        if r.kind = .writeSectors ∧ st = .openRo then some .readOnly
        else if d.count ≤ rel ∨ d.count < rel + count then some .range
        else if count = 0 ∨ 16 < count then some .badParam
        else none

/-! ### Waits (R4) -/

/-- The guard can take its next order: nothing holds it, not even the want of room in the commit queue. -/
def State.guardFree (s : State) : Bool := s.guard.wait = .free && !s.waitsForRoom .guard

/-- The guard is free and no order waits before the next one (R4). -/
def State.guardReady (s : State) : Bool := s.guardFree && s.guard.inbox.isEmpty

/-- The guard is at steps 1 to 4 of a DEFINE_VOLUME for a request's volume, still ABSENT in the table (R21): the decision
on the request, ABSENT, waits for nothing (log 40). -/
def State.definesFor (s : State) (r : Request) : Bool :=
  match s.guard.wait with
  | .wrapAdd _ v _ => volOfIndex (r.byte 4).toNat = some v && (s.vol v).data.state = .absent
  | .commits _ (.define _ v _ _) => volOfIndex (r.byte 4).toNat = some v && (s.vol v).data.state = .absent
  | _ => false

/-- Removes the order at the head of the guard's inbox. -/
def State.popGuard (s : State) : State := s.modGuard fun g => { g with inbox := g.inbox.tail }

/-- Sets what holds the guard. -/
def State.guardWaits (s : State) (w : GuardWait) : State := s.modGuard fun g => { g with wait := w }

/-- The order in progress ends because its commit failed (R148): a DEFINE_VOLUME ends HALTED with its volume ABSENT and its drawn key
gone (R21). That a DELETE_VOLUME ends HALTED too, its volume BLANK with the ABSENT values it took, is deduced (log 82). -/
def State.guardFailed (s : State) : State :=
  match s.guard.wait with
  | .commits _ (.define r _ _ _) => ((s.guardWaits .free).complete r .halted 0 []).reportVolumes
  | .commits _ (.delete r _) => ((s.guardWaits .free).complete r .halted 0 []).reportVolumes
  | .commits _ .faulted => (s.guardWaits .free).reportVolumes
  | .commits _ (.accepted _) => (s.guardWaits .free).reportVolumes
  | .commits _ (.retired _) => (s.guardWaits .free).reportVolumes
  | .commits _ (.ended _) => (s.guardWaits .free).reportVolumes
  | .free => s
  | .wrapAdd _ _ _ => s
  | .windowClose _ _ => s

/-- The guard queues records and waits for `n` answers before it goes on with `next`; when the store takes none, the wait
fails at once (R148). -/
def State.guardCommit (s : State) (rs : List Rec) (n : Nat) (next : GuardThen) : State :=
  let t := s.guardWaits (.commits n next)
  if s.storeTakes then rs.foldl (fun u r => u.queueRec r [.guard]) t else t.guardFailed

/-- A volume set to FAULT by a fault order (R10) or a capacity report (R11): an open one loses its key and its active
request ends. -/
def State.faultVolume (s : State) (v : Vol) : State :=
  if (s.vol v).isOpen then (s.modVol v fun x => x.shut .fault).volumeLeft v
  else s.modVol v fun x => x.shut .fault

/-- A volume retired or deleted: the ABSENT values of R1. -/
def Volume.gone (v : Volume) : Volume :=
  { v with data := VolRec.absent, openedBy := none, key := 0, keyHeld := false, idle := none }

end Sys2Proof.Machine
end

