-- ==== Sys2Proof/Machine/KeypadOps.lean ====
section
/-! DEFINITION. The keypad unit's shared operations: the key queue and its overrun marker (R71, R72), the one-shots
(R84), the entry buffer (R74), the cadence check (R78) and the taking of events (R74, R83). -/

namespace Sys2Proof.Machine

/-- Gives a one-shot flash, in place of one that is shown (R84). In HALTED none is pending. -/
def State.giveFlash (s : State) (o : OneShot) : State :=
  if s.device = .halted then s
  else
    let t := s.modKeypad fun k => { k with flash := some o, flashLeft := o.length }
    if t.keypad.pattern = 3 then t.startPattern else t

/-- An event produced by the scanner: appended, or dropped with the overrun marker at the tail (R71). That a marker which waits in
VERIFYING, its event taken, moves to the tail too is deduced (log 83; R72). -/
def State.pushKey (s : State) (e : KeyEvent) : State :=
  if s.keypad.queue.length < 8 then s.modKeypad fun k => { k with queue := k.queue ++ [e] }
  else s.modKeypad fun k => { k with marker := some k.queue.length }

/-- Overwrites the entry buffer with zero bytes and clears the count, the last acceptance time and the mark (R74). -/
def State.clearEntry (s : State) : State :=
  s.modKeypad fun k => { k with buffer := [], lastTime := none, cadence := false }

/-- Discards the entry or arming and returns to IDLE, its timeout stopped. -/
def State.asmIdle (s : State) : State :=
  s.clearEntry.modKeypad fun k => { k with asm := .idle, timeout := none }

/-- Puts the assembler into a state with a timeout. -/
def State.asmTo (s : State) (a : Assembler) (timeout : Option Nat) : State :=
  s.modKeypad fun k => { k with asm := a, timeout := timeout }

/-- Samples the keypad settings from the POLICY record (R73). -/
def State.sampleKeypad (s : State) : State := s.modKeypad fun k => { k with settings := keySettings s.store.policy }

/-- The entry timeout in use, in ms (R79). -/
def State.entryMs (s : State) : Nat := entryTimeoutMs s.keypad.settings.entryTimeout

/-- Sets the timeout of the state the assembler is in. -/
def State.reloadTimeout (s : State) (ms : Nat) : State := s.modKeypad fun k => { k with timeout := some ms }

/-- The cadence check (R78): the new digit came less than 10 × c ms after the previous one of the entry. -/
def tooFast (k : Keypad) (t : Nat) : Bool :=
  match k.lastTime with
  | some t0 => k.settings.cadence ≠ 0 && !k.buffer.isEmpty && t < t0 + 10 * k.settings.cadence
  | none => false

/-- Appends a digit to the entry with the cadence check; its acceptance time becomes the last one (R78). -/
def State.appendDigit (s : State) (d : Digit) (t : Nat) : State :=
  s.modKeypad fun k =>
    { k with buffer := k.buffer ++ [d], lastTime := some t, cadence := k.cadence || tooFast k t }

/-- Acts on the overrun marker (R72): the partial entry is discarded, the reject flash given, the marker cleared. -/
def State.actOnMarker (s : State) : State :=
  let t := match s.keypad.asm with
    | .idle => s
    | .digits => s.asmIdle
    | .recoveryWait => s.asmIdle
    | .recoveryDigits => s.asmIdle
    | .enrollFirst => s.clearEntry.reloadTimeout stageTimeoutMs
    | .enrollSecond => s.clearEntry.reloadTimeout stageTimeoutMs
    | .verifying => s
  (t.giveFlash .reject).modKeypad fun k => { k with marker := none }

/-- Acts on the marker if its event has been taken; in VERIFYING the marker waits (R72). -/
def State.markerStep (s : State) : State :=
  if s.keypad.marker = some 0 ∧ s.keypad.asm ≠ .verifying then s.actOnMarker else s

/-- Removes the event at the head of the key queue; the marker point and the orders behind it come one nearer. -/
def State.popKey (s : State) : State :=
  s.modKeypad fun k =>
    { k with queue := k.queue.tail, marker := k.marker.map fun n => n - 1, ahead := k.ahead.map fun n => n - 1 }

/-- The assembler takes events: the device has left STARTING, the assembler is not in VERIFYING (R74, R80), and no order
came before the event at the head of the key queue (R74). That none is taken in VERIFYING under a supply warning either, where
R83 would have each discarded, is the model's choice (log 80). -/
def State.asmTakes (s : State) : Bool :=
  s.alive && s.device ≠ .starting && s.keypad.asm ≠ .verifying && s.keypad.ahead.head? ≠ some 0

/-- The order at the head of the keypad unit's inbox is next among the key events (R74): those that came before it have been
taken, or none is taken in VERIFYING and while the device is STARTING. -/
def State.orderDue (s : State) : Bool :=
  s.keypad.ahead.head?.getD 0 = 0 || s.keypad.queue.isEmpty || s.keypad.asm = .verifying || s.device = .starting

/-- The key queue emptied and the marker cleared (R83). -/
def State.dropKeys (s : State) : State :=
  s.modKeypad fun k => { k with queue := [], marker := none, ahead := k.ahead.map fun _ => 0 }

/-- Once the unit has taken the entry to HALTED, and under a supply warning, an event is taken and discarded without a flash
(R83). -/
def State.asmDiscards (s : State) : Bool := s.keypad.halted || s.keypad.warned

/-- Takes the event at the head of the key queue if it is the one the step names, and acts on it; then the marker (R72). That a
marker whose event is discarded (R83) is cleared with it, without the reject flash of an overrun (R84), is deduced (log 64). -/
def State.takeKey (s : State) (act : KeyEvent → Option (State → State)) : State :=
  if s.asmTakes then
    match s.keypad.queue with
    | [] => s
    | e :: _ =>
      match act e with
      | none => s
      | some g =>
        let t := s.popKey
        if s.asmDiscards then t.modKeypad fun k => { k with marker := if k.marker = some 0 then none else k.marker }
        else (g t).markerStep
  else s

/-- Hands the entry to the credential unit and enters VERIFYING (R80). -/
def State.handEntry (s : State) (d : Domain) : State :=
  ((s.tellCred (.entry s.keypad.buffer d s.keypad.cadence)).clearEntry).asmTo .verifying none

/-- A RECOVERY slot is occupied (R75, R77). -/
def State.recoverySlot (s : State) : Bool := allSlots.any fun i => (s.cslot i).role = .recovery

/-- Leaves VERIFYING for IDLE with a flash; a waiting marker is then acted on (R80, R72). -/
def State.leaveVerifying (s : State) (o : Option OneShot) : State :=
  let t := s.asmIdle
  let u := match o with
    | some x => t.giveFlash x
    | none => t
  u.markerStep

end Sys2Proof.Machine
end

