-- ==== Sys2Proof/Machine/LockoutOps.lean ====
section
/-! DEFINITION. The lockout unit's shared operations: sampling (R50), the start and end of a lockout (R56, R57), the
brute-force wipe (R58) and the ticks among its events (R49). -/

namespace Sys2Proof.Machine

/-- Changes one domain's record. -/
def State.modDomain (s : State) (d : Domain) (g : DomainState → DomainState) : State := s.setDomain d (g (s.domain d))

/-- Samples a domain's policy inputs (R50). -/
def State.sampleDomain (s : State) (d : Domain) : State :=
  s.modDomain d fun x => { x with inputs := sampleInputs (s.store.policy.domain d) }

/-- Queues a domain's DOMAIN record, nobody waiting. -/
def State.queueDomain (s : State) (d : Domain) : State := s.queueRec (s.domainRec d) []

/-- Sets what holds the lockout unit. -/
def State.lockoutWaits (s : State) (w : LockWait) : State := s.modLockout fun l => { l with wait := w }

/-- The lockout unit can take its next event (R49). -/
def State.lockoutFree (s : State) : Bool := s.lockout.wait = .free && !s.waitsForRoom .lockout

/-- The unit is free and no event waits before the next one (R49). -/
def State.lockoutReady (s : State) : Bool := s.lockoutFree && s.lockout.inbox.isEmpty

/-- Removes the event at the head of the lockout unit's inbox. -/
def State.popLockout (s : State) : State := s.modLockout fun l => { l with inbox := l.inbox.tail }

/-- A domain made READY with its count and flag cleared (R53, R58, R64). -/
def DomainState.cleared (x : DomainState) : DomainState :=
  { x with f := 0, flag := false, lockedOut := false, left := 0, step := 0 }

/-- A lockout starts at step f - A (R56). -/
def DomainState.startLockout (x : DomainState) : DomainState :=
  { x with step := x.f - x.inputs.a, left := lockoutSeconds x.inputs (x.f - x.inputs.a), lockedOut := true, flag := true }

/-- The start of a lockout in one step (R56), without the page. -/
def State.startLockout (s : State) (d : Domain) : State :=
  ((s.modDomain d DomainState.startLockout).queueDomain d).attend .lockout

/-- The brute-force trigger handed to the erase engine, whose report is awaited (R58). -/
def State.bruteForce (s : State) (d : Domain) : State := (s.tellEngine .brute).lockoutWaits (.wipe d)

/-- What the unit does when the acceptance is reported complete (R58), without the page. -/
def State.wipeDone (s : State) (d : Domain) : State :=
  ((s.modDomain d DomainState.cleared).queueDomain d).attend .lockout

/-- A domain's end of a lockout (R57). -/
def DomainState.endLockout (x : DomainState) : DomainState :=
  { x with lockedOut := false, left := 0, step := 0, flag := false }

/-- One tick for one domain, without the page (R57): R decremented, and the lockout's end in the same step at 0. -/
def State.tickDomain (s : State) (d : Domain) : State :=
  if (s.domain d).lockedOut then
    if (s.domain d).left ≤ 1 then ((s.modDomain d DomainState.endLockout).queueDomain d).attend .lockout
    else s.modDomain d fun x => { x with left := x.left - 1 }
  else s

/-- The page shows the domains: the examination of start-up is done (R62). -/
def State.domainsShown (s : State) : Bool := s.device ≠ .starting || 5 ≤ s.startUp.next

/-- One tick of the 1 s timebase taken by the lockout unit (R57): the entries of the domains that were LOCKED_OUT are rewritten.
That NORMAL goes first, and its record before RECOVERY's when both lockouts end, is the model's choice (log 55). Once the unit
has taken the entry to HALTED its timers are stopped (R49, R63). -/
def State.lockoutTick (s : State) : State :=
  let locked (d : Domain) : Bool := (s.domain d).lockedOut
  if s.lockout.halted || !(locked .normal || locked .recovery) then s
  else
    let t := (s.tickDomain .normal).tickDomain .recovery
    if t.domainsShown then t.refreshEntries locked else t

/-- Takes the ticks at the head of the inbox while the unit is free, `n` at most. -/
def State.lockoutTicks : Nat → State → State
  | 0, s => s
  | n + 1, s =>
    if s.lockoutFree && s.lockout.inbox.head? = some .tick then State.lockoutTicks n s.popLockout.lockoutTick.settle else s

/-- The lockout unit takes the ticks whose turn it is (R49). -/
def State.takeTicks (s : State) : State := State.lockoutTicks s.lockout.inbox.length s

/-- The first of the two events that end a wait for an acceptance: its report, and the entry of the device to HALTED (R58). -/
def Lockout.waitEnd (l : Lockout) : Option LockEvent := l.inbox.find? fun e => e = .accepted || e = .signal .halt

/-- The unit is held no longer. -/
def State.lockoutRelease (s : State) : State := s.lockoutWaits .free

/-- The charge of an entry, before its commit (R51 steps 1 to 3). -/
def DomainState.charged (x : DomainState) (i : Sampled) : DomainState :=
  let f := min (x.f + 1) 255
  { x with inputs := i, f := f, flag := x.flag || i.a < f }

/-- The start-up examination of one domain (R62), and whether a brute-force wipe must be awaited; one that is triggered again
sets LOCKOUT attention (R61). -/
def State.examine (s : State) (d : Domain) : State × Bool :=
  let t := s.sampleDomain d
  let x := t.domain d
  if x.inputs.w ≠ 0 ∧ x.inputs.w ≤ x.f then ((t.bruteForce d).attend .lockout, true)
  else if x.flag && x.inputs.a < x.f then (t.startLockout d, false)
  else if x.flag then ((t.modDomain d fun y => { y with flag := false }).queueDomain d, false)
  else (t, false)

end Sys2Proof.Machine
end

