-- ==== Sys2Proof/Machine/CredentialOps.lean ====
section
/-! DEFINITION. The credential unit's shared operations: the admin window (R36 to R39), the slot search and its outcomes
(R31 to R34), the stages and ends of an enrollment (R41 to R44), wrap lists (R26) and its waits (R29). -/

namespace Sys2Proof.Machine

/-! ### Waits (R29) -/

/-- The credential unit can take its next event. -/
def State.credFree (s : State) : Bool := s.cred.wait = .free && !s.waitsForRoom .credential

/-- The credential unit is free and no event waits before the next one. A query of the window by another block (R39), the CANCEL
of an ENROLL in progress and the beginning of an ENROLL find the unit so. None of them has a place in the inbox: one that comes
while the unit is held waits where it stands, and an event that comes after it goes before it. That is the model's choice
(logs 3 and 56); R29 does not say when such a query or a CANCEL counts as having reached the unit. -/
def State.credReady (s : State) : Bool := s.credFree && s.cred.inbox.isEmpty

/-- Removes the event at the head of the credential unit's inbox. -/
def State.popCred (s : State) : State := s.modCred fun c => { c with inbox := c.inbox.tail }

/-- Sets what holds the credential unit. -/
def State.credWaits (s : State) (w : CredWait) : State := s.modCred fun c => { c with wait := w }

/-! ### The admin window (R36 to R39) -/

/-- The countdown and re-arming value of the window, in seconds. -/
def windowSeconds : Nat := 300

/-- Opens the window for a slot with its KEK (R36). -/
def State.openWindow (s : State) (slot : CSlot) (kek : Kek) : State :=
  (s.modCred fun c =>
    { c with adminKey := kek, window := some ⟨slot, windowSeconds, false⟩, shutByWarning := false }).refresh .window

/-- Closes the window: the admin key register zeroed (R38). A CLOSED window is left as it is. -/
def State.shutWindow (s : State) : State :=
  if s.cred.window.isSome then (s.modCred fun c => { c with adminKey := 0, window := none }).refresh .window else s

/-- Sets the remaining time of an OPEN window back to 300 s, and its hold (R37). -/
def State.rearmWindow (s : State) (held : Bool → Bool) : State :=
  (s.modCred fun c =>
    { c with window := c.window.map fun w => { w with left := windowSeconds, held := held w.held } }).refresh .window

/-- The authorization query (R39): the window is OPEN; an authorized answer restarts its timer (R37). -/
def State.authorize (s : State) : Option State := if s.cred.window.isSome then some (s.rearmWindow id) else none

/-! ### Enrollment (R41 to R44) -/

/-- How an early end returns the keypad assembler. -/
inductive KeypadEnd where
  | leave
  | outcome (accepted : Bool)
  | toIdle (flash : Bool)
  deriving DecidableEq, Repr

/-- Gives the keypad unit the order that an end of the enrollment calls for. -/
def State.endKeypad (s : State) : KeypadEnd → State
  | .leave => s
  | .outcome a => s.tellKeypad (.outcome a)
  | .toIdle f => s.tellKeypad (.toIdle f)

/-- The derivation in flight is abandoned, or taken: nothing of its completion is left among the events (R27, R35, R44). -/
def Credential.noDerivation (c : Credential) : Credential :=
  { c with deriv := none, inbox := c.inbox.filter (· ≠ .derived) }

/-- The enrollment ends with a status and results: the derivation abandoned, the entry overwritten, the hold on the window
ended (R37), the keypad told, the request completed (R43, R44). -/
def State.endEnroll (s : State) (st : Status) (results : List Byte) (k : KeypadEnd) : State :=
  match s.cred.enroll with
  | none => s
  | some e =>
    let t := s.modCred fun c => { c.noDerivation with enroll := none }
    ((t.rearmWindow fun _ => false).endKeypad k).complete e.req st 0 results

/-- The enrollment has queued its SLOT record, so no cause ends it early (R44). -/
def Enrollment.committed (e : Enrollment) : Bool := e.stage = .slotCommit || e.stage = .deviceCommit

/-- An early end of an enrollment that has not queued its record (R44). -/
def State.stopEnroll (s : State) (st : Status) (k : KeypadEnd) : State :=
  match s.cred.enroll with
  | none => s
  | some e => if e.committed then s else s.endEnroll st [] k

/-- A close cause taken (R38): the window closes, and an enrollment other than the first ADMIN one ends NOT_AUTHORIZED
(R44), whatever the cause (log 41). -/
def State.closeWindow (s : State) : State :=
  if s.cred.window.isSome then
    match s.cred.enroll with
    | none => s.shutWindow
    | some e => if e.firstAdmin then s.shutWindow else s.shutWindow.stopEnroll .notAuthorized (.toIdle true)
  else s

/-- One tick of the 1 s timebase taken by the window timer (R37). The last second and the close that comes with it are one
rewrite of the section, which is the model's choice (log 72). -/
def State.windowTick (s : State) : State :=
  match s.cred.window with
  | none => s
  | some w =>
    if w.held then s
    else if w.left ≤ 1 then s.closeWindow
    else (s.modCred fun c => { c with window := some { w with left := w.left - 1 } }).refresh .window

/-- Takes the ticks at the head of the inbox while the unit is free, `n` at most. -/
def State.windowTicks : Nat → State → State
  | 0, s => s
  | n + 1, s =>
    if s.credFree && s.cred.inbox.head? = some .tick then State.windowTicks n s.popCred.windowTick.settle else s

/-- The credential unit takes the ticks whose turn it is (R29, R37). -/
def State.takeWindowTicks (s : State) : State := State.windowTicks s.cred.inbox.length s

/-- Before a query of the admin window the ticks whose turn it is are taken (R29, R39). -/
def State.beforeQuery (s : State) (asks : Bool) : State := if s.alive && asks then s.takeWindowTicks else s

/-- The unit is held no longer. -/
def State.credRelease (s : State) : State := s.credWaits .free

/-! ### Derivations and the search (R27, R31) -/

/-- Starts a derivation. -/
def State.startDerivation (s : State) (digits : List Digit) (salt : Half) (work : BitVec 2) : State :=
  s.modCred fun c => { c with deriv := some ⟨digits, salt, work, derivationMs work⟩ }

/-- The first slot from number `i` on that is searched for a domain (R31). -/
def State.nextSlot (s : State) (d : Domain) (i : Nat) : Option CSlot :=
  allSlots.find? fun j => i ≤ j.val && decide ((s.cslot j).role.domain = some d)

/-- The verification ends: its digits and any derived outputs overwritten (R30, R34). -/
def State.endVerify (s : State) : State := s.modCred fun c => { c.noDerivation with verify := none }

/-- A no-match (R34): reported to the lockout unit, "refused" to the keypad unit. -/
def State.noMatch (s : State) (d : Domain) : State :=
  (s.endVerify.tellLockout (.noMatch d)).tellKeypad (.outcome false)

/-- The search goes on from slot number `i` (R31). -/
def State.searchFrom (s : State) (v : Verification) (i : Nat) : State :=
  match s.nextSlot v.domain i with
  | none => s.noMatch v.domain
  | some j =>
    (s.startDerivation v.digits (s.cslot j).salt (s.cslot j).work).modCred fun c =>
      { c with verify := some { v with phase := .trying j false } }

/-- The open or fault orders of a match, one for each wrap entry in ascending volume order (R32 step 2). -/
def State.sendOrders (s : State) (slot : CSlot) (kek : Kek) (readWrite : Bool) : State :=
  (s.cslot slot).wraps.foldl (fun t e =>
    match unwrap kek e with
    | some key => t.tellGuard (.openVolume e.vol key slot readWrite)
    | none => t.tellGuard (.fault e.vol)) s

/-- The match of a USER, ADMIN or RECOVERY slot in one step (R32). -/
def State.matched (s : State) (d : Domain) (slot : CSlot) (kek : Kek) : State :=
  let c := s.cslot slot
  let t := (s.endVerify.tellLockout (.matched d)).sendOrders slot kek (c.role ≠ .user || !c.readOnly)
  let u := if c.role = .user then t else t.openWindow slot kek
  u.tellKeypad (.outcome true)

/-- The match of a WIPE slot in one step (R33). An empty bind mask starts nothing. -/
def State.wipeMatched (s : State) (d : Domain) (slot : CSlot) : State :=
  let t := s.endVerify.tellLockout (.matched d)
  let u := if (s.cslot slot).bind = 0 then t else t.tellEngine (.wipe (s.cslot slot).bind)
  u.tellKeypad (.outcome false)

/-- The duplicate search goes on from slot number `i`; after it the salt is drawn and the new slot's derivation begins
(R42). -/
def State.duplicateFrom (s : State) (e : Enrollment) (d : Domain) (i : Nat) : State :=
  match s.nextSlot d i with
  | some j =>
    (s.startDerivation e.pin (s.cslot j).salt (s.cslot j).work).modCred fun c =>
      { c with enroll := some { e with stage := .duplicate j false } }
  | none =>
    let salt := Config.randomSalt s.draws
    (({ s with draws := s.draws + 1 } : State).startDerivation e.pin salt e.work).modCred fun c =>
      { c with enroll := some { e with stage := .final, salt := salt } }

/-- The wrap list of a new slot: one entry for each volume of the bind mask (R42 step 3). -/
def State.newWraps (s : State) (kek : Kek) (m : VolSet) : List WrapEntry :=
  (allVols.filter fun v => inSet m v).map fun v => wrapEntry kek v (s.vol v).key

/-- The slot that an enrollment writes (R43). -/
def State.newSlot (s : State) (e : Enrollment) (verifier : Half) (kek : Kek) : CredSlot :=
  { role := e.role, readOnly := e.readOnly, salt := e.salt, work := e.work, verifier := verifier, bind := e.bind
    wraps := if e.role.bindsByWraps then s.newWraps kek e.bind else [] }

/-! ### Removal (R26) -/

/-- The slot without its wrap entry for a volume; USER, ADMIN and RECOVERY slots lose the volume from the bind mask. -/
def CredSlot.unbind (c : CredSlot) (v : Vol) : CredSlot :=
  { c with
    wraps := c.wraps.filter fun e => e.vol ≠ v
    bind := if c.role.bindsByWraps then c.bind &&& ~~~(single v) else c.bind }

/-- A slot's wrap list names a volume. -/
def CredSlot.names (c : CredSlot) (v : Vol) : Bool := c.wraps.any fun e => e.vol = v

/-- The slots whose wrap lists name a volume, ascending. -/
def State.slotsNaming (s : State) (v : Vol) : List CSlot := allSlots.filter fun i => (s.cslot i).names v

/-- Removes a volume from every slot that names it and queues each changed record for the owners `ws` (R26). -/
def State.removeWraps (s : State) (v : Vol) (ws : List Waiter) : State :=
  (s.slotsNaming v).foldl (fun t i =>
    let u := t.setSlot i ((t.cslot i).unbind v)
    u.queueRec (u.slotRec i) ws) s

/-- An enrollment that binds a removed volume, and has not queued its record, ends KEY_UNAVAILABLE (R44). -/
def State.removalEndsEnroll (s : State) (v : Vol) : State :=
  match s.cred.enroll with
  | none => s
  | some e =>
    if e.role.bindsByWraps && inSet e.bind v then s.stopEnroll .keyUnavailable (.toIdle true) else s

/-! ### Failed commits and revocation -/

/-- The step in progress ends because its commit failed: its request ends HALTED (R43, R47, R148). -/
def State.credFailed (s : State) : State :=
  match s.cred.wait with
  | .free => s
  | .removal _ => s.credRelease
  | .factory _ => s.credRelease
  | .revoke r _ _ => s.credRelease.complete r .halted 0 []
  | .enroll => s.credRelease.endEnroll .halted [] .leave

/-- A revoked slot that is being tried does not match (R31, R35). -/
def State.markRevoked (s : State) (i : CSlot) : State :=
  s.modCred fun c =>
    { c with
      verify := c.verify.map fun v =>
        { v with phase := match v.phase with
            | .trying j b => .trying j (b || j = i)
            | .charging => .charging }
      enroll := c.enroll.map fun e =>
        { e with stage := match e.stage with
            | .duplicate j b => .duplicate j (b || j = i)
            | x => x } }

/-- A slot made EMPTY (R24, R45). -/
def State.emptySlot (s : State) (i : CSlot) : State := (s.setSlot i {}).markRevoked i

end Sys2Proof.Machine
end

