-- ==== Sys2Proof/Machine/EngineOps.lean ====
section
/-! DEFINITION. The erase engine's shared operations: its list and its checkpoints (R109, R126), running and holds (R110,
R118, R125), the settling of a stripe (R119 to R121), the acceptance of a trigger (R111 to R114), the end of an entry
(R128 to R130), ABORT (R124) and the taking of an event in its turn (R110). -/

namespace Sys2Proof.Machine

/-! ### The list and its records -/

/-- The engine can take its next event: nothing holds it (R110). -/
def State.engineFree (s : State) : Bool := s.erase.job = .none && !s.waitsForRoom .engine

/-- Removes the event at the head of the engine's inbox. -/
def State.popEngine (s : State) : State := s.modErase fun e => { e with inbox := e.inbox.tail }

/-- Sets the work that holds the engine. -/
def State.setJob (s : State) (j : Job) : State := s.modErase fun e => { e with job := j }

/-- The head entry. -/
def State.eraseHead (s : State) : Option EraseEntry := s.erase.list.head?

/-- The entry of a volume. -/
def State.eraseEntry (s : State) (v : Vol) : Option EraseEntry := s.erase.list.find? fun e => e.vol = v

/-- Changes the entry of a volume. -/
def State.modEntry (s : State) (v : Vol) (g : EraseEntry → EraseEntry) : State :=
  s.modErase fun e => { e with list := e.list.map fun x => if x.vol = v then g x else x }

/-- The ERASE_LIST record. -/
def State.listRec (s : State) : Rec := .eraseList s.erase.list

/-- The CHECKPOINT record of an entry (R126). -/
def EraseEntry.checkpoint (e : EraseEntry) : Checkpoint :=
  { vol := some e.vol, passIndex := e.passIndex, nextStripe := e.nextStripe, suspects := e.suspects
    mismatches := e.mismatches }

/-- Queues the CHECKPOINT record of an entry; the engine does not wait for it (R126). -/
def State.checkpointOf (s : State) (e : EraseEntry) : State := s.queueRec (.checkpoint e.checkpoint) []

/-- Queues the head's CHECKPOINT record, if there is a head. -/
def State.checkpointHead (s : State) : State :=
  match s.eraseHead with
  | some e => s.checkpointOf e
  | none => s

/-- The entries of an origin, WIPE when `true`, in list order. -/
def ofOrigin (w : Bool) (l : List EraseEntry) : List EraseEntry := l.filter fun e => e.wipe = w

/-- Places a new entry at the end of its origin's group; the list never holds a second entry for a volume (R109). -/
def placeEntry (e : EraseEntry) (l : List EraseEntry) : List EraseEntry :=
  if l.any fun x => x.vol = e.vol then l
  else if e.wipe then ofOrigin true l ++ e :: ofOrigin false l else l ++ [e]

/-- A new entry with its options sampled from the POLICY record (R108). -/
def State.newEntry (s : State) (v : Vol) (plan : Plan) (wipe : Bool) : EraseEntry :=
  { vol := v, plan := plan, wipe := wipe, stopOnFault := s.store.policy.stopOnFault
    share := shareOf s.store.policy.eraseShare, action := actionOf s.store.policy.action, passes := plan.passes }

/-! ### Running and holds (R110, R118, R125) -/

/-- An entry with stop-on-fault that has counted a suspect stripe or a mismatch ends FAILED (R121). -/
def EraseEntry.stopped (e : EraseEntry) : Bool := e.stopOnFault && (e.suspects ≠ 0 || e.mismatches ≠ 0)

/-- The result of an entry at its end (R128). -/
def EraseEntry.result (e : EraseEntry) : EraseResult :=
  if e.stopped then .failed else if e.suspects ≠ 0 || e.mismatches ≠ 0 then .completeSuspect else .complete

/-- Begins the end of an entry with a result (R128 step 1). -/
def State.endEntryAs (s : State) (e : EraseEntry) (x : EraseResult) : State :=
  (s.tellGuard (.eraseEnd e.vol x e.suspects)).setJob (.endGuard e.vol)

/-- Begins the end of an entry that has run (R128 step 1). -/
def State.endEntry (s : State) (e : EraseEntry) : State := s.endEntryAs e e.result

/-- The engine runs (R118): nothing holds it, and the device has left STARTING and is not HALTED. -/
def State.engineRuns (s : State) : Bool :=
  s.erase.state = .running && s.erase.job = .none && s.device ≠ .starting && s.device ≠ .halted

/-- The engine asks for the link; under a supply warning and in HALTED the arbiter answers with the warning or the halt and
holds no request (R102, log 12). -/
def State.engineAsk (s : State) : State :=
  if s.link.engineAsks || s.link.granted = some .engine || !s.linkServes then s
  else (s.modLink fun l => { l with engineAsks := true }).boundary

/-- An entry that a fault has stopped ends whatever holds the engine (R121). -/
def State.stopDue (s : State) (e : EraseEntry) : Bool :=
  e.stopped && s.erase.job = .none && s.erase.flying.isNone && s.device ≠ .starting && s.device ≠ .halted

/-- The engine runs and no command of it is in flight: its head wants a stripe, or its end (R118). -/
def State.runDue (s : State) : Bool := s.engineRuns && s.erase.flying.isNone

/-- The head runs from its cursor (R118): it ends, or the engine asks for the link for its stripe. -/
def State.engineRun (s : State) : State :=
  match s.eraseHead with
  | none => s
  | some e =>
    if s.stopDue e then s.withdrawEngine.endEntry e
    else if s.runDue then
      if e.pass.isNone then s.endEntry e else s.engineAsk
    else s

/-- The head has a stripe to run and the engine may run it. -/
def State.engineWants (s : State) : Bool := s.runDue && s.eraseHead.any fun e => !e.stopped && e.pass.isSome

/-- The engine takes a pause or a hold, its flag already set: a pending request is withdrawn and the checkpoint queued,
or left until a command in flight has replied (R110, R125, R126). -/
def State.engineStops (s : State) : State :=
  if s.erase.flying.isSome then (s.modErase fun e => { e with due := true }).refresh .erase
  else ((s.modErase fun e => { e with pace := false }).withdrawEngine.checkpointHead).refresh .erase

/-- A hold is set (R125): no change when it stands already. In HALTED the hold is set and a pending request withdrawn (R110,
R137), and nothing more: no checkpoint is queued there and the section keeps what it showed (R132, log 67). -/
def State.setHold (s : State) (stands : Bool) (g : Erase → Erase) : State :=
  if stands then s
  else if s.device = .halted then (s.modErase g).withdrawEngine
  else (s.modErase g).engineStops

/-- A hold is cleared: the engine goes on if nothing else stops it (R125). In HALTED the hold is cleared and nothing more: the
section keeps what it showed, and nothing is issued (R132, R137, log 67). -/
def State.clearHold (s : State) (g : Erase → Erase) : State :=
  if s.device = .halted then s.modErase g else ((s.modErase g).refresh .erase).engineRun

/-! ### The end of an entry (R128, R130) -/

/-- The post-completion action of the last entry removed, applied when the list is empty (R130). -/
def State.postAction (s : State) (a : Action) : State :=
  if s.erase.list.isEmpty then
    match a with
    | .none => s
    | .lockAll => s.tellGuard (.lock allSet)
    | .halt =>
      if s.device = .ready then ((s.modStore fun x => { x with mode := .finishing }).enterHalted).refresh .device else s
  else s

/-- The checkpoint after a removal: the new head's, or volume 0 when the list is empty, which also clears the pause flag
(R110, R126). -/
def State.afterRemoval (s : State) (headChanged : Bool) : State :=
  if s.erase.list.isEmpty then (s.modErase fun e => { e with pause := false }).queueRec (.checkpoint {}) []
  else if headChanged then s.checkpointHead
  else s

/-- Removes an entry and queues the list (R128 step 2). -/
def State.removeEntry (s : State) (v : Vol) : State :=
  let a := ((s.eraseEntry v).map EraseEntry.action).getD .none
  let wasHead := s.eraseHead.any fun e => e.vol = v
  let t := (s.modErase fun e => { e with list := e.list.filter fun x => x.vol ≠ v }).setJob (.endList a wasHead)
  t.queueRec t.listRec [.engine]

/-- The list without the ended entry has committed (R128 steps 3 and 4). -/
def State.entryEnded (s : State) (a : Action) (wasHead : Bool) : State :=
  let t := ((s.setJob .none).attend .erase).afterRemoval wasHead
  ((t.refresh .erase).postAction a).engineRun

/-! ### The settling of a stripe (R118 to R121) -/

/-- The stripe at the cursor is settled: the cursor moves on (R118). -/
def EraseEntry.advance (e : EraseEntry) (n : Nat) : EraseEntry :=
  if e.nextStripe + 1 < n then { e with nextStripe := e.nextStripe + 1 }
  else { e with passIndex := e.passIndex + 1, nextStripe := 0, begun := false }

/-- One more suspect stripe, saturating. -/
def EraseEntry.suspect (e : EraseEntry) : EraseEntry := { e with suspects := satInc e.suspects }

/-- One more verify mismatch, saturating. -/
def EraseEntry.mismatch (e : EraseEntry) : EraseEntry := { e with mismatches := satInc e.mismatches }

/-- What a reply does at the cursor: the entry settled, or nothing; and whether a pace reissue is made (R120). -/
inductive Settling where
  | settled (e : EraseEntry)
  | reissue
  | unsettled
  deriving DecidableEq, Repr

/-- The pace window applies to this reply (R120). -/
def paced (e : EraseEntry) (count expect : Nat) : Bool :=
  (e.pass = some .fill || e.pass = some .discard) && stripeLength count e.nextStripe = 256 && expect ≠ 0

/-- A reply applied to an entry whose extent has `count` sectors; `second` says that it answers a pace reissue, `running`
that one may be made (R119 to R121). -/
def EraseEntry.settle (e : EraseEntry) (count : Nat) (second running : Bool) : StripeOutcome → Settling
  | .ok t expect =>
    if paced e count expect && !paceAccepts expect t then
      if second then .settled (e.suspect.advance (stripes count)) else if running then .reissue else .unsettled
    else .settled (e.advance (stripes count))
  | .data allZero => .settled ((if allZero then e else e.mismatch).advance (stripes count))
  | .mediaError => .settled (e.suspect.advance (stripes count))
  | .givenUp => .unsettled

/-- The checkpoints of a running pass: at a pass change, and when the next stripe is a non-zero multiple of 16 (R126). -/
def EraseEntry.atMark (e : EraseEntry) : Bool := e.nextStripe % 16 = 0

/-- The reply of the command in flight applied to its entry (R110, R118): the command is no longer in flight. In HALTED
nothing is committed and the section keeps its values (R132). -/
def State.applyReply (s : State) (v : Vol) (running : Bool) (o : StripeOutcome) : State :=
  let t := s.modErase fun x => { x with flying := none, pace := false }
  match s.eraseEntry v with
  | none => t
  | some e =>
    match e.settle (s.vol v).data.count s.erase.pace running o with
    | .settled e' =>
      let u := t.modEntry v fun _ => e'
      if u.device = .halted then u else if e'.atMark then u.checkpointOf e' else u
    | .reissue => t.modErase fun x => { x with pace := true }
    | .unsettled => t

/-- The checkpoint that a pause or a hold left until the reply, of the entry whose command has replied (R123, R125, R126). -/
def State.dueCheckpoint (s : State) (v : Vol) : State :=
  if s.erase.due then
    let t := s.modErase fun x => { x with due := false }
    match t.eraseEntry v with
    | some e => t.checkpointOf e
    | none => t
  else s

/-! ### Acceptance (R111 to R117) -/

/-- What a trigger does with a volume. -/
inductive Walk where
  | accept | merge | pass
  deriving DecidableEq, Repr

/-- Whether a trigger merges a volume that is in the list (R111). -/
def AcceptSource.merges : AcceptSource → Bool
  | .request _ => true
  | .wipeSlot => true
  | .brute => false
  | .chord => true
  | .orphan => false

/-- Whether a trigger accepts a BLANK volume (R111). -/
def AcceptSource.takesBlank : AcceptSource → Bool
  | .request _ => true
  | .wipeSlot => true
  | .brute => false
  | .chord => false
  | .orphan => false

/-- The columns of R111 for a volume; a volume in the list is never accepted a second time (R109, R113), and a trigger that
does not merge passes it over, be it FAULT (log 47). -/
def State.walk (s : State) (x : AcceptSource) (v : Vol) : Walk :=
  if (s.eraseEntry v).isSome then (if x.merges then .merge else .pass)
  else
    match (s.vol v).data.state with
    | .locked => .accept
    | .opened => .accept
    | .openRo => .accept
    | .fault => .accept
    | .blank => if x.takesBlank then .accept else .pass
    | .erasing => .pass
    | .absent => .pass

/-- The list after a merge (R113): the entry changed in its place, or moved to the end of the WIPE group. -/
def mergeInto (v : Vol) (p : Plan) (wipe : Bool) (l : List EraseEntry) : List EraseEntry :=
  match l.find? fun e => e.vol = v with
  | none => l
  | some e =>
    let e' := e.merge p wipe
    if e'.wipe && !e.wipe then
      let rest := l.filter fun x => x.vol ≠ v
      ofOrigin true rest ++ e' :: ofOrigin false rest
    else l.map fun x => if x.vol = v then e' else x

/-- The head that a change of the list suspends (R114): the old head when another entry stands at the head. -/
def suspendedBy (old new : List EraseEntry) : Option EraseEntry :=
  match old, new with
  | h :: _, g :: _ => if h.vol = g.vol then none else some h
  | _, _ => none

/-- The list changed, with the part of R114 that waits for nothing: the suspended head's request is withdrawn, and with
no command of it in flight its cursor is committed. -/
def State.relist (s : State) (l : List EraseEntry) : State :=
  let t := s.modErase fun e => { e with list := l }
  match suspendedBy s.erase.list l with
  | none => t
  | some h =>
    let u := t.withdrawEngine
    if u.erase.flying.isSome then u else (u.modErase fun e => { e with pace := false }).checkpointOf h

/-- The acceptance of a trigger is complete (R117): its sender is told. -/
def State.acceptDone (s : State) (a : Acceptance) : State :=
  let t := s.setJob .none
  let u := match a.source with
    | .request r => t.complete r .ok 0 [a.accepted, a.merged, a.retired]
    | .brute => t.tellLockout .accepted
    | .wipeSlot => t
    | .chord => t
    | .orphan => t
  u.engineRun

/-- The walk through the volumes of a trigger (R111): up to the first that must wait. -/
def State.acceptFrom (s : State) (a : Acceptance) : List Vol → State
  | [] => s.acceptDone a
  | v :: t =>
    match s.walk a.source v with
    | .pass => s.acceptFrom a t
    | .accept =>
      ((s.tellGuard (.lock (single v))).tellCred (.removal v)).setJob (.accept { a with todo := t, stage := .removal v })
    | .merge =>
      let l := mergeInto v a.plan a.wipe s.erase.list
      let b := { a with merged := a.merged ||| single v }
      if l = s.erase.list then s.acceptFrom b t
      else
        let moved := (suspendedBy s.erase.list l).isSome
        let u := (s.relist l).setJob (.accept { b with todo := t, stage := .merge moved })
        u.queueRec u.listRec [.engine]

/-- A trigger taken (R111). -/
def State.accept (s : State) (x : AcceptSource) (wipe : Bool) (plan : Plan) (vs : List Vol) : State :=
  s.acceptFrom { source := x, wipe := wipe, plan := plan, todo := [], stage := .reply } vs

/-- The wipe plan sampled for a wipe trigger (R111). -/
def State.wipePlan (s : State) : Plan := wipePlanOf s.store.policy.wipePlan

/-- A volume of the acceptance is done with the list as it stands: the section is rewritten and, while the command of a
suspended head flies, its reply awaited (R112 step 5, R114); else a new head's checkpoint is queued and the walk goes
on. That the section shows the new head ACTIVE, with its cursor, before that reply is deduced (log 84; R109). -/
def State.acceptNext (s : State) (a : Acceptance) (newHead : Bool) : State :=
  let t := s.refresh .erase
  if newHead then
    if t.erase.flying.isSome then t.setJob (.accept { a with stage := .reply })
    else t.checkpointHead.acceptFrom a a.todo
  else t.acceptFrom a a.todo

/-- The removal the engine waits for is done (R112 step 2): the acceptance order goes to the guard. -/
def State.removalDone (s : State) : State :=
  match s.erase.job with
  | .accept a =>
    match a.stage with
    | .removal v => (s.tellGuard (.eraseAccept v)).setJob (.accept { a with stage := .guard v })
    | _ => s
  | _ => s

/-- The engine enters the accepted volume in its list and queues the ERASE_LIST record, for which the guard waits (R112
step 4). -/
def State.enterVolume (s : State) (v : Vol) : State :=
  match s.erase.job with
  | .accept a =>
    let t := s.relist (placeEntry (s.newEntry v a.plan a.wipe) s.erase.list)
    t.queueRec t.listRec [.guard]
  | _ => s

/-- The guard's acceptance order has ended with both commits (R112 steps 4 and 5). -/
def State.volumeAccepted (s : State) (v : Vol) : State :=
  match s.erase.job with
  | .accept a =>
    if a.stage = .guard v then
      s.acceptNext { a with accepted := a.accepted ||| single v } (s.eraseHead.any fun e => e.vol = v)
    else s
  | _ => s

/-- The guard has retired the volume, or left it unchanged: no entry is added (R112 step 3). -/
def State.volumeRetired (s : State) (v : Vol) (retired : Bool) : State :=
  match s.erase.job with
  | .accept a =>
    if a.stage = .guard v then
      let b := if retired then { a with retired := a.retired ||| single v } else a
      s.acceptFrom b b.todo
    else s
  | _ => s

/-- The reply of a suspended entry's command has been applied (R114 steps 1 to 3). -/
def State.suspensionDone (s : State) (a : Acceptance) (v : Vol) : State :=
  let t := match s.eraseEntry v with
    | some e => s.checkpointOf e
    | none => s
  let u := (t.queueRec t.listRec []).checkpointHead
  (u.refresh .erase).acceptFrom a a.todo

/-! ### ABORT (R124) -/

/-- The action of the last REQUEST entry of a list. -/
def lastAction (l : List EraseEntry) : Action := ((ofOrigin false l).getLast?.map EraseEntry.action).getD .none

/-- The erase end order of an aborted entry. -/
def State.abortVolume (s : State) (v : Vol) : State :=
  s.tellGuard (.eraseEnd v .aborted (((s.eraseEntry v).map EraseEntry.suspects).getD 0))

/-- The REQUEST entries are ended in list order (R124 step 2); with none left, the list is committed without them (step
3). -/
def State.abortFrom (s : State) (r : Request) (n : Nat) (a : Action) : List Vol → State
  | v :: t => (s.abortVolume v).setJob (.abortGuard r t n a)
  | [] =>
    let u := (s.modErase fun e => { e with list := ofOrigin true e.list }).setJob (.abortList r n a)
    u.queueRec u.listRec [.engine]

/-- The ABORT goes on once no command of the head is in flight. -/
def State.abortEntries (s : State) (r : Request) : State :=
  let l := ofOrigin false s.erase.list
  s.abortFrom r l.length (lastAction s.erase.list) (l.map EraseEntry.vol)

/-- The list without the aborted entries has committed (R124 steps 3 and 4, R130). -/
def State.aborted (s : State) (r : Request) (n : Nat) (a : Action) : State :=
  let t := ((s.setJob .none).attend .erase).afterRemoval false
  (((t.refresh .erase).complete r .ok 0 [t.erase.state.code, BitVec.ofNat 8 n]).postAction a).engineRun

/-! ### Answers from the guard and the store -/

/-- The guard has ended the erase end order for a volume (R128 step 2, R124 step 2). -/
def State.volumeEnded (s : State) (v : Vol) : State :=
  match s.erase.job with
  | .endGuard w => if v = w then s.removeEntry v else s
  | .abortGuard r todo n a => s.abortFrom r n a todo
  | _ => s

/-- A commit that the engine waits for is complete. -/
def State.engineCommitted (s : State) : State :=
  match s.erase.job with
  | .endList a wasHead => s.entryEnded a wasHead
  | .abortList r n a => s.aborted r n a
  | .accept a =>
    match a.stage with
    | .merge newHead => s.acceptNext a newHead
    | _ => s
  | _ => s

/-- The reply, or the failure, that a held engine waits for has been taken (R114, R124). In HALTED the acceptance or the ABORT
that waited stops where it stands: no record is queued and nothing more ordered (R132; an ABORT too, log 57). -/
def State.replyTaken (s : State) (v : Vol) : State :=
  if s.device = .halted then s
  else
    match s.erase.job with
    | .accept a => if a.stage = .reply then s.suspensionDone a v else s
    | .abortReply r => s.abortEntries r
    | _ => s

/-- The request that the engine is serving, if any. -/
def Job.request : Job → Option Request
  | .accept a =>
    match a.source with
    | .request r => some r
    | _ => Option.none
  | .abortReply r => some r
  | .abortGuard r _ _ _ => some r
  | .abortList r _ _ => some r
  | .none => Option.none
  | .endGuard _ => Option.none
  | .endList _ _ => Option.none

/-! ### The loss of an extent (R129) -/

/-- The stripes that an entry with `n` stripes a pass has not run. -/
def EraseEntry.unrun (e : EraseEntry) (n : Nat) : Nat :=
  if e.passIndex < e.passes.length then (n - e.nextStripe) + n * (e.passes.length - e.passIndex - 1) else 0

/-- An entry whose extent is lost: every stripe not yet run counts as suspect, saturating, and its passes are at their
end, where the cursor stands at no pass that has begun (R108). -/
def EraseEntry.lost (e : EraseEntry) (n : Nat) : EraseEntry :=
  { e with suspects := min (e.suspects + e.unrun n) 65535, passIndex := e.passes.length, nextStripe := 0, begun := false }

/-- The result of an entry whose extent is lost, with `n` stripes a pass (R129): FAILED for a stop-on-fault entry with a
stripe so counted, else that of a complete entry by its counters. -/
def EraseEntry.lostResult (e : EraseEntry) (n : Nat) : EraseResult :=
  if e.stopOnFault && e.unrun n ≠ 0 then .failed
  else if (e.lost n).suspects ≠ 0 || e.mismatches ≠ 0 then .completeSuspect
  else .complete

/-- The extent of an entry's volume is lost (R129). -/
def State.extentLost (s : State) (v : Vol) : State :=
  match s.eraseEntry v with
  | none => s
  | some e =>
    let n := s.stripesOf v
    let t := if s.eraseHead.any fun h => h.vol = v then (s.modErase fun x => { x with pace := false }).withdrawEngine else s
    ((t.modEntry v fun _ => e.lost n).refresh .erase).endEntryAs (e.lost n) (e.lostResult n)

/-! ### The engine's turn -/

/-- Takes the event at the head of the engine's inbox if it is the one the step names and nothing holds the engine (R110);
then the arbiter may grant what stands asked for (R102). -/
def State.takeEvent (s : State) (act : EngineEvent → Option (State → State)) : State :=
  if s.alive && s.engineFree then
    match s.erase.inbox with
    | [] => s
    | e :: _ =>
      match act e with
      | some g => (g s.popEngine).boundary.settle
      | none => s
  else s

end Sys2Proof.Machine
end

