-- ==== Sys2Proof/Machine/Wake.lean ====
section
/-! DEFINITION. What the owners of records do when the store answers them (R146 to R148): "committed", or "failed"; the
failure of a commit; and the end of STARTING (R155, R156). -/

namespace Sys2Proof.Machine

/-! ### Leaving STARTING (R155) -/

/-- An ADMIN slot is occupied; a DAMAGED slot does not count (R155). -/
def State.adminSlot (s : State) : Bool := allSlots.any fun i => (s.cslot i).role = .admin

/-- The device state after start-up by the table of R155. -/
def State.decidedState (s : State) : DeviceState :=
  if s.adminSlot || s.store.device.provisioned then .ready else .unprovisioned

/-- The part leaves STARTING (R155): the keypad starts, the first temperature sample is taken, the engine sets the link
hold of a link in FAULT and runs, and the pending scan is made. -/
def State.leaveStarting (s : State) : State :=
  let t := ({ s with device := s.decidedState }).modStartUp fun x => 
    { x with next := 0, sixBegun := false, deviceCommit := false }
  let u := (t.refresh .device).sampleKeypad.modKeypad fun k => { k with scanning := true }
  let v := u.sample u.temp.sensor
  let w := (if v.link.state = .fault then v.setHold v.erase.linkHold fun e => { e with linkHold := true } else v)
  let x := (w.refresh .erase).engineRun
  (if x.exch.warned then x else x.pendingScan).settle

/-! ### "Committed" -/

/-- The record of a volume that has been defined: OPEN, or OPEN_RO when it is write protected (R21 step 5). -/
def Volume.defined (v : Volume) (r : VolRec) (key : MediaKey) (slot : CSlot) : Volume :=
  { v with
    data := { r with state := openState true r.writeProtect }
    openedBy := some slot, extentKnown := true, key := key, keyHeld := true, idle := idlePeriod r.idleCode }

/-- The VOLUME record that a DEFINE_VOLUME request gives (R21 step 3): the idle code clamped to 7 (R20). -/
def Request.volRec (r : Request) : VolRec :=
  { state := .locked, first := r.field 8 4, count := r.field 12 4, idleCode := min (r.byte 5).toNat 7
    writeProtect := (r.byte 6).getLsbD 0, lastResult := .none, suspects := 0 }

/-- The guard goes on once its commits are complete (R10 to R13, R21, R22). -/
def State.guardThen (s : State) : GuardThen → State
  | .faulted => s
  | .accepted v => s.volumeAccepted v
  | .retired v => s.volumeRetired v true
  | .ended v => s.volumeEnded v
  | .define r v key slot => 
    ((s.modVol v fun x => x.defined r.volRec key slot).reportVolumes).complete r .ok 0 [BitVec.ofNat 8 slot.val]
  | .delete r v => ((s.modVol v Volume.gone).reportVolumes).complete r .ok 0 []

/-- One of the commits that the guard waits for is complete. -/
def State.guardCommitted (s : State) : State :=
  match s.guard.wait with
  | .commits n next => if n ≤ 1 then (s.guardWaits .free).guardThen next else s.guardWaits (.commits (n - 1) next)
  | _ => s

/-- The results of an ENROLL that ends OK (R177): role, access and work code as stored. -/
def Enrollment.results (e : Enrollment) : List Byte :=
  [e.role.code, BitVec.ofNat 8 (bit e.readOnly), BitVec.ofNat 8 e.work.toNat]

/-- The SLOT or DEVICE commit of an enrollment is complete (R43). -/
def State.enrollCommitted (s : State) (e : Enrollment) : State :=
  if e.stage = .slotCommit && e.firstAdmin then
    let t := (s.modCred fun c => { c with enroll := some { e with stage := .deviceCommit } }).modStore fun x =>
      { x with device := { x.device with provisioned := true } }
    if t.storeTakes then t.queueRec (.device t.store.device) [.credential] else t.credFailed
  else if e.firstAdmin then
    let t := if s.device = .unprovisioned then ({ s with device := .ready } : State).refresh .device else s
    ((t.openWindow e.slot e.kek).credRelease).endEnroll .ok e.results (.outcome true)
  else s.credRelease.endEnroll .ok e.results (.outcome true)

/-- The factory revocation's commits are complete (R46 step 5). -/
def State.factoryDone (s : State) : State :=
  if s.device = .ready then ({ s with device := .unprovisioned } : State).refresh .device else s

/-- One of the commits that the credential unit waits for is complete (R26, R43, R45, R46). A REVOKE whose record was queued
before the action HALT ends OK when it has committed (log 42). -/
def State.credCommitted (s : State) : State :=
  match s.cred.wait with
  | .free => s
  | .removal n => if n ≤ 1 then s.credRelease.removalDone else s.credWaits (.removal (n - 1))
  | .revoke r role slot =>
    let t := if s.cred.window.any fun w => w.slot = slot then s.closeWindow else s
    t.credRelease.complete r .ok 0 [role.code]
  | .factory n => if n ≤ 1 then s.credRelease.factoryDone else s.credWaits (.factory (n - 1))
  | .enroll =>
    match s.cred.enroll with
    | some e => s.enrollCommitted e
    | none => s.credRelease

/-- The commit of a charge is complete (R51 step 5). -/
def State.chargeDone (s : State) : State :=
  match s.lockout.wait with
  | .charge d => ((s.refreshEntry d).tellCred .chargeCommitted).lockoutRelease
  | _ => s

/-- The POLICY commit is complete (R158): the results give the settings as stored. -/
def State.policyDone (s : State) : State :=
  match s.store.setting with
  | some r => (s.modStore fun x => { x with setting := none }).complete r .ok 0 s.store.policy.bytes
  | none => s

/-- The store's answer "committed" to an owner. -/
def State.committed (s : State) : Waiter → State
  | .guard => s.guardCommitted
  | .credential => s.credCommitted
  | .lockout => s.chargeDone
  | .engine => s.engineCommitted
  | .link => if s.link.ident = .commit then s.identDone else s
  | .store => s.policyDone
  | .startUp => if s.startUp.deviceCommit && s.device = .starting then s.leaveStarting else s

/-! ### "Failed" (R148) -/

/-- The store's answer "failed" to an owner. The erase engine, and a charge that is not reported, end with the entry to
HALTED (R52, R132). A SET_POLICY ends HALTED, and the settings in use are those of the POLICY record that the array now holds
(R158); that they are the defaults when its check value disagrees is deduced (log 59). That the taking of an identity ends there, before
the rewrite and READY (R101), is deduced (log 66). -/
def State.failed (s : State) : Waiter → State
  | .guard => s.guardFailed
  | .credential => s.credFailed
  | .lockout =>
    match s.lockout.wait with
    | .charge _ => s.lockoutRelease
    | _ => s
  | .engine => s
  | .link => s.modLink fun l => { l with ident := .none }
  | .store =>
    match s.store.setting with
    | some r =>
      (s.modStore fun x => { x with setting := none, policy := x.nv.settings }).complete r .halted 0 []
    | none => s
  | .startUp => s.modStartUp fun x => { x with deviceCommit := false }

/-- A commit has failed (R148): what it leaves in the array, the failed record, STORE attention, the queue gone, the device
HALTED, and "failed" to every owner that waits: first those of the failed entry, then those of the queue and of the room, each in
the order in which they began to wait, an order that is the model's choice (log 74). A request that so ends does it with the
device HALTED already (R21), so that its followers are taken in HALTED (R171). From STARTING, start-up ends where it stands, the
temperature monitor takes its first sample and the pending scan is made (R156, R133, R162); the keypad settings stay as they were
(log 38), and with the link in FAULT the engine's link hold stays as it was, which is the model's choice (log 71). -/
def State.commitFailed (s : State) (q : Queued) (left : Cut) : State :=
  let ws := q.waiters ++ s.store.queue.flatMap Queued.waiters ++ s.store.room.flatMap Queued.waiters
  let t := (s.modStore fun x =>
    { x with
      nv := x.nv.cut q.data left, failed := some q.data.id, current := none, retrying := false, queue := [], room := []
      mode := .stopped }).attend .store
  let u := (ws.foldl State.failed t.enterHalted).refresh .device
  if s.device = .starting then
    let v := (u.modStartUp fun _ => { next := 0 }).sample s.temp.sensor
    if v.exch.warned then v else v.pendingScan
  else u

end Sys2Proof.Machine
end

