-- ==== Sys2Proof/Machine/StartUpSteps.lean ====
section
/-! DEFINITION. RESET, loss of power and the six steps of start-up (chapter 8): the meanings of RESET_ASSERT, START_UP,
POWER_LOSS, LOAD_RECORDS, ORPHAN_CHECK, LOCKOUT_EXAMINATION, START_UP_IDENT and LEAVE_STARTING. -/

namespace Sys2Proof.Machine

/-! ### The end of everything in progress (R150, R181) -/

/-- What is left when the part stops or starts: the array, the random generator, the queue of commands, the contacts of
the keypad and the temperature of the die; every volatile value is as at the end of step 1. -/
def State.cleared (s : State) (nv : NvArray) (p : PowerState) : State :=
  { State.reset with
    pending := s.pending
    draws := s.draws
    power := p
    store := { State.reset.store with nv := nv }
    keypad := { State.reset.keypad with contacts := s.keypad.contacts }
    temp := { State.reset.temp with sensor := s.temp.sensor } }

/-- RESET_ASSERT (R150): the part stops at once; a commit in progress is cut off (R147). -/
def execResetAssert (cut : Cut) (s : State) : Host.Outcome State Fault Refusal :=
  go (if s.power = .off then s else s.cleared (s.cutArray cut) .inReset)

/-- POWER_LOSS (R181): everything volatile is lost; a commit in progress is cut off. -/
def execPowerLoss (cut : Cut) (s : State) : Host.Outcome State Fault Refusal :=
  go (s.cleared (s.cutArray cut) .off)

/-- A supply warning raised (R140). -/
def State.raiseWarning (s : State) : State :=
  (((s.modSupply fun _ => { cond := .warning, count := 0 }).attend .supply).handAll .warning).refresh .device

/-- Step 1 has ended and nothing has followed it. -/
def State.atStepOne (s : State) : Bool := s.alive && s.device = .starting && s.startUp.next = 2

/-- START_UP (R150 step 1, R139): every block takes its values after start-up and the supply comparator is read. It acts
when the part has stopped, and again while step 1 is the last that has been taken (log 29). -/
def execStartUp (supplyGood : Bool) (s : State) : Host.Outcome State Fault Refusal :=
  go (if !s.alive || s.atStepOne then
        let t := s.cleared s.store.nv .on
        if supplyGood then t else t.raiseWarning
      else s)

/-! ### Checking the records (R144) -/

/-- The structure that a SLOT record must have (R144). -/
def CredSlot.sound (c : CredSlot) : Bool :=
  let vols := c.wraps.map fun e => e.vol.val
  vols.Pairwise (· < ·) &&
    match c.role with
    | .empty => c = {}
    | .damaged => c = { role := .damaged }
    | .wipe => c.wraps.isEmpty
    | _ => c.bind = setOf fun v => vols.contains v.val

/-- The structure that a VOLUME record must have (R144). -/
def VolRec.sound (r : VolRec) : Bool :=
  match r.state with
  | .opened => false
  | .openRo => false
  | .absent => r = VolRec.absent
  | _ => 1 ≤ r.count && r.first + r.count ≤ 2 ^ 32

/-- The structure that an ERASE_LIST record must have (R144). -/
def listSound (l : List EraseEntry) : Bool :=
  l.length ≤ 8 && (l.map EraseEntry.vol).Nodup && (ofOrigin true l ++ ofOrigin false l = l) &&
    l.all fun e => e.passes.head? = some .key && e.passes.Nodup

/-- A record is intact: its check value agrees and its structure is that of its kind (R144). -/
def Stored.intact {α : Type} (x : Stored α) (sound : α → Bool) : Bool := x.ok && sound x.val

/-- The damage set of the array (R149, R151), by the bits of R179. -/
def NvArray.damage (n : NvArray) : BitVec 30 :=
  let bits : List Bool :=
    [n.device.intact fun _ => true, n.policy.intact fun _ => true] ++
      (allSlots.map fun i => n.slots[i].intact CredSlot.sound) ++
      (allVols.map fun v => n.volumes[v].intact VolRec.sound) ++
      [n.normal.intact fun _ => true, n.recovery.intact fun _ => true, n.eraseList.intact listSound,
        n.checkpoint.intact fun c => c.passIndex ≤ 4]
  BitVec.ofNat 30 (bits.foldr (fun b m => bit (!b) + 2 * m) 0)

/-! ### Loading (R151) -/

/-- Bit `k` of the damage set. -/
def State.damaged (s : State) (k : Nat) : Bool := s.store.damage.getLsbD k

/-- A slot as loaded (R47). -/
def loadSlot (x : Stored CredSlot) : CredSlot := if x.intact CredSlot.sound then x.val else { role := .damaged }

/-- A volume as loaded (R23). From a damaged record R23 keeps the extent for display; that the other fields are shown as read too
is the model's choice (log 77). -/
def loadVolume (x : Stored VolRec) : Volume :=
  if x.intact VolRec.sound then { data := x.val, extentKnown := true } else { data := { x.val with state := .fault } }

/-- A domain as loaded (R62, R151), with the sampled inputs it had. -/
def loadDomain (x : Stored DomainRec) (p : DomainPolicy) (inputs : Sampled) : DomainState :=
  if x.ok then { f := x.val.f, flag := x.val.flag, inputs := inputs } else { f := clampA p.a, inputs := inputs }

/-- The provisioned flag of a damaged DEVICE record (R151). -/
def State.provisionedGuess (s : State) : Bool :=
  (allSlots.any fun i => (s.cslot i).occupied) || allVols.any fun v => (s.vol v).data.state ≠ .absent

/-- The records in the blocks that own them, and the rewrites of those that are damaged and written back (R151). -/
def State.loadAll (s : State) : State :=
  let n := s.store.nv
  let policy := n.settings
  let a := s.modStore fun x => { x with damage := n.damage, policy := policy }
  let b := (a.modCred fun c => { c with slots := n.slots.map loadSlot }).modGuard fun g =>
    { g with vols := n.volumes.map loadVolume }
  let c := b.modLockout fun l =>
    { l with
      normal := loadDomain n.normal policy.normal l.normal.inputs
      recovery := loadDomain n.recovery policy.recovery l.recovery.inputs }
  let d := c.modStore fun x =>
    { x with device := if n.device.ok then n.device.val else ⟨c.provisionedGuess, 0⟩ }
  let e := d.modLink fun l => { l with capacity := d.store.device.capacity }
  let q (r : Rec) (damaged : Bool) (t : State) : State := if damaged then t.queueRec r [] else t
  let f := q (.policy policy) (!n.policy.ok) e
  let g := q (.device f.store.device) (!n.device.ok) f
  let h := q (g.domainRec .normal) (!n.normal.ok) g
  let i := q (h.domainRec .recovery) (!n.recovery.ok) h
  if n.damage = 0 then i else i.attend .store

/-! ### The repairs (R152) -/

/-- Wrap healing: no slot goes on naming a volume that is ABSENT, ERASING or BLANK (R152 substep 1). -/
def State.healWraps (s : State) : State :=
  allVols.foldl (fun t v =>
    match (t.vol v).data.state with
    | .absent => t.removeWraps v []
    | .erasing => t.removeWraps v []
    | .blank => t.removeWraps v []
    | _ => t) s

/-- A loaded entry: the pass at its cursor counts as begun when its next stripe is above 0 (R127). -/
def EraseEntry.loaded (e : EraseEntry) : EraseEntry := { e with begun := 0 < e.nextStripe }

/-- The list as R127 leaves it: the entries whose volumes are ERASING. -/
def State.keptEntries (s : State) (l : List EraseEntry) : List EraseEntry :=
  (l.filter fun e => (s.vol e.vol).data.state = .erasing).map EraseEntry.loaded

/-- Entries that start-up ends because their volume is neither ERASING nor BLANK (R127, R129). -/
def State.endedEntries (s : State) (l : List EraseEntry) : List EraseEntry :=
  l.filter fun e => (s.vol e.vol).data.state ≠ .erasing && (s.vol e.vol).data.state ≠ .blank

/-- The entries that start-up adds, FULL and WIPE, for ERASING volumes without one (R152 substeps 2 and 3). -/
def State.missingEntries (s : State) (l : List EraseEntry) : List EraseEntry :=
  (allVols.filter fun v => (s.vol v).data.state = .erasing && !l.any fun e => e.vol = v).map fun v =>
    s.newEntry v .full true

/-- The head's cursor from the CHECKPOINT record (R127, R152 substep 4). -/
def EraseEntry.resume (e : EraseEntry) (x : Stored Checkpoint) : EraseEntry :=
  if x.intact fun c => c.passIndex ≤ 4 then
    if x.val.vol = some e.vol then
      { e with
        passIndex := x.val.passIndex, nextStripe := x.val.nextStripe, suspects := x.val.suspects
        mismatches := x.val.mismatches, begun := 0 < x.val.nextStripe }
    else e
  else { e with passIndex := 1, nextStripe := 0, suspects := 0, mismatches := 0, begun := false }

/-- The erase list loaded, or rebuilt, with its repairs and their commits (R152 substeps 2 to 5, R128). -/
def State.loadList (s : State) : State :=
  let n := s.store.nv
  let intact := n.eraseList.intact listSound
  let stored := if intact then n.eraseList.val else []
  let kept := s.keptEntries stored
  let ended := s.endedEntries stored
  let whole := (s.missingEntries kept).foldl (fun l e => placeEntry e l) kept
  let list := match whole with
    | [] => []
    | h :: t => h.resume n.checkpoint :: t
  let t := s.modErase fun e => { e with list := list }
  let u := if intact && kept.length = stored.length && whole.length = kept.length then t else t.queueRec t.listRec []
  let v := if list.isEmpty && !ended.isEmpty then u.queueRec (.checkpoint {}) [] else u.checkpointHead
  if ended.isEmpty then v else v.attend .erase

/-! ### The steps -/

/-- Start-up has come to step `n`. -/
def State.atStep (s : State) (n : Nat) : Bool := s.alive && s.device = .starting && s.startUp.next = n

/-- Step `n` of start-up is due and no supply warning stands (R156). -/
def State.stepDue (s : State) (n : Nat) : Bool := s.atStep n && s.supply.cond = .good

/-- Start-up goes on to step `n`. -/
def State.toStep (s : State) (n : Nat) : State := s.modStartUp fun x => { x with next := n }

/-- LOAD_RECORDS (R151, R152). -/
def execLoadRecords (s : State) : Host.Outcome State Fault Refusal :=
  go (if s.stepDue 2 then
        let t := (s.loadAll.healWraps.loadList).toStep 3
        (((((t.refresh .device).refresh .volumes).refresh .window).refresh .erase).refresh .link).settle
      else s)

/-- The orphans: LOCKED or FAULT volumes that no slot's wrap list names (R153). -/
def State.orphans (s : State) : List Vol :=
  allVols.filter fun v =>
    ((s.vol v).data.state = .locked || (s.vol v).data.state = .fault) && (s.slotsNaming v).isEmpty

/-- The orphans handed to the erase engine as one trigger, which stands behind what waits there (R110, R153); without an orphan
there is no trigger. -/
def State.handOrphans (s : State) : State :=
  if s.orphans.isEmpty then s.toStep 4 else (s.toStep 4).tellEngine (.orphans s.orphans)

/-- ORPHAN_CHECK (R153): the orphans are handed to the engine when step 3 is due, and the engine takes that trigger, with
origin WIPE and the wipe plan, in its turn (R110): in the same step when nothing holds it and nothing waits, else by a later
ORPHAN_CHECK. In HALTED it is discarded (R117). -/
def execOrphanCheck (s : State) : Host.Outcome State Fault Refusal :=
  let t := if s.stepDue 3 then s.handOrphans else s
  go (t.takeEvent fun e =>
    match e with
    | .orphans vs => some fun u => if u.device = .halted then u else u.accept .orphan true u.wipePlan vs
    | _ => none)

/-- The examination has ended (R62): the domains section is written and step 5 is due. -/
def State.examined (s : State) : State :=
  ((s.modStartUp fun x => { x with next := 5, examining := none }).refresh .domains).settle

/-- The examination of one domain and, unless a wipe must be awaited, what follows it. -/
def State.examineThen (s : State) (d : Domain) (k : State → State) : State :=
  let r := s.examine d
  if r.2 then r.1.modStartUp fun x => { x with examining := some d } else k r.1

/-- The examination goes on after a domain. -/
def State.examineAfter (s : State) : Domain → State
  | .normal => s.examineThen .recovery State.examined
  | .recovery => s.examined

/-- The engine has taken the trigger of step 3, if there was one. -/
def State.orphansTaken (s : State) : Bool := s.erase.inbox.all fun e => !e.isOrphans

/-- LOCKOUT_EXAMINATION (R62, R154): NORMAL first, once step 3 is at its end. That it waits for a held unit but not for the events
that wait in the unit's inbox is the model's choice (log 78). -/
def execLockoutExamination (s : State) : Host.Outcome State Fault Refusal :=
  go (if s.stepDue 4 && s.startUp.examining.isNone && s.lockoutFree && s.engineFree && s.orphansTaken then
        (s.examineThen .normal fun t => t.examineAfter .normal)
      else s)

/-- START_UP_IDENT (R101, R154): the controller leaves DOWN and issues IDENT. -/
def execStartUpIdent (s : State) : Host.Outcome State Fault Refusal :=
  go (if s.stepDue 5 && !s.startUp.identAsked && s.link.inFlight.isNone && s.link.ident = .none && s.linkServes then
        (s.modStartUp fun x => { x with identAsked := true }).issue (identCommand false)
      else s)

/-- Nothing that steps 2 to 5 began is left: every commit has landed and no order is on its way between the guard, the
credential unit and the erase engine, where only signals and ticks may still wait. -/
def State.workDone (s : State) : Bool :=
  s.storeQuiet && s.erase.job = .none && (s.erase.inbox.all fun e => e.signal?.isSome) && s.guard.wait = .free &&
    (s.guard.inbox.all fun o => o.signal?.isSome) && s.cred.wait = .free &&
    (s.cred.inbox.all fun e => e = .tick || e.signal?.isSome) && s.link.ident = .none

/-- Step 6 may begin, or has begun; a supply warning that comes then does not stop it (R156). -/
def State.sixDue (s : State) : Bool := s.atStep 6 && (s.supply.cond = .good || s.startUp.sixBegun)

/-- The end of step 6 (R155): the part leaves STARTING at once, or after the DEVICE commit of the table's third row. -/
def State.endStarting (s : State) : State :=
  if s.adminSlot && !s.store.device.provisioned then
    let t := (s.modStore fun x => { x with device := { x.device with provisioned := true } }).modStartUp fun x =>
      { x with sixBegun := true, deviceCommit := true }
    t.queueRec (.device t.store.device) [.startUp]
  else s.leaveStarting

/-- LEAVE_STARTING (R155): step 6 begins and waits until nothing that steps 2 to 5 began is left, and ends. -/
def execLeaveStarting (sensor : Int) (s : State) : Host.Outcome State Fault Refusal :=
  go (if s.sixDue then
        if s.workDone && !s.startUp.deviceCommit then (s.modTemp fun m => { m with sensor := sensor }).endStarting
        else s.modStartUp fun x => { x with sixBegun := true }
      else s)

end Sys2Proof.Machine
end

