-- ==== Sys2Proof/Machine/SupplySteps.lean ====
section
/-! DEFINITION. The supply monitor (R139 to R142), and the signals of the monitors and of HALTED at each block: the
meanings of SUPPLY_WARNING, SUPPLY_RISE, SUPPLY_RECOVERY, WARNING_TAKEN, RECOVERY_TAKEN, HALT_ORDER,
TEMPERATURE_SAMPLE, HOT_SIGNAL, CRITICAL_SIGNAL and RELEASE_SIGNAL. -/

namespace Sys2Proof.Machine

/-! ### The supply monitor -/

/-- SUPPLY_WARNING: the comparator falls to low (R140). In RECOVERING no second warning is raised. -/
def execSupplyWarning (s : State) : Host.Outcome State Fault Refusal :=
  go (if s.alive then
        match s.supply.cond with
        | .good => s.raiseWarning
        | .recovering => (s.modSupply fun _ => { cond := .warning, count := 0 }).refresh .device
        | .warning => s
      else s)

/-- SUPPLY_RISE: the comparator rises to good (R141). -/
def execSupplyRise (s : State) : Host.Outcome State Fault Refusal :=
  go (if s.alive && s.supply.cond = .warning then
        (s.modSupply fun _ => { cond := .recovering, count := 0 }).refresh .device
      else s)

/-- One millisecond of the supply monitor: in RECOVERING the recovery count is one up, to 100 (R141). -/
def Supply.count1 (x : Supply) : Supply :=
  if x.cond = .recovering then { x with count := min (x.count + 1) 100 } else x

/-- SUPPLY_RECOVERY: the recovery count has reached 100 (R141). -/
def execSupplyRecovery (s : State) : Host.Outcome State Fault Refusal :=
  go (if s.alive && s.supply.cond = .recovering && 100 ≤ s.supply.count then
        (((s.modSupply fun _ => { cond := .good, count := 0 }).attend .supply).handAll .recovery).refresh .device
      else s)

/-! ### A supply warning at each block -/

/-- The exchange unit (R171): what waits ends POWER. -/
def State.warnExchange (s : State) : State :=
  (s.modExch fun x => { x with warned := true }).endWaiting .power (s.sector.phase ≠ .idle) s.cred.enroll.isSome

/-- The guard (R14): every volume locked, open orders refused from now on. -/
def State.warnGuard (s : State) : State :=
  ((s.modGuard fun g => { g with warned := true }).lockSet allSet).reportVolumes

/-- The verification in progress is abandoned as a no-match (R35); one whose charge is still awaited is so when the charge is
reported, whether or not the supply has recovered by then (R52). -/
def State.abandonVerify (s : State) : State :=
  match s.cred.verify with
  | some v =>
    match v.phase with
    | .trying _ _ => s.noMatch v.domain
    | .charging => s.modCred fun c => { c with verify := some { v with abandoned := true } }
  | none => s

/-- The credential unit (R47), in the order in which that rule names its acts: the window closes, a verification is
abandoned, an enrollment ends POWER. That this is the order is deduced (log 50): the enrollment then finds no window to
re-arm (R37), and the window section is rewritten once. Whether the warning has closed the window is kept (R38). -/
def State.warnCredential (s : State) : State :=
  ((s.modCred fun c => { c with warned := true, shutByWarning := c.window.isSome }).shutWindow.abandonVerify).stopEnroll
    .power (.toIdle false)

/-- The keypad unit (R83): the queue emptied, the marker cleared, a partial entry discarded. -/
def State.warnKeypad (s : State) : State :=
  let t := s.dropKeys.modKeypad fun k => { k with warned := true }
  match t.keypad.asm with
  | .digits => t.asmIdle
  | .recoveryWait => t.asmIdle
  | .recoveryDigits => t.asmIdle
  | .idle => t
  | .enrollFirst => t
  | .enrollSecond => t
  | .verifying => t

/-- The link requests dropped, a grant not yet used taken back without a grant to another, and no probe due (R106). -/
def State.quietLink (s : State) (warned : Bool) : State :=
  let t := s.dropGrant.modLink fun l =>
    { l with
      warned := warned, sectorAsks := false, engineAsks := false, probeLeft := none
      state := if l.granted.isSome then .ready else l.state, granted := none }
  t.refresh .link

/-- The storage link controller (R106): nothing granted, L at 0, probing stopped. -/
def State.warnLink (s : State) : State := (s.quietLink true).modLink fun l => { l with losses := 0 }

/-- Nothing holds the block (R4, R29, R49, R110); the keypad unit takes an order when its turn among the key events has come
(R74, R83). -/
def State.unheld (s : State) : Block → Bool
  | .guard => s.guardFree
  | .credential => s.credFree
  | .lockout => s.lockoutFree
  | .engine => s.engineFree
  | .keypad => s.orderDue
  | .exchange => true
  | .sector => true
  | .link => true
  | .store => true

/-- The block can take a signal now: nothing holds it, and no order or event came before the signal (R4, R29, R49, R83,
R110, R137, R140). -/
def State.takes (s : State) (b : Block) : Bool := s.unheld b && s.signalFirst b

/-- What a block does when it takes the supply warning. -/
def State.warn (s : State) : Block → State
  | .exchange => s.warnExchange
  | .guard => s.warnGuard
  | .credential => s.warnCredential
  | .lockout => s
  | .keypad => s.warnKeypad
  | .sector => (s.modSector fun p => { p with warned := true }).stopSector .power
  | .link => s.warnLink
  | .engine => s.setHold s.erase.supplyHold fun e => { e with supplyHold := true }
  | .store => s.modStore fun x => { x with warned := true }

/-- WARNING_TAKEN: a block takes the supply warning handed to it (R140). -/
def execWarningTaken (b : Block) (s : State) : Host.Outcome State Fault Refusal :=
  go (if s.alive && s.takes b then
        match s.takeSignal b .warning with
        | some t => (t.warn b).settle
        | none => s
      else s)

/-! ### Its recovery -/

/-- The storage link controller takes requests again and probes again in FAULT (R106); the erase engine, answered with the
warning, asks again for what it still wants (log 12). With a probe still in flight at the recovery the probe timer is not
restarted then, but when that probe fails: R106 does not name the case, and this is the model's choice (log 69). -/
def State.recoverLink (s : State) : State :=
  let t := (s.modLink fun l =>
    { l with
      warned := false
      probeLeft := if l.state = .fault && s.device ≠ .halted && l.inFlight.isNone then some 1000 else l.probeLeft }).boundary
  if t.engineWants then t.engineAsk else t

/-- What a block does when it takes the recovery (R141). -/
def State.recover (s : State) : Block → State
  | .exchange =>
    let t := s.modExch fun x => { x with warned := false }
    if t.device = .starting then t else t.pendingScan
  | .guard => s.modGuard fun g => { g with warned := false }
  | .credential => s.modCred fun c => { c with warned := false }
  | .lockout => s
  | .keypad => s.modKeypad fun k => { k with warned := false }
  | .sector => s.modSector fun p => { p with warned := false }
  | .link => s.recoverLink
  | .engine => s.clearHold fun e => { e with supplyHold := false }
  | .store => s.modStore fun x => { x with warned := false }

/-- RECOVERY_TAKEN: a block takes the supply recovery handed to it (R141). -/
def execRecoveryTaken (b : Block) (s : State) : Host.Outcome State Fault Refusal :=
  go (if s.alive && s.takes b then
        match s.takeSignal b .recovery with
        | some t => (t.recover b).settle
        | none => s
      else s)

/-! ### The entry to HALTED -/

/-- The credential unit (R47): a verification and an enrollment end, the window closes. That the end of the hold and the close are
two rewrites of the window section is the model's choice (log 72). -/
def State.haltCredential (s : State) : State :=
  ((s.modCred fun c => { c with halted := true }).endVerify.stopEnroll .halted .leave).shutWindow

/-- The lockout unit: it takes no further charge and no further report (R63); a wait for an acceptance ends without a report
and nothing is reset (R58). -/
def State.haltLockout (s : State) : State :=
  let t := s.modLockout fun l => { l with halted := true }
  match t.lockout.wait with
  | .wipe _ => t.lockoutRelease
  | .charge _ => t
  | .free => t

/-- The keypad unit (R83): the queue emptied, the marker cleared, the assembler IDLE. -/
def State.haltKeypad (s : State) : State :=
  (s.modKeypad fun k => { k with halted := true }).dropKeys.asmIdle

/-- The erase engine (R132): its request withdrawn, its step stopped, a request it served ended HALTED. That an ABORT or an
end of an entry in progress stops so too, and the ABORT request ends HALTED, is deduced (log 57). -/
def State.haltEngine (s : State) : State :=
  let r := s.erase.job.request
  let t := (s.setJob .none).withdrawEngine
  match r with
  | some r => t.complete r .halted 0 []
  | none => t

/-- What a block does when it takes the entry to HALTED. -/
def State.halt (s : State) : Block → State
  | .exchange => s.endWaiting .halted (s.sector.phase ≠ .idle) s.cred.enroll.isSome
  | .guard => (s.lockSet allSet).reportVolumes
  | .credential => s.haltCredential
  | .lockout => s.haltLockout
  | .keypad => s.haltKeypad
  | .sector => s.stopSector .halted
  | .link => s.quietLink s.link.warned
  | .engine => s.haltEngine
  | .store => s

/-- A block that is held takes the entry to HALTED all the same: the engine in the midst of its step, and the lockout unit
while it waits for an acceptance whose report has not come (R58, R132). -/
def State.haltsHeld (s : State) : Block → Bool
  | .engine => !s.engineFree
  | .lockout =>
    match s.lockout.wait with
    | .wipe _ => s.lockout.waitEnd = some (.signal .halt)
    | .charge _ => false
    | .free => false
  | _ => false

/-- Takes the entry to HALTED at a block: in its turn, but a block that is held and takes it all the same takes it ahead of
what waits until it is free (R58, R132). -/
def State.takeHalt (s : State) (b : Block) : Option State :=
  if s.takes b then s.takeSignal b .halt
  else if s.haltsHeld b && (s.signalsAt b).contains .halt then some (s.dropSignal .halt b)
  else none

/-- HALT_ORDER: a block takes the entry of the device to HALTED (R148, R130). -/
def execHaltOrder (b : Block) (s : State) : Host.Outcome State Fault Refusal :=
  go (if s.alive then
        match s.takeHalt b with
        | some t => (t.halt b).settle
        | none => s
      else s)

/-! ### Temperature -/

/-- TEMPERATURE_SAMPLE (R134 to R138): no sample is taken while STARTING (R133). -/
def execTemperatureSample (sensor : Int) (s : State) : Host.Outcome State Fault Refusal :=
  go (if s.alive && s.device ≠ .starting then s.sample sensor else s.modTemp fun m => { m with sensor := sensor })

/-- The erase engine takes hot or critical (R125). -/
def State.engineHot (s : State) : State := s.setHold s.erase.thermalHold fun e => { e with thermalHold := true }

/-- HOT_SIGNAL: the erase engine takes the hot signal. The arbiter makes no decision of its own at the end of a signal's step (log
70). -/
def execHotSignal (s : State) : Host.Outcome State Fault Refusal :=
  go (if s.alive && s.takes .engine then
        match s.takeSignal .engine .hot with
        | some t => t.engineHot.settle
        | none => s
      else s)

/-- What a block does with the critical signal (R5, R8, R125, R137). -/
def State.critical (s : State) : Block → State
  | .engine => s.engineHot
  | .guard => ((s.modGuard fun g => { g with critical := true }).lockSet allSet).reportVolumes
  | _ => s

/-- CRITICAL_SIGNAL: the guard or the erase engine takes the critical signal. -/
def execCriticalSignal (b : Block) (s : State) : Host.Outcome State Fault Refusal :=
  go (if s.alive && s.takes b then
        match s.takeSignal b .critical with
        | some t => (t.critical b).settle
        | none => s
      else s)

/-- What a block does with the release signal (R125, R137). -/
def State.release (s : State) : Block → State
  | .engine => s.clearHold fun e => { e with thermalHold := false }
  | .guard => s.modGuard fun g => { g with critical := false }
  | _ => s

/-- RELEASE_SIGNAL: the guard or the erase engine takes the release signal. -/
def execReleaseSignal (b : Block) (s : State) : Host.Outcome State Fault Refusal :=
  go (if s.alive && s.takes b then
        match s.takeSignal b .release with
        | some t => (t.release b).settle
        | none => s
      else s)

end Sys2Proof.Machine
end

