-- ==== Sys2Proof/Machine/PortSteps.lean ====
section
/-! DEFINITION. The exchange port and the exchange unit's own requests (chapter 9): the meanings of PORT_WORD_WRITE, the
register writes, SCAN_TIMER_EXPIRY, IDENTIFY and CANCEL. -/

namespace Sys2Proof.Machine

/-! ### Port writes (R159, R161, R175) -/

/-- The four bytes of a word, least significant first. -/
def wordBytes (w : Word) : List Byte := leBytes 4 w.toNat

/-- A word written at an aligned address: discarded in the status page and from 3000H on; the owner byte of a held slot
stays as it is. -/
def State.writeWord (s : State) (a : Nat) (w : Word) : State :=
  if 0x3000 ≤ a ∨ (0x800 ≤ a ∧ a < 0x1000) then s
  else if a < 0x800 ∧ a % 0x40 = 0 ∧ s.exch.held.getLsbD (a / 0x40) then
    s.modExch fun x => { x with mem := writeBytes x.mem (a + 1) ((wordBytes w).drop 1) }
  else s.modExch fun x => { x with mem := writeBytes x.mem a (wordBytes w) }

/-- PORT_WORD_WRITE (R159 to R161): the two lowest address bits are ignored. -/
def execPortWordWrite (addr : BitVec 32) (value : Word) (s : State) : Host.Outcome State Fault Refusal :=
  go (if s.alive then s.writeWord (4 * (addr.toNat / 4)) value else s)

/-- ATTN_WRITE (R174): each flag whose bit is written 1 is cleared. -/
def execAttnWrite (value : Word) (s : State) : Host.Outcome State Fault Refusal :=
  go (if s.alive then s.modExch fun x => { x with attn := x.attn &&& ~~~(value.setWidth 8) } else s)

/-- ATTN_LVL_WRITE (R174, R175): bits 15 to 0 are stored. -/
def execAttnLvlWrite (value : Word) (s : State) : Host.Outcome State Fault Refusal :=
  go (if s.alive then s.modExch fun x => { x with level := value.setWidth 16 } else s)

/-- SCAN_WRITE (R162): a scan request whatever the value. -/
def execScanWrite (_value : Word) (s : State) : Host.Outcome State Fault Refusal :=
  go (if s.alive then s.scanRequest else s)

/-- The interval of a scan code in ms, none for code 0 (R163). -/
def scanInterval (c : BitVec 4) : Nat := [0, 1, 2, 5, 10, 20, 50].getD c.toNat 100

/-- SCAN_CFG_WRITE (R163): the code and CONTINUOUS stored, then RUN acted on. -/
def execScanCfgWrite (value : Word) (s : State) : Host.Outcome State Fault Refusal :=
  let code : BitVec 4 := value.setWidth 4
  let run := value.getLsbD 4 && code ≠ 0
  go (if s.alive then
        s.modExch fun x =>
          { x with
            scanCode := code, continuous := value.getLsbD 5, run := run, scanLeft := if run then scanInterval code else 0 }
      else s)

/-- REGISTER_WRITE_OTHER (R175): a write to IDENT or to a register from 5 to 7 is discarded. -/
def execRegisterWriteOther (_reg : BitVec 3) (_value : Word) (s : State) : Host.Outcome State Fault Refusal := go s

/-- SCAN_TIMER_EXPIRY (R163): the timer starts again or stops, and a scan is requested. -/
def execScanTimerExpiry (s : State) : Host.Outcome State Fault Refusal :=
  go (if s.alive && s.exch.run then
        (s.modExch fun x =>
          if x.continuous then { x with scanLeft := scanInterval x.scanCode } else { x with run := false, scanLeft := 0 }).scanRequest
      else s)

/-! ### Requests that the exchange unit serves (R169, R170) -/

/-- The control request at the head of its queue when it is of a kind. -/
def State.controlHead (s : State) (k : Kind) : Option Request :=
  match s.exch.controlQ with
  | r :: _ => if r.kind = k then some r else none
  | [] => none

/-- The results of IDENTIFY (R170, R177). -/
def State.identifyResults (s : State) : List Byte :=
  leBytes 2 0x0C47 ++ [0x46, 0x01] ++ leBytes 4 s.link.capacity.toNat ++ leBytes 2 s.link.ef.toNat ++
    leBytes 2 s.link.ed.toNat ++
    [BitVec.ofNat 8 (bit s.link.identified),
     BitVec.ofNat 8 (allVols.filter fun v => (s.vol v).data.state ≠ .absent).length,
     BitVec.ofNat 8 (allSlots.filter fun i => (s.cslot i).occupied).length, s.device.code]

/-- IDENTIFY (R170). -/
def execIdentify (s : State) : Host.Outcome State Fault Refusal :=
  go (if s.alive then
        match s.controlHead .identify with
        | some r => s.complete r .ok 0 s.identifyResults
        | none => s
      else s)

/-- What a CANCEL finds at its target (R169). -/
inductive Target where
  | posted
  | waiting (r : Request)
  | enrolling
  | other
  deriving DecidableEq, Repr

/-- The enrollment in progress has this request slot and has not queued its SLOT record. -/
def State.enrolling (s : State) (n : RSlot) : Bool :=
  s.cred.enroll.any fun e => e.req.slot = n && !e.committed

/-- The requests that a CANCEL can take away: behind the head of the sector queue, in the follower list, or in the enroll
queue and not begun (R169). -/
def State.cancellable (s : State) : List Request :=
  s.exch.sectorQ.tail ++ s.exch.followers ++ s.exch.enrollQ.filter fun r => !r.begun

/-- The target of a CANCEL (R169). -/
def State.target (s : State) (n : RSlot) : Target :=
  if s.posted n then .posted
  else if s.enrolling n then .enrolling
  else
    match s.cancellable.find? fun r => r.slot = n with
    | some r => .waiting r
    | none => .other

/-- The effect of a CANCEL on its target and the status it ends with; an enrollment ends at the credential unit. -/
def State.cancelTarget (s : State) (n : RSlot) : State × Status :=
  match s.target n with
  | .posted => ((s.setOwner n 3).finishNow n (s.slotOffset n) .cancelled, .ok)
  | .waiting r => ((s.complete r .cancelled 0 []).reloadFor r, .ok)
  | .enrolling => (s.stopEnroll .cancelled (.toIdle true), .ok)
  | .other => (s, .notCancellable)

/-- The CANCEL at the head of the control queue with its target: an enrollment is ended when the credential unit is free and
no event waits before it (R29, log 3). While it so waits it has not been begun, which is the model's choice (log 75). -/
def State.cancel (s : State) (r : Request) (n : RSlot) : State :=
  if s.enrolling n && !s.credReady then s
  else
    let t := s.cancelTarget n
    (t.1.complete r t.2 0 [s.slotByte n 0, s.slotByte n 1]).settle

/-- CANCEL (R169): the results give the owner and the kind found at the target. Before the end of an enrollment the ticks whose
turn it is are taken (R37). -/
def execCancel (s : State) : Host.Outcome State Fault Refusal :=
  go (if s.alive then
        match s.controlHead .cancel with
        | some r =>
          match rslotOfNumber (r.byte 4).toNat with
          | none => s.complete r .badParam 0 []
          | some n => (s.beforeQuery (s.enrolling n)).cancel r n
        | none => s
      else s)

end Sys2Proof.Machine
end

