-- ==== Sys2Proof/Machine/GuardSteps.lean ====
section
/-! DEFINITION. The orders of the volume guard and its requests (chapter 1): the meanings of OPEN_ORDER, FAULT_ORDER,
LOCK_ORDER, ERASE_ACCEPTANCE, ERASE_END, CAPACITY_REPORT, IDLE_TIMER_EXPIRY, LOCK, DEFINE_VOLUME, DELETE_VOLUME and
SET_POLICY. -/

namespace Sys2Proof.Machine

/-- Takes the order at the head of the guard's inbox if it is the one the step names and the guard is free (R4). -/
def State.takeOrder (s : State) (act : GuardOrder → Option (State → State)) : State :=
  if s.alive && s.guardFree then
    match s.guard.inbox with
    | [] => s
    | o :: _ =>
      match act o with
      | some g => (g s.popGuard).settle
      | none => s
  else s

/-! ### Orders -/

/-- OPEN_ORDER (R5, R6). -/
def execOpenOrder (s : State) : Host.Outcome State Fault Refusal :=
  go (s.takeOrder fun o =>
    match o with
    | .openVolume v key slot rw => some fun t => (t.openVolume v key slot rw).reportVolumes
    | _ => none)

/-- A fault order (R10): a volume that is LOCKED, OPEN or OPEN_RO goes to FAULT. -/
def State.faultOrder (s : State) (v : Vol) : State :=
  if (s.vol v).data.state = .locked || (s.vol v).isOpen then
    let t := (s.faultVolume v).reportVolumes
    t.guardCommit [t.volRec v] 1 .faulted
  else s

/-- FAULT_ORDER (R10). -/
def execFaultOrder (s : State) : Host.Outcome State Fault Refusal :=
  go (s.takeOrder fun o =>
    match o with
    | .fault v => some fun t => t.faultOrder v
    | _ => none)

/-- LOCK_ORDER (R7, R8): one order, one report. -/
def execLockOrder (s : State) : Host.Outcome State Fault Refusal :=
  go (s.takeOrder fun o =>
    match o with
    | .lock mask => some fun t => (t.lockSet mask).reportVolumes
    | _ => none)

/-- A FAULT volume whose extent is not clear is retired (R12). -/
def State.retire (s : State) (v : Vol) : State :=
  let t := (s.modVol v Volume.gone).reportVolumes
  t.guardCommit [t.volRec v] 1 (.retired v)

/-- A volume set to ERASING, an open one locked before (R12); the engine's entry and the VOLUME record are queued. -/
def State.startErasing (s : State) (v : Vol) : State :=
  let t := (((s.lockVolume v).modVol v fun x => x.shut .erasing).reportVolumes).enterVolume v
  (t.queueRec (t.volRec v) [.guard]).guardWaits (.commits 2 (.accepted v))

/-- An erase acceptance order (R12); in HALTED the acceptance has stopped (R132). -/
def State.eraseAcceptance (s : State) (v : Vol) : State :=
  if s.device = .halted then s
  else
    match (s.vol v).data.state with
    | .absent => s.volumeRetired v false
    | .erasing => s.volumeRetired v false
    | .fault => if s.extentClear v then s.startErasing v else s.retire v
    | .locked => s.startErasing v
    | .opened => s.startErasing v
    | .openRo => s.startErasing v
    | .blank => s.startErasing v

/-- ERASE_ACCEPTANCE (R12). -/
def execEraseAcceptance (s : State) : Host.Outcome State Fault Refusal :=
  go (s.takeOrder fun o =>
    match o with
    | .eraseAccept v => some fun t => t.eraseAcceptance v
    | _ => none)

/-- The record of a volume whose erasure has ended (R13). -/
def VolRec.ended (r : VolRec) (x : EraseResult) (n : Nat) : VolRec :=
  { r with state := .blank, lastResult := x, suspects := min n 65535 }

/-- An erase end order (R13): a volume that is not ERASING is left as it is. -/
def State.eraseEndOrder (s : State) (v : Vol) (x : EraseResult) (n : Nat) : State :=
  if (s.vol v).data.state = .erasing then
    let t := (s.modVol v fun y => { y with data := VolRec.ended y.data x n }).reportVolumes
    t.guardCommit [t.volRec v] 1 (.ended v)
  else s.volumeEnded v

/-- ERASE_END (R13). -/
def execEraseEnd (s : State) : Host.Outcome State Fault Refusal :=
  go (s.takeOrder fun o =>
    match o with
    | .eraseEnd v x n => some fun t => t.eraseEndOrder v x n
    | _ => none)

/-- The states that a capacity report examines (R11). -/
def VState.examined : VState → Bool
  | .locked => true
  | .opened => true
  | .openRo => true
  | .blank => true
  | .erasing => true
  | .absent => false
  | .fault => false

/-- One volume under a capacity report (R11). -/
def State.examineVolume (s : State) (cap : Nat) (v : Vol) : State :=
  if VState.examined (s.vol v).data.state && !fits (s.vol v).data cap then
    let t := if (s.vol v).data.state = .erasing then s.tellEngine (.extentLost v) else s
    let u := t.faultVolume v
    u.queueRec (u.volRec v) []
  else s

/-- The identity replaced, and the DEVICE record queued when its capacity differs (R101 steps 2 and 3). That a store which takes no
record leaves the identity held and not shown, and the link as it was, is deduced (log 66). -/
def State.takeIdentity (s : State) (cap : BitVec 32) (ef ed : BitVec 16) : State :=
  let t := s.modLink fun l => { l with capacity := cap, ef := ef, ed := ed, identified := true }
  if cap = t.store.device.capacity then t.identDone
  else
    let u := (t.modStore fun x => { x with device := { x.device with capacity := cap } }).modLink fun l =>
      { l with ident := if t.storeTakes then .commit else .none }
    u.queueRec (.device u.store.device) [.link]

/-- A capacity report (R11), and what the controller then does. -/
def State.capacityReport (s : State) (cap : BitVec 32) (ef ed : BitVec 16) : State :=
  let t := (allVols.foldl (fun t v => t.examineVolume cap.toNat v) s).reportVolumes
  if t.link.ident = .guard then t.takeIdentity cap ef ed else t

/-- CAPACITY_REPORT (R11, R101). -/
def execCapacityReport (s : State) : Host.Outcome State Fault Refusal :=
  go (s.takeOrder fun o =>
    match o with
    | .capacity cap ef ed => some fun t => t.capacityReport cap ef ed
    | _ => none)

/-- The idle timer of a volume has reached 0 (R9): the lock is an order like any other, which waits behind those that came
before it (R4, log 39). -/
def State.idleExpired (s : State) (v : Vol) : State :=
  if s.guardReady then (s.lockVolume v).reportVolumes.settle
  else (s.modVol v fun x => { x with idle := none }).tellGuard (.lock (single v))

/-- IDLE_TIMER_EXPIRY (R9): the running timer of a volume has reached 0. -/
def execIdleTimerExpiry (v : Vol) (s : State) : Host.Outcome State Fault Refusal :=
  go (if s.alive && (s.vol v).idle.isSome then s.idleExpired v else s)

/-! ### Requests -/

/-- The guard's request of a kind: HALTED and POWER first (R14), then what the request does. Where both stand it ends HALTED: R20
says so of DEFINE_VOLUME, and that LOCK and DELETE_VOLUME do the same is deduced (log 76; R19, R22). -/
def State.takeGuardRequest (s : State) (k : Kind) (serve : Request → State → State) : State :=
  s.takeOrder fun o =>
    match o with
    | .request r =>
      if r.kind = k then
        some fun t =>
          if t.device = .halted then t.complete r .halted 0 []
          else if t.guard.warned then t.complete r .power 0 []
          else serve r t
      else none
    | _ => none

/-- The order at the head of the guard's inbox is a request that will query the admin window. -/
def State.guardAsks (s : State) : Bool := s.device ≠ .halted && !s.guard.warned

/-- The LOCK request (R19). -/
def State.lockRequest (r : Request) (s : State) : State :=
  let mask := r.byte 4
  let locked := s.openIn mask
  let t := (s.lockSet mask).reportVolumes
  if (r.byte 5).getLsbD 0 then (t.tellCred (.windowClose true)).guardWaits (.windowClose r locked)
  else t.complete r .ok 0 [locked]

/-- LOCK (R19). -/
def execLock (s : State) : Host.Outcome State Fault Refusal := go (s.takeGuardRequest .lock State.lockRequest)

/-- The checks 4 to 6 of DEFINE_VOLUME (R20): the volume, or the status of the first that fails. -/
def State.defineCheck (s : State) (r : Request) : Except Status Vol :=
  let x := r.volRec
  match volOfIndex (r.byte 4).toNat with
  | none => .error .badParam
  | some v =>
    if (s.vol v).data.state ≠ .absent ∨ x.count = 0 then .error .badParam
    else if !fits x s.link.capacity.toNat then .error .range
    else if s.overlapsOther none x.first x.count then .error .overlap
    else .ok v

/-- DEFINE_VOLUME from its authorization on (R20, R21 steps 1 and 2). -/
def State.defineRequest (r : Request) (s : State) : State :=
  match s.authorize with
  | none => s.complete r .notAuthorized 0 []
  | some t =>
    match t.defineCheck r with
    | .error st => t.complete r st 0 []
    | .ok v =>
      let key := Config.randomKey t.draws
      (({ t with draws := t.draws + 1 } : State).tellCred (.wrapAdd v key)).guardWaits (.wrapAdd r v key)

/-- DEFINE_VOLUME (R20, R21). -/
def execDefineVolume (s : State) : Host.Outcome State Fault Refusal :=
  let t := s.beforeQuery s.guardAsks
  go (if t.guardAsks && !t.credReady then t else t.takeGuardRequest .defineVolume State.defineRequest)

/-- DELETE_VOLUME from its authorization on (R22). -/
def State.deleteRequest (r : Request) (s : State) : State :=
  match s.authorize with
  | none => s.complete r .notAuthorized 0 []
  | some t =>
    match volOfIndex (r.byte 4).toNat with
    | none => t.complete r .badParam 0 []
    | some v =>
      if (t.vol v).data.state = .blank && (t.eraseEntry v).isNone then
        (t.modVol v fun x => { x with data := { VolRec.absent with state := .blank } }).guardCommit
          [.volume v VolRec.absent] 1 (.delete r v)
      else t.complete r .notBlank 0 []

/-- DELETE_VOLUME (R22). -/
def execDeleteVolume (s : State) : Host.Outcome State Fault Refusal :=
  let t := s.beforeQuery s.guardAsks
  go (if t.guardAsks && !t.credReady then t else t.takeGuardRequest .deleteVolume State.deleteRequest)

/-- SET_POLICY from its authorization on (R158). -/
def State.policyRequest (s : State) (r : Request) : State :=
  match s.authorize with
  | none => s.complete r .notAuthorized 0 []
  | some t =>
    let u := t.modStore fun x => { x with policy := r.policy, setting := some r }
    if u.storeTakes then u.queueRec (.policy r.policy) [.store] else u.failed .store

/-- SET_POLICY (R158), served by the store. -/
def execSetPolicy (s : State) : Host.Outcome State Fault Refusal :=
  go (if s.alive then
        match s.store.settings with
        | none => s
        | some r =>
          let t := s.modStore fun x => { x with settings := none }
          if s.device = .halted then t.complete r .halted 0 []
          else if s.store.warned then t.complete r .power 0 []
          else
            let u := s.beforeQuery true
            if u.credReady then ((u.modStore fun x => { x with settings := none }).policyRequest r).settle else u
      else s)

end Sys2Proof.Machine
end

