-- ==== Sys2Proof/Machine/LockoutSteps.lean ====
section
/-! DEFINITION. The events of the lockout unit (chapter 3): the meanings of CHARGE, MATCH_REPORT, NO_MATCH_REPORT,
ACCEPTANCE_COMPLETE, LOCKOUT_TICK, LOCKOUT_END and FACTORY_ORDER. -/

namespace Sys2Proof.Machine

/-- Takes the event at the head of the lockout unit's inbox if it is the one the step names and the unit is free (R49). -/
def State.takeNextLock (s : State) (act : LockEvent → Option (State → State)) : State :=
  if s.lockoutFree then
    match s.lockout.inbox with
    | [] => s
    | e :: _ =>
      match act e with
      | some g => (g s.popLockout).settle
      | none => s
  else s

/-- Takes the ticks whose turn it is, and then the event that the step names (R49). -/
def State.takeLock (s : State) (act : LockEvent → Option (State → State)) : State :=
  if s.alive then s.takeTicks.takeNextLock act else s

/-- What the unit does with a charge or a report: once it has taken the entry to HALTED it takes none any more (R63,
log 54). -/
def State.unlessHalted (s : State) (g : State → State) : State := if s.lockout.halted then s else g s

/-- A charge (R51 steps 1 to 4); a store that takes no record fails it at once, and nothing is reported (R148, R52). -/
def State.charge (s : State) (d : Domain) : State :=
  let t := s.modDomain d fun x => x.charged (sampleInputs (s.store.policy.domain d))
  if t.storeTakes then (t.lockoutWaits (.charge d)).queueRec (t.domainRec d) [.lockout] else t

/-- CHARGE (R51, R52). -/
def execCharge (s : State) : Host.Outcome State Fault Refusal :=
  go (s.takeLock fun e =>
    match e with
    | .charge d => some fun t => t.unlessHalted fun u => u.charge d
    | _ => none)

/-- A match (R53). -/
def State.matchOutcome (s : State) (d : Domain) : State :=
  ((s.modDomain d DomainState.cleared).queueDomain d).refreshEntry d

/-- MATCH_REPORT (R53). -/
def execMatchReport (s : State) : Host.Outcome State Fault Refusal :=
  go (s.takeLock fun e =>
    match e with
    | .matched d => some fun t => t.unlessHalted fun u => u.matchOutcome d
    | _ => none)

/-- A no-match (R54): a wipe, a lockout, or nothing. -/
def State.noMatchOutcome (s : State) (d : Domain) : State :=
  let x := s.domain d
  if x.inputs.w ≠ 0 ∧ x.inputs.w ≤ x.f then s.bruteForce d
  else if x.inputs.a < x.f ∧ !x.lockedOut then (s.startLockout d).refreshEntry d
  else s

/-- NO_MATCH_REPORT (R54). -/
def execNoMatchReport (s : State) : Host.Outcome State Fault Refusal :=
  go (s.takeLock fun e =>
    match e with
    | .noMatch d => some fun t => t.unlessHalted fun u => u.noMatchOutcome d
    | _ => none)

/-- The acceptance that the unit waits for is complete (R58): the count is reset, and the examination of start-up, if it
is in progress, goes on. -/
def State.acceptanceDone (s : State) (d : Domain) : State :=
  let t := s.modLockout fun l => { l with inbox := l.inbox.erase .accepted }
  let u := (t.wipeDone d).lockoutRelease
  if u.startUp.examining = some d then
    (u.modStartUp fun x => { x with examining := none }).examineAfter d
  else (u.refreshEntry d).settle

/-- The report of the acceptance taken by the unit that waits for it, unless the entry to HALTED came before it (R58). -/
def State.takeAcceptance (s : State) (d : Domain) : State :=
  if s.lockout.waitEnd = some .accepted then s.acceptanceDone d else s

/-- ACCEPTANCE_COMPLETE (R58, R117): the report is taken by the unit that waits for it, out of the midst of what waits; one
that the entry to HALTED has overtaken is taken in its turn without effect. -/
def execAcceptanceComplete (s : State) : Host.Outcome State Fault Refusal :=
  go (match s.lockout.wait with
      | .wipe d => if s.alive then s.takeAcceptance d else s
      | _ => s.takeLock fun e => if e = .accepted then some id else none)

/-- LOCKOUT_TICK (R49, R57): a tick is an event like the others, taken at once unless the unit is held or an older event
waits. -/
def execLockoutTick (s : State) : Host.Outcome State Fault Refusal :=
  go (if s.alive then
        if s.lockoutFree then (s.tellLockout .tick).takeTicks else s.tellLockout .tick
      else s)

/-- LOCKOUT_END (R57): the tick at which the remaining time of a domain reaches 0 (log 5). It counts that domain alone: a lockout
of the other domain that runs at the same time loses no second by it, which is the model's choice (log 63). -/
def execLockoutEnd (d : Domain) (s : State) : Host.Outcome State Fault Refusal :=
  go (if s.alive && s.lockoutReady && !s.lockout.halted && (s.domain d).lockedOut && (s.domain d).left ≤ 1 then
        ((s.tickDomain d).refreshEntry d).settle
      else s)

/-- The factory order (R64), which acts after the entry to HALTED too: R63 stops charges and reports alone (log 31). That
NORMAL goes first, and its record before RECOVERY's, is the model's choice (log 55). -/
def State.factoryClear (s : State) : State :=
  let was := s.lockout.normal.lockedOut || s.lockout.recovery.lockedOut
  let t := ((s.modDomain .normal DomainState.cleared).modDomain .recovery DomainState.cleared)
  let u := (t.queueDomain .normal).queueDomain .recovery
  (if was then u.attend .lockout else u).refresh .domains

/-- FACTORY_ORDER (R64). -/
def execFactoryOrder (s : State) : Host.Outcome State Fault Refusal :=
  go (s.takeLock fun e =>
    match e with
    | .factory => some State.factoryClear
    | _ => none)

end Sys2Proof.Machine
end

