-- ==== Sys2Proof/Machine/CredentialSteps.lean ====
section
/-! DEFINITION. The events of the credential unit (chapter 2): the meanings of ENTRY_HANDED, CHARGE_COMMITTED,
DERIVATION_DONE, ENROLL, ENROLL_ENTRY, ENROLL_EARLY_END, REVOKE, WRAP_AND_ADD, REMOVAL, WINDOW_TICK, WINDOW_EXPIRY,
WINDOW_CLOSE and FACTORY_REVOCATION. -/

namespace Sys2Proof.Machine

/-- Takes the event at the head of the credential unit's inbox if it is the one the step names and the unit is free
(R29). -/
def State.takeNextCred (s : State) (act : CredEvent → Option (State → State)) : State :=
  if s.credFree then
    match s.cred.inbox with
    | [] => s
    | e :: _ =>
      match act e with
      | some g => (g s.popCred).settle
      | none => s
  else s

/-- Takes the ticks whose turn it is, and then the event that the step names (R29). -/
def State.takeCred (s : State) (act : CredEvent → Option (State → State)) : State :=
  if s.alive then s.takeWindowTicks.takeNextCred act else s

/-! ### Verification -/

/-- A handed entry (R30): its charge is asked for; it is void while an enrollment is in progress (R80), and once the unit has
taken the entry to HALTED (R35, R47). -/
def State.entryHanded (s : State) (digits : List Digit) (d : Domain) (cadence : Bool) : State :=
  if s.cred.halted || s.cred.enroll.isSome then s
  else
    (s.modCred fun c =>
      { c with verify := some { digits := digits, domain := d, cadence := cadence, phase := .charging } }).tellLockout (.charge d)

/-- ENTRY_HANDED (R30). -/
def execEntryHanded (s : State) : Host.Outcome State Fault Refusal :=
  go (s.takeCred fun e =>
    match e with
    | .entry digits d cadence => some fun t => t.entryHanded digits d cadence
    | _ => none)

/-- The charge is committed (R30): a CADENCE entry, one abandoned by a supply warning, or any entry under a warning (R35,
R52) is a no-match at once, another is searched for. -/
def State.chargeReported (s : State) : State :=
  match s.cred.verify with
  | some v => if v.cadence || v.abandoned || s.cred.warned then s.noMatch v.domain else s.searchFrom v 0
  | none => s

/-- CHARGE_COMMITTED (R30). -/
def execChargeCommitted (s : State) : Host.Outcome State Fault Refusal :=
  go (s.takeCred fun e =>
    match e with
    | .chargeCommitted => some State.chargeReported
    | _ => none)

/-- The derivation's verifier equals that of the slot, which has not been revoked since (R31). -/
def State.slotMatches (s : State) (out : BitVec 256) (i : CSlot) (revoked : Bool) : Bool :=
  !revoked && (s.cslot i).role.domain.isSome && verifierOf out = (s.cslot i).verifier

/-- A derivation of the search is done (R31 to R34). -/
def State.searchDone (s : State) (v : Verification) (i : CSlot) (revoked : Bool) (out : BitVec 256) : State :=
  if s.slotMatches out i revoked then
    if (s.cslot i).role = .wipe then s.wipeMatched v.domain i else s.matched v.domain i (kekOf out)
  else s.searchFrom v (i.val + 1)

/-- Every volume of a bind mask is open (R40, R42). -/
def State.allOpen (s : State) (m : VolSet) : Bool := allVols.all fun v => !inSet m v || (s.vol v).isOpen

/-- The new slot is built and its record queued (R42 step 3, R43). -/
def State.fillSlot (s : State) (e : Enrollment) (out : BitVec 256) : State :=
  if e.role.bindsByWraps && !s.allOpen e.bind then s.endEnroll .keyUnavailable [] (.outcome false)
  else
    let t := (s.setSlot e.slot (s.newSlot e (verifierOf out) (kekOf out))).credWaits .enroll
    let u := t.modCred fun c =>
      { c with enroll := some { e with stage := .slotCommit, kek := if e.firstAdmin then kekOf out else 0 } }
    if u.storeTakes then u.queueRec (u.slotRec e.slot) [.credential] else u.credFailed

/-- A derivation of an enrollment is done (R42). -/
def State.enrollDerived (s : State) (e : Enrollment) (out : BitVec 256) : State :=
  match e.stage with
  | .duplicate i revoked =>
    if s.slotMatches out i revoked then s.endEnroll .duplicate [] (.outcome false)
    else
      match e.role.domain with
      | some d => s.duplicateFrom e d (i.val + 1)
      | none => s
  | .final => s.fillSlot e out
  | .first => s
  | .second => s
  | .slotCommit => s
  | .deviceCommit => s

/-- The completion of the derivation in flight, for the work it was started for (R31, R42). -/
def State.derived (s : State) (x : Derivation) : State :=
  let out := Config.derive x.digits x.salt x.work
  let t := s.modCred Credential.noDerivation
  match t.cred.verify, t.cred.enroll with
  | some v, _ =>
    match v.phase with
    | .trying i revoked => t.searchDone v i revoked out
    | .charging => t
  | none, some e => t.enrollDerived e out
  | none, none => t

/-- The completion of the derivation comes: it is taken at once when the unit is free and no event waits, else it stands
behind those that wait (R29). -/
def State.derivationEnds (s : State) (x : Derivation) : State :=
  if s.credReady then (s.derived x).settle else s.tellCred .derived

/-- DERIVATION_DONE (R27, R29, R31, R42): a completion that waits is taken in its turn, after the ticks before it. -/
def execDerivationDone (s : State) : Host.Outcome State Fault Refusal :=
  go (if s.cred.inbox.contains .derived then
        s.takeCred fun e => if e = .derived then some fun t => (t.cred.deriv.map t.derived).getD t else none
      else
        let t := s.beforeQuery s.cred.deriv.isSome
        if t.alive then (t.cred.deriv.map t.derivationEnds).getD t else t)

/-! ### Enrollment -/

/-- The checks 4 to 7 of R40 and the enrollment they admit. -/
def State.enrollCheck (s : State) (r : Request) : Except Status Enrollment :=
  match slotOfNumber (r.byte 4).toNat, roleOfCode (r.byte 5) with
  | some i, some role =>
    if (s.cslot i).occupied then .error .slotInUse
    else if role = .recovery ∧ 2 ≤ (allSlots.filter fun j => (s.cslot j).role = .recovery).length then .error .badParam
    else if role.bindsByWraps && !s.allOpen (r.byte 7) then .error .keyUnavailable
    else
      .ok
        { req := { r with begun := true }, slot := i, role := role
          readOnly := role = .user && (r.byte 6).getLsbD 0, bind := r.byte 7, work := workOf (r.byte 8)
          firstAdmin := s.device = .unprovisioned }
  | _, _ => .error .badParam

/-- The authorization of an ENROLL (R39, R40 check 3). -/
def State.enrollAuthorized (s : State) (r : Request) : Bool :=
  if s.device = .unprovisioned then roleOfCode (r.byte 5) = some .admin && r.byte 7 = 0 else s.cred.window.isSome

/-- An ENROLL begun from the head of the enroll queue (R40, R41): the window held, the keypad ordered into ENROLL_FIRST. The
restart of the timer at check 3 and the hold are one rewrite of the section, which is the model's choice (log 72). -/
def State.beginEnroll (s : State) (r : Request) : State :=
  if s.device = .halted then s.complete r .halted 0 []
  else if s.cred.warned then s.complete r .power 0 []
  else if !s.enrollAuthorized r then s.complete r .notAuthorized 0 []
  else
    match s.enrollCheck r with
    | .error st => (s.rearmWindow id).complete r st 0 []
    | .ok e =>
      let t := (s.rearmWindow fun _ => true).modCred fun c => { c with enroll := some e }
      (t.modExch fun x =>
        { x with enrollQ := x.enrollQ.map fun y => if y.slot = r.slot then { y with begun := true } else y }).tellKeypad .enroll

/-- ENROLL (R40): begun when no verification is in progress and nothing waits before it (R29). Its beginning has no place among
the events that wait: it comes when they have all been taken, those too that came after it reached the head of the enroll
queue, which is the model's choice (log 56). -/
def execEnroll (s : State) : Host.Outcome State Fault Refusal :=
  let t := s.beforeQuery true
  go (if t.alive && t.credReady && t.cred.verify.isNone && t.cred.enroll.isNone then
        match t.exch.enrollQ with
        | r :: _ => (t.beginEnroll r).settle
        | [] => t
      else t)

/-- The second entry (R41 steps 3 and 4): MISMATCH, BAD_LENGTH, or the duplicate search. -/
def State.secondEntry (s : State) (e : Enrollment) (digits : List Digit) : State :=
  if digits ≠ e.pin then s.endEnroll .mismatch [] (.outcome false)
  else if !lengthAllowed e.role (keySettings s.store.policy).minPin digits.length then
    s.endEnroll .badLength [] (.outcome false)
  else
    match e.role.domain with
    | some d => s.duplicateFrom e d 0
    | none => s

/-- An entry of an enrollment stage (R41). It carries no request: with no enrollment in progress it is dropped, and one that a
keypad still in the stage of an ended enrollment has sent is taken for the next ENROLL if that has begun, which is the model's
choice (log 62). -/
def State.enrollEntry (s : State) (digits : List Digit) : State :=
  match s.cred.enroll with
  | none => s
  | some e =>
    match e.stage with
    | .first => s.modCred fun c => { c with enroll := some { e with pin := digits, stage := .second } }
    | .second => s.secondEntry e digits
    | .duplicate _ _ => s
    | .final => s
    | .slotCommit => s
    | .deviceCommit => s

/-- ENROLL_ENTRY (R41). -/
def execEnrollEntry (s : State) : Host.Outcome State Fault Refusal :=
  go (s.takeCred fun e =>
    match e with
    | .enrollEntry digits => some fun t => t.enrollEntry digits
    | _ => none)

/-- The status of an early end that the keypad unit reports (R44). -/
def EarlyEnd.status : EarlyEnd → Status
  | .keypadAbort => .keypadAbort
  | .chord => .keypadAbort
  | .timeout => .timeout

/-- ENROLL_EARLY_END (R44): the keypad assembler is in IDLE already. An abort, a chord or a timeout of a stage whose enrollment has
ended is dropped, or taken for the next ENROLL if that has begun, which is the model's choice (log 62). -/
def execEnrollEarlyEnd (s : State) : Host.Outcome State Fault Refusal :=
  go (s.takeCred fun e =>
    match e with
    | .enrollEnd why => some fun t => t.stopEnroll why.status .leave
    | _ => none)

/-! ### REVOKE -/

/-- Another ADMIN slot is occupied (R45). -/
def State.otherAdmin (s : State) (i : CSlot) : Bool := allSlots.any fun j => j ≠ i && (s.cslot j).role = .admin

/-- A REVOKE from its authorization on (R45). -/
def State.revokeRequest (s : State) (r : Request) : State :=
  match s.authorize with
  | none => s.complete r .notAuthorized 0 []
  | some t =>
    match slotOfNumber (r.byte 4).toNat with
    | none => t.complete r .badParam 0 []
    | some i =>
      let c := t.cslot i
      if !c.occupied then t.complete r .badParam 0 []
      else if c.role = .admin && !t.otherAdmin i then t.complete r .lastAdmin 0 []
      else
        let u := (t.emptySlot i).credWaits (.revoke r c.role i)
        if u.storeTakes then u.queueRec (u.slotRec i) [.credential] else u.credFailed

/-- REVOKE (R45). -/
def execRevoke (s : State) : Host.Outcome State Fault Refusal :=
  go (s.takeCred fun e =>
    match e with
    | .revoke r =>
      some fun t =>
        if t.device = .halted then t.complete r .halted 0 []
        else if t.cred.warned then t.complete r .power 0 []
        else t.revokeRequest r
    | _ => none)

/-! ### Orders of the guard and the erase engine (R26) -/

/-- The key wrapped under the admin key register into the slot that holds the window (R26). -/
def State.addWrap (s : State) (slot : CSlot) (v : Vol) (key : MediaKey) : State :=
  let c := s.cslot slot
  s.setSlot slot { c with wraps := insertWrap (wrapEntry s.cred.adminKey v key) c.wraps, bind := c.bind ||| single v }

/-- A wrap-and-add order (R21, R26, R38): the SLOT record and then the VOLUME record are queued, or the DEFINE_VOLUME ends
with no change. -/
def State.wrapAndAdd (s : State) (v : Vol) (key : MediaKey) : State :=
  match s.guard.wait with
  | .wrapAdd r _ _ =>
    match s.cred.window with
    | none =>
      (s.guardWaits .free).complete r (if s.cred.warned && s.cred.shutByWarning then .power else .notAuthorized) 0 []
    | some w =>
      let t := s.addWrap w.slot v key
      t.guardCommit [t.slotRec w.slot, .volume v r.volRec] 2 (.define r v key w.slot)
  | _ => s

/-- WRAP_AND_ADD (R21, R26). -/
def execWrapAndAdd (s : State) : Host.Outcome State Fault Refusal :=
  go (s.takeCred fun e =>
    match e with
    | .wrapAdd v key => some fun t => t.wrapAndAdd v key
    | _ => none)

/-- A removal order (R26): an enrollment that binds the volume ends; done at once when no slot names it. A store that takes no
record reports nothing, and the unit waits for nothing (log 31). -/
def State.removal (s : State) (v : Vol) : State :=
  let n := (s.slotsNaming v).length
  let t := (s.removalEndsEnroll v).removeWraps v [.credential]
  if n = 0 then t.removalDone else if t.storeTakes then t.credWaits (.removal n) else t

/-- REMOVAL (R26). -/
def execRemoval (s : State) : Host.Outcome State Fault Refusal :=
  go (s.takeCred fun e =>
    match e with
    | .removal v => some fun t => t.removal v
    | _ => none)

/-! ### The window (R37, R38) -/

/-- WINDOW_TICK (R29, R37): a tick is an event like the others, taken at once unless the unit is held or an older event
waits. -/
def execWindowTick (s : State) : Host.Outcome State Fault Refusal :=
  go (if s.alive then
        if s.credFree then (s.tellCred .tick).takeWindowTicks else s.tellCred .tick
      else s)

/-- WINDOW_EXPIRY (R37, R38): the tick at which the remaining time reaches 0. -/
def execWindowExpiry (s : State) : Host.Outcome State Fault Refusal :=
  go (if s.alive && s.credReady && s.cred.window.any fun w => !w.held && w.left ≤ 1 then s.closeWindow.settle else s)

/-- A LOCK that waits for the window's closing ends OK (R19). -/
def State.lockClosed (s : State) : State :=
  match s.guard.wait with
  | .windowClose r locked => (s.guardWaits .free).complete r .ok 0 [locked]
  | _ => s

/-- WINDOW_CLOSE (R38): a close cause from the keypad unit or the guard. -/
def execWindowClose (s : State) : Host.Outcome State Fault Refusal :=
  go (s.takeCred fun e =>
    match e with
    | .windowClose forLock => some fun t => if forLock then t.closeWindow.lockClosed else t.closeWindow
    | _ => none)

/-! ### The factory revocation (R46) -/

/-- Every slot made EMPTY, each changed record queued in ascending order (R46 step 3). -/
def State.emptySlots (s : State) : List CSlot → State
  | [] => s
  | i :: t =>
    if (s.cslot i).occupied then
      let u := s.emptySlot i
      (u.queueRec (u.slotRec i) [.credential]).emptySlots t
    else s.emptySlots t

/-- The factory order (R46). A store that takes no record answers nothing, and the unit waits for nothing (log 31). That the
enrollment it ends gives no flash, as one that the chord ends, is deduced (log 65); that the end of its hold and the close are two
rewrites of the window section is the model's choice (log 72). -/
def State.factoryRevoke (s : State) : State :=
  let n := (allSlots.filter fun i => (s.cslot i).occupied).length
  let t := ((s.stopEnroll .keypadAbort (.toIdle false)).shutWindow).emptySlots allSlots
  let u := t.modStore fun x => { x with device := { x.device with provisioned := false } }
  if u.storeTakes then (u.credWaits (.factory (n + 1))).queueRec (.device u.store.device) [.credential] else u

/-- FACTORY_REVOCATION (R46). -/
def execFactoryRevocation (s : State) : Host.Outcome State Fault Refusal :=
  go (s.takeCred fun e =>
    match e with
    | .factory => some State.factoryRevoke
    | _ => none)

end Sys2Proof.Machine
end

