-- ==== Sys2Proof/Machine/LinkSteps.lean ====
section
/-! DEFINITION. The sector path and the storage link (chapter 5): the meanings of READ_SECTORS, WRITE_SECTORS, SECTOR_GRANT,
LINK_REPLY, LINK_TIMEOUT, LINK_REISSUE and PROBE. -/

namespace Sys2Proof.Machine

/-! ### Beginning a request (R88) -/

/-- The active request as the guard decision leaves it (R15, R87). -/
def State.activate (s : State) (r : Request) (v : Vol) : State :=
  let rel := r.field 8 4
  s.modSector fun p =>
    { p with
      phase := .waitingGrant, vol := v, absFirst := (s.vol v).data.first + rel, relFirst := rel, count := r.field 6 2
      firstBuf := (r.byte 5).toNat % 16, k := 0, done := 0, errorSector := none, ended := none }

/-- The guard decision applied (R15, R88): refused, or the idle timer reloaded and the link asked for. -/
def State.applyDecision (s : State) (r : Request) : State :=
  match s.guardDecision r with
  | some st => s.endSector st
  | none =>
    match volOfIndex (r.byte 4).toNat with
    | some v => ((s.reloadIdle v).activate r v).askSector
    | none => s

/-- The sector path enters DECIDING for a request (R88). -/
def State.enterDeciding (s : State) (r : Request) : State :=
  s.modSector fun p => { p with phase := .deciding, slot := r.slot, write := r.kind = .writeSectors }

/-- The guard decision, in its turn at the guard (R4): at once when the guard is free, else when its order comes up; at once
too for the volume that a DEFINE_VOLUME is defining (R21, log 40). -/
def State.decideSector (s : State) (r : Request) : State :=
  match s.sector.phase with
  | .idle =>
    if s.sector.warned || s.device = .halted || s.device = .starting then s
    else
      let t := s.enterDeciding r
      if t.guardReady || t.definesFor r then (t.applyDecision r).settle else t.tellGuard .sectorDecision
  | .deciding =>
    if s.guardFree && s.guard.inbox.head? = some .sectorDecision then (s.popGuard.applyDecision r).settle
    else if s.definesFor r then (s.applyDecision r).settle
    else s
  | .waitingGrant => s
  | .checking => s
  | .inFlight => s
  | .ending => s

/-- A sector request of a kind at the head of its queue is begun, or goes on to its decision. -/
def State.beginSector (s : State) (k : Kind) : State :=
  if s.alive then
    match s.sectorHead with
    | some r => if r.kind = k then s.decideSector r else s
    | none => s
  else s

/-- READ_SECTORS (R88, R90). -/
def execReadSectors (s : State) : Host.Outcome State Fault Refusal := go (s.beginSector .readSectors)

/-- WRITE_SECTORS (R88, R89). -/
def execWriteSectors (s : State) : Host.Outcome State Fault Refusal := go (s.beginSector .writeSectors)

/-! ### A grant to the sector path (R16, R89, R90) -/

/-- The sector that a WRITE sends: the buffer under the sector transform (R89 step 2, R95). -/
def State.sectorData (s : State) : Sector :=
  Config.sectorTransform (s.vol s.sector.vol).key (BitVec.ofNat 32 (s.sector.absFirst + s.sector.k))
    (sectorOfBytes (readBytes s.exch.mem (bufAddr (s.sector.firstBuf + s.sector.k)) 512))

/-- The link command of the sector in turn. -/
def SectorPath.command (p : SectorPath) : InFlight :=
  { cmd := if p.write then .write else .read, first := p.absFirst + p.k, count := 1, owner := .sector, left := sectorTimeout }

/-- The link command of the sector in turn, with the sector that a WRITE sends. -/
def State.sectorCommand (s : State) : InFlight :=
  { s.sector.command with data := if s.sector.write then [s.sectorData] else [] }

/-- The command of sector k issued (R89 steps 2 and 3, R90 step 2): a WRITE is staged transformed. -/
def State.issueSector (s : State) : State :=
  let t := if s.sector.write then s.modLink fun l => { l with staging := s.sectorData } else s
  (t.modSector fun p => { p with phase := .inFlight }).issue s.sectorCommand

/-- The per-sector check (R16): the command is issued, or the request ends LOCKED_DURING. A request whose grant a warning or
HALTED took back at the link while its check waited goes on by asking for the link again (R102, R106, log 12). -/
def State.checkSector (s : State) : State :=
  if (s.vol s.sector.vol).isOpen && (s.vol s.sector.vol).keyHeld then
    if s.link.granted = some .sector then s.issueSector else s.askSector
  else s.endSector .lockedDuring

/-- The per-sector check in its turn at the guard (R4, R16). -/
def State.sectorGranted (s : State) : State :=
  match s.sector.phase with
  | .waitingGrant =>
    if s.guardReady then s.checkSector
    else (s.modSector fun p => { p with phase := .checking }).tellGuard .sectorCheck
  | .checking => if s.guardFree && s.guard.inbox.head? = some .sectorCheck then s.popGuard.checkSector else s
  | .idle => s
  | .deciding => s
  | .inFlight => s
  | .ending => s

/-- SECTOR_GRANT (R89): the grant taken, and the check for it that waits at the guard, which has its turn there whether the
grant still stands or not (R4, R16). -/
def execSectorGrant (s : State) : Host.Outcome State Fault Refusal :=
  go (if s.alive && (s.link.granted = some .sector || s.sector.phase = .checking) then s.sectorGranted.settle else s)

/-! ### Replies and failures (R96 to R98) -/

/-- One more malformed reply, the section not yet rewritten. -/
def State.countMalformed (s : State) : State := s.modLink fun l => { l with malformed := satInc16 l.malformed }

/-- One more MEDIA_ERROR reply when the reply is one. -/
def State.countMedia (s : State) (r : Reply) : State :=
  match r with
  | .mediaError _ => s.modLink fun l => { l with mediaErrors := satInc16 l.mediaErrors }
  | _ => s

/-- A good IDENT: the guard is given the capacity report (R101 step 1). -/
def State.identReply (s : State) : Reply → State
  | .ident cap ef ed =>
    (s.modLink fun l => { l with inFlight := none, ident := .guard }).tellGuard (.capacity cap ef ed)
  | _ => s

/-- A well formed reply goes to its requester, and the link returns to READY (R96, R99), in HALTED too: that R106 does not
freeze the link section there is deduced (log 51). -/
def State.takeReply (s : State) (f : InFlight) (t : Nat) (r : Reply) : State :=
  match f.owner with
  | .controller => s.identReply r
  | .sector => ((s.countMedia r).linkReady).sectorReply r
  | .engine => ((s.countMedia r).linkReady).stripeReplied (stripeOutcome f t r)

/-- LINK_REPLY (R96): a stray frame is counted, a malformed one is counted and fails the command (R98). A frame during the
link reset is not taken. -/
def execLinkReply (frame : Frame) (t : Nat) (s : State) : Host.Outcome State Fault Refusal :=
  go (if s.alive then
        match s.link.inFlight with
        | none => s.countMalformed.refresh .link
        | some f =>
          if f.resetting then s
          else if frameFits f frame then (s.takeReply f t frame.reply).settle
          else (s.countMalformed.commandFails f).settle
      else s)

/-- LINK_TIMEOUT (R97, R98). -/
def execLinkTimeout (s : State) : Host.Outcome State Fault Refusal :=
  go (if s.alive then
        match s.link.inFlight with
        | some f =>
          if f.resetting then s
          else ((s.modLink fun l => { l with timeouts := satInc16 l.timeouts }).commandFails f).settle
        | none => s
      else s)

/-- The timeout of a command (R97). -/
def InFlight.timeout (f : InFlight) : Nat :=
  match f.owner with
  | .engine => stripeTimeout f.expect
  | .sector => sectorTimeout
  | .controller => sectorTimeout

/-- The link reset is complete (R98): the command is reissued, or given up when it is no longer wanted. -/
def State.reissue (s : State) (f : InFlight) : State :=
  if f.withdrawn || !s.linkServes then s.giveUp f
  else s.modLink fun l => { l with inFlight := some { f with resetting := false, left := f.timeout } }

/-- LINK_REISSUE (R98). -/
def execLinkReissue (s : State) : Host.Outcome State Fault Refusal :=
  go (if s.alive then
        match s.link.inFlight with
        | some f => if f.resetting then (s.reissue f).settle else s
        | none => s
      else s)

/-- PROBE (R100): in FAULT, at the expiry of the probe timer, IDENT is issued; the state shown stays FAULT. -/
def execProbe (s : State) : Host.Outcome State Fault Refusal :=
  go (if s.alive && s.link.state = .fault && s.link.probeLeft.isSome && s.link.inFlight.isNone && s.link.ident = .none &&
        s.linkServes then
        s.modLink fun l => { l with inFlight := some (identCommand true), probeLeft := none }
      else s)

end Sys2Proof.Machine
end

