-- ==== Sys2Proof/Machine/EraseSteps.lean ====
section
/-! DEFINITION. The events of the erase engine (chapter 6): the meanings of ERASE, PAUSE, RESUME, ABORT, STRIPE_GRANT,
STRIPE_REPLY, WIPE_TRIGGER, FACTORY_CHORD, LINK_FAULT_REPORT, LINK_RETURN and EXTENT_LOST. -/

namespace Sys2Proof.Machine

/-! ### Requests (R115, R123, R124) -/

/-- The first checks of ERASE and ERASE_CONTROL, then what the request does once authorized. -/
def State.serveErase (s : State) (r : Request) (serve : State → State) : State :=
  if s.device = .halted then s.complete r .halted 0 []
  else if s.erase.supplyHold then s.complete r .power 0 []
  else
    match s.authorize with
    | none => s.complete r .notAuthorized 0 []
    | some t => serve t

/-- The engine's request at the head of its inbox will query the admin window. -/
def State.engineWillQuery (s : State) : Bool := s.device ≠ .halted && !s.erase.supplyHold

/-- ERASE from its authorization on (R115). -/
def State.eraseRequest (s : State) (r : Request) : State :=
  let mask := r.byte 4
  match planOfCode (r.byte 5).toNat with
  | none => s.complete r .badParam 0 []
  | some plan =>
    if mask = 0 || allVols.any fun v => inSet mask v && (s.vol v).data.state = .absent then s.complete r .badParam 0 []
    else s.accept (.request r) false plan (allVols.filter fun v => inSet mask v)

/-- ERASE (R115). -/
def execErase (s : State) : Host.Outcome State Fault Refusal :=
  let t := s.beforeQuery s.engineWillQuery
  go (if t.engineWillQuery && !t.credReady then t
      else t.takeEvent fun e =>
        match e with
        | .request r => if r.kind = .erase then some fun t => t.serveErase r fun u => u.eraseRequest r else none
        | _ => none)

/-- The results of ERASE_CONTROL (R177): the engine state after the action and the number of entries removed. -/
def State.controlResults (s : State) (n : Nat) : List Byte := [s.erase.state.code, BitVec.ofNat 8 n]

/-- PAUSE from its authorization on (R123); an action that is none of the three ends BAD_PARAM. The checkpoint is queued also
when the engine is paused or held already (log 49). -/
def State.pauseRequest (s : State) (r : Request) : State :=
  if (r.byte 4).toNat ≠ 1 then s.complete r .badParam 0 []
  else
    match s.eraseHead with
    | none => s.complete r .ok 0 (s.controlResults 0)
    | some e =>
      if e.wipe then s.complete r .wipeActive 0 (s.controlResults 0)
      else
        let t := (s.modErase fun x => { x with pause := true }).engineStops
        t.complete r .ok 0 (t.controlResults 0)

/-- RESUME from its authorization on (R123). -/
def State.resumeRequest (s : State) (r : Request) : State :=
  let t := (s.modErase fun x => { x with pause := false }).refresh .erase
  (t.complete r .ok 0 (t.controlResults 0)).engineRun

/-- A stripe command of the engine is no longer wanted: it is not reissued (R98, R124). -/
def State.withdrawCommand (s : State) : State :=
  s.modLink fun l =>
    { l with inFlight := l.inFlight.map fun f => if f.owner = .engine then { f with withdrawn := true } else f }

/-- ABORT from its authorization on (R124). With no REQUEST entry nothing is removed: no list is committed, and the ERASE flag
is set as at the end of every ABORT (R131, log 48). -/
def State.abortRequest (s : State) (r : Request) : State :=
  if (ofOrigin false s.erase.list).isEmpty then (s.attend .erase).complete r .ok 0 (s.controlResults 0)
  else if s.eraseHead.any fun e => !e.wipe then
    let t := s.withdrawEngine
    if t.erase.flying.isSome then t.withdrawCommand.setJob (.abortReply r)
    else (t.modErase fun e => { e with pace := false }).abortEntries r
  else s.abortEntries r

/-- Takes an ERASE_CONTROL request whose action byte is one that the step serves. -/
def State.takeControl (s : State) (mine : Nat → Bool) (serve : State → Request → State) : State :=
  let t := s.beforeQuery s.engineWillQuery
  if t.engineWillQuery && !t.credReady then t
  else t.takeEvent fun e =>
    match e with
    | .request r =>
      if r.kind = .eraseControl && mine (r.byte 4).toNat then some fun t => t.serveErase r fun u => serve u r else none
    | _ => none

/-- PAUSE (R123): it also takes a request whose action byte is none of the three (log 20). -/
def execPause (s : State) : Host.Outcome State Fault Refusal :=
  go (s.takeControl (fun a => a ≠ 2 && a ≠ 3) State.pauseRequest)

/-- RESUME (R123). -/
def execResume (s : State) : Host.Outcome State Fault Refusal := go (s.takeControl (fun a => a = 2) State.resumeRequest)

/-- ABORT (R124). -/
def execAbort (s : State) : Host.Outcome State Fault Refusal := go (s.takeControl (fun a => a = 3) State.abortRequest)

/-! ### Running (R118, R119) -/

/-- The link command of a pass; KEY has none. -/
def Pass.command : Pass → Option LinkCmd
  | .key => none
  | .fill => some .write
  | .verify => some .read
  | .discard => some .discard

/-- The expected time of a pass's command, from the identity held (R97, R120). -/
def State.expectOf (s : State) (p : Pass) : Nat :=
  match p with
  | .discard => s.link.ed.toNat
  | .fill => s.link.ef.toNat
  | .verify => s.link.ef.toNat
  | .key => 0

/-- The command of the stripe at an entry's cursor (R107, R119); FILL sends zero bytes. -/
def State.stripeCommand (s : State) (e : EraseEntry) (p : Pass) (c : LinkCmd) : InFlight :=
  { cmd := c, first := (s.vol e.vol).data.first + 256 * e.nextStripe
    count := stripeLength (s.vol e.vol).data.count e.nextStripe, owner := .engine
    data := if c = .write then List.replicate (stripeLength (s.vol e.vol).data.count e.nextStripe) 0 else []
    expect := s.expectOf p
    left := stripeTimeout (s.expectOf p) }

/-- The stripe at the cursor issued and its pass marked begun (R118); a grant that is of no use is handed back. -/
def State.stripeGranted (s : State) : State :=
  match s.eraseHead with
  | none => s.handBack .engine
  | some e =>
    match e.pass with
    | none => s.handBack .engine
    | some p =>
      match p.command with
      | none => s.handBack .engine
      | some c =>
        if s.engineRuns then
          let t := (s.modEntry e.vol fun x => { x with begun := true }).modErase fun x => { x with flying := some e.vol }
          (t.issue (s.stripeCommand e p c)).refresh .erase
        else s.handBack .engine

/-- STRIPE_GRANT (R118, R119): the grant is taken in its turn among the engine's events (R110). -/
def execStripeGrant (s : State) : Host.Outcome State Fault Refusal :=
  go (s.takeEvent fun e =>
    match e with
    | .grant => some fun t => if t.link.granted = some .engine then t.stripeGranted else t
    | _ => none)

/-- An event is the reply of a stripe command. -/
def EngineEvent.isReply : EngineEvent → Bool
  | .reply _ => true
  | _ => false

/-- The engine waits for the reply of the command in flight (R114, R124). -/
def Erase.awaitsReply (e : Erase) : Bool :=
  match e.job with
  | .accept a => a.stage = .reply
  | .abortReply _ => true
  | _ => false

/-- The reply taken while the engine waits for it: the first in its inbox. It is applied, the checkpoint that a pause or a hold
left until then is queued (R125, R126), and the section shows what changed (R131); in HALTED the section keeps its values, no
record is queued, and what waited for the reply goes no further (R132). -/
def State.awaitedReply (s : State) : State :=
  match s.erase.inbox.find? EngineEvent.isReply, s.erase.flying with
  | some (.reply o), some v =>
    let t := s.modErase fun e => { e with inbox := e.inbox.eraseP EngineEvent.isReply }
    let u := t.applyReply v false o
    ((if u.device = .halted then u else (u.dueCheckpoint v).refresh .erase).replyTaken v).boundary.settle
  | _, _ => s

/-- The reply taken in its turn (R118 to R121): the checkpoint that waited for it, the section, and the run goes on. What counts for
a pace reissue is whether the engine is RUNNING when it takes the reply, which is the model's choice where it left RUNNING while
the command ran (log 81; R110, R120). -/
def State.stripeReply (s : State) (o : StripeOutcome) : State :=
  match s.erase.flying with
  | none => s
  | some v =>
    if s.device = .halted then s.applyReply v false o
    else (((s.applyReply v (s.erase.state = .running) o).dueCheckpoint v).refresh .erase).engineRun

/-- STRIPE_REPLY (R119 to R121). -/
def execStripeReply (s : State) : Host.Outcome State Fault Refusal :=
  go (if s.erase.awaitsReply then (if s.alive then s.awaitedReply else s)
      else s.takeEvent fun e =>
        match e with
        | .reply o => some fun t => t.stripeReply o
        | _ => none)

/-! ### Triggers (R111, R116) -/

/-- WIPE_TRIGGER (R111): of a WIPE slot or of the brute-force threshold; discarded in HALTED (R117). -/
def execWipeTrigger (s : State) : Host.Outcome State Fault Refusal :=
  go (s.takeEvent fun e =>
    match e with
    | .wipe mask =>
      some fun t =>
        if t.device = .halted then t else t.accept .wipeSlot true t.wipePlan (allVols.filter fun v => inSet mask v)
    | .brute => some fun t => if t.device = .halted then t else t.accept .brute true t.wipePlan allVols
    | _ => none)

/-- FACTORY_CHORD (R116): the factory orders first, then the wipe. -/
def execFactoryChord (s : State) : Host.Outcome State Fault Refusal :=
  go (s.takeEvent fun e =>
    match e with
    | .chord =>
      some fun t =>
        if t.device = .halted then t
        else ((t.tellCred .factory).tellLockout .factory).accept .chord true t.wipePlan allVols
    | _ => none)

/-! ### Reports (R122, R129) -/

/-- The link has entered FAULT (R122): the hold is set, the stripe in flight stays at the cursor, a pending request is
withdrawn, the checkpoint is queued. In HALTED no checkpoint is, and the section keeps what it showed (R132, log 67). -/
def State.linkFaulted (s : State) : State :=
  let t := (s.modErase fun e => { e with linkHold := true, flying := none, pace := false, due := false }).withdrawEngine
  if t.device = .halted then t else t.checkpointHead.refresh .erase

/-- The FAULT report taken by an engine that waits for the reply of the failed command; a reply that came before it is taken
first. -/
def State.awaitedFault (s : State) : State :=
  if s.erase.inbox.contains .linkFault && !s.erase.inbox.any EngineEvent.isReply then
    match s.erase.flying with
    | some v =>
      (((s.modErase fun e => { e with inbox := e.inbox.erase .linkFault }).linkFaulted).replyTaken v).boundary.settle
    | none => s
  else s

/-- LINK_FAULT_REPORT (R122). -/
def execLinkFaultReport (s : State) : Host.Outcome State Fault Refusal :=
  go (if s.erase.awaitsReply then (if s.alive then s.awaitedFault else s)
      else s.takeEvent fun e =>
        match e with
        | .linkFault => some State.linkFaulted
        | _ => none)

/-- LINK_RETURN (R122). -/
def execLinkReturn (s : State) : Host.Outcome State Fault Refusal :=
  go (s.takeEvent fun e =>
    match e with
    | .linkReturn => some fun t => t.clearHold fun x => { x with linkHold := false }
    | _ => none)

/-- EXTENT_LOST (R129); in HALTED it is discarded (R132). -/
def execExtentLost (s : State) : Host.Outcome State Fault Refusal :=
  go (s.takeEvent fun e =>
    match e with
    | .extentLost v => some fun t => if t.device = .halted then t else t.extentLost v
    | _ => none)

end Sys2Proof.Machine
end

