-- ==== Sys2Proof/Machine/KeypadSteps.lean ====
section
/-! DEFINITION. The keypad unit (chapter 4): the meanings of the scanner's steps KEY_SCAN, KEY_ACCEPTED, HOLD and CHORD, of
the assembler's steps on events, orders and timeouts, and of the indicators' FLASH_END and INDICATOR_PHASE. -/

namespace Sys2Proof.Machine

/-! ### The scanner (R65 to R70) -/

/-- The state of a key. -/
def Keypad.key (k : Keypad) (x : Key) : KeyState := k.keys[Key.index x]

/-- Changes the state of one key. -/
def Keypad.setKey (k : Keypad) (x : Key) (g : KeyState → KeyState) : Keypad :=
  { k with keys := k.keys.set (Key.index x) (g k.keys[Key.index x]) }

/-- ENTER and CLEAR are both accepted down. -/
def Keypad.bothDown (k : Keypad) : Bool := (k.key .enter).down && (k.key .clear).down

/-- The hold measure of ENTER or CLEAR starts (R69). -/
def KeyState.press (x : KeyState) (holdTime : Nat) : KeyState :=
  { x with down := true, run := 0, due := false, held := 0, holdTime := holdTime, holdGiven := false }

/-- A key is up again: its suppression and its measure end. -/
def KeyState.released (x : KeyState) : KeyState :=
  { x with down := false, run := 0, due := false, held := 0, holdGiven := false, suppressed := false }

/-- A key accepted down: with both of ENTER and CLEAR down, both are suppressed and the chord measure starts (R70). -/
def Keypad.pressKey (k : Keypad) (x : Key) : Keypad :=
  let t := k.setKey x fun y => y.press (holdMs k.settings.hold)
  if x ≠ .enter ∧ x ≠ .clear then t
  else if t.bothDown then
    { (t.setKey .enter fun y => { y with suppressed := true }).setKey .clear fun y => { y with suppressed := true } with
      chordMs := some 0, chordGiven := false }
  else t

/-- A key accepted up: the chord measure of ENTER or CLEAR stops (R70). -/
def Keypad.releaseKey (k : Keypad) (x : Key) : Keypad :=
  let t := k.setKey x KeyState.released
  if x = .enter ∨ x = .clear then { t with chordMs := none, chordGiven := false } else t

/-- A key is accepted down or up (R66): a digit gives PRESS when down, ENTER and CLEAR when up before their hold and not
suppressed (R68 to R70). -/
def State.acceptKey (s : State) (x : Key) : State :=
  let y := s.keypad.key x
  if y.down then
    let t := s.modKeypad fun k => k.releaseKey x
    if (x = .enter ∨ x = .clear) ∧ !y.suppressed ∧ !y.holdGiven then t.pushKey (.press x s.ms) else t
  else
    let t := s.modKeypad fun k => k.pressKey x
    if x = .enter ∨ x = .clear then t else t.pushKey (.press x s.ms)

/-- At the last full scan the run count of a key stood at or above the debounce count in use (R66). -/
def State.keyDue (s : State) (x : Key) : Bool := (s.keypad.key x).due

/-- The hold of a key is due (R69), also at a ghosted scan, in which its measure goes on (log 43). -/
def State.holdDue (s : State) (x : Key) : Bool :=
  let y := s.keypad.key x
  (x = .enter || x = .clear) && y.down && !y.suppressed && !y.holdGiven && y.holdTime ≤ y.held

/-- The hold of a key is given (R69). -/
def State.giveHold (s : State) (x : Key) : State :=
  (s.modKeypad fun k => k.setKey x fun y => { y with holdGiven := true }).pushKey (.hold x)

/-- The chord is due (R70), also at a ghosted scan (log 43). -/
def State.chordDue (s : State) : Bool :=
  s.keypad.bothDown && !s.keypad.chordGiven && s.keypad.chordMs.any fun m => 10000 ≤ m

/-- The chord is given (R70). -/
def State.giveChord (s : State) : State := (s.modKeypad fun k => { k with chordGiven := true }).pushKey .chord

/-- The twelve keys in the order of their numbers. -/
def allKeys : List Key := (List.finRange 12).map keyOfIndex

/-- The last scan has left something due that no step has taken yet. -/
def State.scanDue (s : State) : Bool :=
  (allKeys.any s.keyDue) || s.holdDue .enter || s.holdDue .clear || s.chordDue

/-- What the last scan left due and no step has taken yet: the acceptances in the order of the key numbers, then the hold of
ENTER, that of CLEAR, and the chord (log 44). -/
def State.catchUp (s : State) : State :=
  let t := allKeys.foldl (fun t x => if t.keyDue x then t.acceptKey x else t) s
  let u := if t.holdDue .enter then t.giveHold .enter else t
  let v := if u.holdDue .clear then u.giveHold .clear else u
  if v.chordDue then v.giveChord else v

/-- The keys that read down in a scan. -/
def downCount (levels : BitVec 12) : Nat := (allKeys.filter fun x => levels.getLsbD (Key.index x).val).length

/-- The run count of a key after a scan that is not ghosted, and whether its accepted level changes at that scan (R66). -/
def KeyState.count (x : KeyState) (debounce : Nat) (raw : Bool) : KeyState :=
  if raw = x.down then { x with run := 0, due := false }
  else { x with run := x.run + 1, due := debounce ≤ x.run + 1 }

/-- The measures of a key accepted down are one millisecond longer (R69). -/
def KeyState.measure (x : KeyState) : KeyState := if x.down then { x with held := x.held + 1 } else x

/-- The scan of one key: its measure, and its run count; in a ghosted scan the run count is set to 0 (R66, R67). -/
def KeyState.scanned (x : KeyState) (debounce : Nat) (ghosted raw : Bool) : KeyState :=
  if ghosted then { x.measure with run := 0, due := false } else x.measure.count debounce raw

/-- One full scan (R65 to R67). -/
def Keypad.scan (k : Keypad) (levels : BitVec 12) : Keypad :=
  { k with
    contacts := levels
    keys := k.keys.mapFinIdx fun i x _ => x.scanned k.settings.debounce (3 ≤ downCount levels) (levels.getLsbD i)
    chordMs := k.chordMs.map fun m => m + 1 }

/-- One millisecond of the scanner: what was due is taken, with the section that shows it (R86), the timebase advances and the
matrix is read. -/
def State.keyScan (s : State) (levels : BitVec 12) : State :=
  let t := if s.scanDue then s.catchUp.settle else s
  ({ t with ms := t.ms + 1 } : State).modKeypad fun k => k.scan levels

/-- KEY_SCAN (R65 to R67): a millisecond of the scanner, which the supply monitor's recovery count counts too (R141, log 5). -/
def execKeyScan (levels : BitVec 12) (s : State) : Host.Outcome State Fault Refusal :=
  go (if s.alive && s.keypad.scanning then (s.keyScan levels).modSupply Supply.count1
      else s.modKeypad fun k => { k with contacts := levels })

/-- KEY_ACCEPTED (R66). -/
def execKeyAccepted (k : Key) (s : State) : Host.Outcome State Fault Refusal :=
  go (if s.alive && s.keypad.scanning && s.keyDue k then (s.acceptKey k).settle else s)

/-- HOLD (R69). -/
def execHold (k : Key) (s : State) : Host.Outcome State Fault Refusal :=
  go (if s.alive && s.keypad.scanning && s.holdDue k then (s.giveHold k).settle else s)

/-- CHORD (R70). -/
def execChord (s : State) : Host.Outcome State Fault Refusal :=
  go (if s.alive && s.keypad.scanning && s.chordDue then s.giveChord.settle else s)

/-! ### The assembler on key events (R75 to R82) -/

/-- A digit of an entry (R76, R77, R81): appended, or discarded with the reject flash beyond 16; the timeout reloads. -/
def State.entryDigit (s : State) (d : Digit) (t : Nat) (ms : Nat) : State :=
  (if s.keypad.buffer.length < 16 then s.appendDigit d t else s.giveFlash .reject).reloadTimeout ms

/-- A digit PRESS by the assembler's state (R75 to R77, R81). -/
def State.digitPress (s : State) (d : Digit) (t : Nat) : State :=
  match s.keypad.asm with
  | .idle =>
    if s.lockout.normal.lockedOut then s.giveFlash .reject
    else
      let u := s.sampleKeypad.appendDigit d t
      u.asmTo .digits (some u.entryMs)
  | .digits => s.entryDigit d t s.entryMs
  | .recoveryWait => (s.appendDigit d t).asmTo .recoveryDigits (some s.entryMs)
  | .recoveryDigits => s.entryDigit d t s.entryMs
  | .enrollFirst => s.entryDigit d t stageTimeoutMs
  | .enrollSecond => s.entryDigit d t stageTimeoutMs
  | .verifying => s

/-- DIGIT_PRESS (R75 to R78, R81). -/
def execDigitPress (s : State) : Host.Outcome State Fault Refusal :=
  go (s.takeKey fun e =>
    match e with
    | .press (.digit d) t => some fun u => u.digitPress d t
    | _ => none).settle

/-- The entry or arming discarded without a charge, with a flash (R76, R77). -/
def State.discard (s : State) (o : OneShot) : State := s.asmIdle.giveFlash o

/-- ENTER at the end of a NORMAL entry (R76). -/
def State.enterDigits (s : State) : State :=
  if s.keypad.buffer.length < s.keypad.settings.minPin then s.discard .reject
  else if s.device = .unprovisioned then s.discard .noPin
  else s.handEntry .normal

/-- ENTER at the end of a recovery entry (R77). -/
def State.enterRecovery (s : State) : State :=
  if s.keypad.buffer.length < 16 || !s.recoverySlot then s.discard .reject else s.handEntry .recovery

/-- ENTER in ENROLL_FIRST: the first typing handed (R81). -/
def State.enterFirst (s : State) : State :=
  if s.keypad.buffer.isEmpty then (s.giveFlash .reject).reloadTimeout stageTimeoutMs
  else ((s.tellCred (.enrollEntry s.keypad.buffer)).clearEntry.sampleKeypad).asmTo .enrollSecond (some stageTimeoutMs)

/-- ENTER in ENROLL_SECOND: the second typing handed (R81). -/
def State.enterSecond (s : State) : State :=
  if s.keypad.buffer.isEmpty then (s.giveFlash .reject).reloadTimeout stageTimeoutMs
  else (s.tellCred (.enrollEntry s.keypad.buffer)).clearEntry.asmTo .verifying none

/-- An ENTER PRESS by the assembler's state. -/
def State.enterPress (s : State) : State :=
  match s.keypad.asm with
  | .idle => s
  | .digits => s.enterDigits
  | .recoveryWait => s.discard .reject
  | .recoveryDigits => s.enterRecovery
  | .enrollFirst => s.enterFirst
  | .enrollSecond => s.enterSecond
  | .verifying => s

/-- ENTER_PRESS (R75 to R77, R80, R81). -/
def execEnterPress (s : State) : Host.Outcome State Fault Refusal :=
  go (s.takeKey fun e =>
    match e with
    | .press .enter _ => some State.enterPress
    | _ => none).settle

/-- An ENTER HOLD by the assembler's state (R75 to R77, R81). -/
def State.enterHold (s : State) : State :=
  match s.keypad.asm with
  | .idle =>
    if s.recoverySlot && !s.lockout.recovery.lockedOut then
      let t := s.sampleKeypad
      t.asmTo .recoveryWait (some t.entryMs)
    else s.giveFlash .reject
  | .digits => s.reloadTimeout s.entryMs
  | .recoveryWait => s.reloadTimeout s.entryMs
  | .recoveryDigits => s.reloadTimeout s.entryMs
  | .enrollFirst => s.reloadTimeout stageTimeoutMs
  | .enrollSecond => s.reloadTimeout stageTimeoutMs
  | .verifying => s

/-- ENTER_HOLD (R75 to R77, R81). -/
def execEnterHold (s : State) : Host.Outcome State Fault Refusal :=
  go (s.takeKey fun e =>
    match e with
    | .hold .enter => some State.enterHold
    | _ => none).settle

/-- CLEAR in IDLE: all volumes locked and the window closed, if any of them is open (R75). -/
def State.clearIdle (s : State) : State :=
  if s.anyOpen || s.cred.window.isSome then (s.tellGuard (.lock allSet)).tellCred (.windowClose false) else s

/-- An enrollment stage ended at the keypad (R81). -/
def State.leaveStage (s : State) (why : EarlyEnd) : State := (s.tellCred (.enrollEnd why)).discard .reject

/-- A CLEAR PRESS or CLEAR HOLD by the assembler's state (R75 to R77, R81). -/
def State.clearEvent (s : State) : State :=
  match s.keypad.asm with
  | .idle => s.clearIdle
  | .digits => s.asmIdle
  | .recoveryWait => s.asmIdle
  | .recoveryDigits => s.asmIdle
  | .enrollFirst => s.leaveStage .keypadAbort
  | .enrollSecond => s.leaveStage .keypadAbort
  | .verifying => s

/-- CLEAR_PRESS (R75 to R77, R81). -/
def execClearPress (s : State) : Host.Outcome State Fault Refusal :=
  go (s.takeKey fun e =>
    match e with
    | .press .clear _ => some State.clearEvent
    | _ => none).settle

/-- CLEAR_HOLD (R75 to R77, R81). -/
def execClearHold (s : State) : Host.Outcome State Fault Refusal :=
  go (s.takeKey fun e =>
    match e with
    | .hold .clear => some State.clearEvent
    | _ => none).settle

/-- A CHORD taken (R82): an enrollment stage is reported, any entry discarded, the factory chord handed to the engine. -/
def State.chordEvent (s : State) : State :=
  let t := match s.keypad.asm with
    | .enrollFirst => s.tellCred (.enrollEnd .chord)
    | .enrollSecond => s.tellCred (.enrollEnd .chord)
    | _ => s
  t.asmIdle.tellEngine .chord

/-- CHORD_TAKEN (R82). -/
def execChordTaken (s : State) : Host.Outcome State Fault Refusal :=
  go (s.takeKey fun e =>
    match e with
    | .chord => some State.chordEvent
    | _ => none).settle

/-! ### Timeouts (R79, R81) -/

/-- The assembler builds a NORMAL or a recovery entry. -/
def Assembler.entering : Assembler → Bool
  | .digits => true
  | .recoveryWait => true
  | .recoveryDigits => true
  | _ => false

/-- The assembler is in an enrollment stage. -/
def Assembler.enrolling : Assembler → Bool
  | .enrollFirst => true
  | .enrollSecond => true
  | _ => false

/-- Takes the order at the head of the keypad unit's inbox if it is the one the step names and its turn among the key events
has come (R74); once the unit has taken the entry to HALTED without effect (R83). -/
def State.takeKeyOrder (s : State) (act : KeyOrder → Option (State → State)) : State :=
  if s.alive && s.orderDue then
    match s.keypad.inbox with
    | [] => s
    | o :: t =>
      match act o with
      | some g =>
        let u := s.modKeypad fun k => { k with inbox := t, ahead := k.ahead.tail }
        if u.keypad.halted then u else (g u).settle
      | none => s
  else s

/-- The timeout of the state the assembler is in expires (R74): at once, or in its turn behind the key events and orders that
wait. One that a reload has overtaken by then does nothing (log 4). -/
def State.expire (s : State) (mine : Assembler → Bool) (act : State → State) : State :=
  if s.keypad.inbox.contains .expiry then
    s.takeKeyOrder fun o =>
      if o = .expiry && mine s.keypad.asm then some fun t => if t.keypad.timeout = some 0 then act t else t else none
  else if s.alive && s.keypad.timeout.isSome && mine s.keypad.asm then
    if s.keypad.queue.isEmpty && s.keypad.inbox.isEmpty then (act s).settle
    else (s.modKeypad fun k => { k with timeout := some 0 }).tellKeypad .expiry
  else s

/-- ENTRY_TIMEOUT (R79): no charge and no flash. It also takes an expiry whose state the assembler has left. -/
def execEntryTimeout (s : State) : Host.Outcome State Fault Refusal :=
  go (s.expire (fun a => !a.enrolling) fun t => if t.keypad.asm.entering then t.asmIdle else t)

/-- STAGE_TIMEOUT (R81). -/
def execStageTimeout (s : State) : Host.Outcome State Fault Refusal :=
  go (s.expire Assembler.enrolling fun t => t.leaveStage .timeout)

/-! ### Orders of the credential unit (R80, R81) -/

/-- The assembler enters ENROLL_FIRST (R81); a waiting marker is acted on when it leaves VERIFYING (R72). -/
def State.enrollOrder (s : State) : State :=
  (s.clearEntry.sampleKeypad.asmTo .enrollFirst (some stageTimeoutMs)).markerStep

/-- ENROLL_ORDER (R81). -/
def execEnrollOrder (s : State) : Host.Outcome State Fault Refusal :=
  go (s.takeKeyOrder fun o =>
    match o with
    | .enroll => some State.enrollOrder
    | _ => none)

/-- An outcome reported to an assembler in VERIFYING (R80). -/
def State.outcome (s : State) (accepted : Bool) : State :=
  if s.keypad.asm = .verifying then s.leaveVerifying (some (if accepted then .accept else .reject)) else s

/-- OUTCOME_REPORT (R80). -/
def execOutcomeReport (s : State) : Host.Outcome State Fault Refusal :=
  go (s.takeKeyOrder fun o =>
    match o with
    | .outcome accepted => some fun t => t.outcome accepted
    | _ => none)

/-- A return to IDLE by the credential unit (R81): from an enrollment stage, or from VERIFYING after the second entry; elsewhere it
has no effect (log 21). One that meets the VERIFYING of a later entry ends that (log 62). -/
def State.returnIdle (s : State) (flash : Bool) : State :=
  if s.keypad.asm.enrolling then (if flash then s.discard .reject else s.asmIdle)
  else if s.keypad.asm = .verifying then s.leaveVerifying (if flash then some .reject else none)
  else s

/-- RETURN_TO_IDLE (R81). -/
def execReturnToIdle (s : State) : Host.Outcome State Fault Refusal :=
  go (s.takeKeyOrder fun o =>
    match o with
    | .toIdle flash => some fun t => t.returnIdle flash
    | _ => none)

/-! ### Indicators (R84, R85) -/

/-- FLASH_END (R84): a one-shot that has run its length is no longer pending. -/
def execFlashEnd (s : State) : Host.Outcome State Fault Refusal :=
  go (if s.alive && s.keypad.flash.isSome then (s.modKeypad fun k => { k with flash := none, flashLeft := 0 }).settle
      else s)

/-- The next phase of the pattern shown. -/
def State.nextPhase (s : State) : State :=
  let t := s.modKeypad fun k => { k with phase := (k.phase + 1) % s.phases.length }
  t.modKeypad fun k => { k with phaseLeft := t.blink.ms }

/-- INDICATOR_PHASE (R85). -/
def execIndicatorPhase (s : State) : Host.Outcome State Fault Refusal :=
  go (if s.alive && 1 < s.phases.length then s.nextPhase else s)

end Sys2Proof.Machine
end

