-- ==== Sys2Proof/Machine/CommitSteps.lean ====
section
/-! DEFINITION. COMMIT_DONE: the outcome of a commit's write and read-back (R147, R148). -/

namespace Sys2Proof.Machine

/-- The commit in progress is complete (R147): the array holds the record, its owners are answered, in the order in which they
began to wait for it, which is the model's choice (log 74), and the next commit begins. -/
def State.commitAgrees (s : State) (q : Queued) : State :=
  let t := s.modStore fun x => { x with nv := x.nv.write q.data, current := none, retrying := false }
  (q.waiters.foldl State.committed t).beginCommit

/-- The first read-back differs (R147): the retry is counted and made. -/
def State.commitRetry (s : State) : State :=
  (s.modStore fun x => { x with retrying := true, retries := satInc16 x.retries }).refresh .device

/-- COMMIT_DONE (R147, R148). -/
def execCommitDone (r : ReadBack) (s : State) : Host.Outcome State Fault Refusal :=
  go (if s.alive then
        match s.store.current with
        | none => s
        | some q =>
          match r with
          | .agrees => (s.commitAgrees q).settle
          | .differs left => if s.store.retrying then (s.commitFailed q left).settle else s.commitRetry
      else s)

end Sys2Proof.Machine
end

