-- ==== Sys2Proof/Machine/Dispatch.lean ====
section
/-! DEFINITION. The dispatch of the commands to their meanings, one arm per constructor of `Instr`. -/

namespace Sys2Proof.Machine

/-- The effect of a command on everything but the queue. -/
def exec (i : Instr) (s : State) : Host.Outcome State Fault Refusal :=
  match i with
  | .resetAssert cut => Sys2Proof.Machine.execResetAssert cut s
  | .startUp supplyGood => Sys2Proof.Machine.execStartUp supplyGood s
  | .powerLoss cut => Sys2Proof.Machine.execPowerLoss cut s
  | .loadRecords => Sys2Proof.Machine.execLoadRecords s
  | .orphanCheck => Sys2Proof.Machine.execOrphanCheck s
  | .lockoutExamination => Sys2Proof.Machine.execLockoutExamination s
  | .startUpIdent => Sys2Proof.Machine.execStartUpIdent s
  | .leaveStarting sensor => Sys2Proof.Machine.execLeaveStarting sensor s
  | .supplyWarning => Sys2Proof.Machine.execSupplyWarning s
  | .supplyRise => Sys2Proof.Machine.execSupplyRise s
  | .supplyRecovery => Sys2Proof.Machine.execSupplyRecovery s
  | .warningTaken b => Sys2Proof.Machine.execWarningTaken b s
  | .recoveryTaken b => Sys2Proof.Machine.execRecoveryTaken b s
  | .haltOrder b => Sys2Proof.Machine.execHaltOrder b s
  | .portWordWrite addr value => Sys2Proof.Machine.execPortWordWrite addr value s
  | .attnWrite value => Sys2Proof.Machine.execAttnWrite value s
  | .attnLvlWrite value => Sys2Proof.Machine.execAttnLvlWrite value s
  | .scanWrite value => Sys2Proof.Machine.execScanWrite value s
  | .scanCfgWrite value => Sys2Proof.Machine.execScanCfgWrite value s
  | .registerWriteOther reg value => Sys2Proof.Machine.execRegisterWriteOther reg value s
  | .scanTimerExpiry => Sys2Proof.Machine.execScanTimerExpiry s
  | .identify => Sys2Proof.Machine.execIdentify s
  | .setPolicy => Sys2Proof.Machine.execSetPolicy s
  | .cancel => Sys2Proof.Machine.execCancel s
  | .readSectors => Sys2Proof.Machine.execReadSectors s
  | .writeSectors => Sys2Proof.Machine.execWriteSectors s
  | .lock => Sys2Proof.Machine.execLock s
  | .defineVolume => Sys2Proof.Machine.execDefineVolume s
  | .deleteVolume => Sys2Proof.Machine.execDeleteVolume s
  | .enroll => Sys2Proof.Machine.execEnroll s
  | .revoke => Sys2Proof.Machine.execRevoke s
  | .erase => Sys2Proof.Machine.execErase s
  | .pause => Sys2Proof.Machine.execPause s
  | .resume => Sys2Proof.Machine.execResume s
  | .abort => Sys2Proof.Machine.execAbort s
  | .sectorGrant => Sys2Proof.Machine.execSectorGrant s
  | .linkReply frame t => Sys2Proof.Machine.execLinkReply frame t s
  | .linkTimeout => Sys2Proof.Machine.execLinkTimeout s
  | .linkReissue => Sys2Proof.Machine.execLinkReissue s
  | .probe => Sys2Proof.Machine.execProbe s
  | .stripeGrant => Sys2Proof.Machine.execStripeGrant s
  | .stripeReply => Sys2Proof.Machine.execStripeReply s
  | .wipeTrigger => Sys2Proof.Machine.execWipeTrigger s
  | .factoryChord => Sys2Proof.Machine.execFactoryChord s
  | .linkFaultReport => Sys2Proof.Machine.execLinkFaultReport s
  | .linkReturn => Sys2Proof.Machine.execLinkReturn s
  | .extentLost => Sys2Proof.Machine.execExtentLost s
  | .temperatureSample sensor => Sys2Proof.Machine.execTemperatureSample sensor s
  | .hotSignal => Sys2Proof.Machine.execHotSignal s
  | .criticalSignal b => Sys2Proof.Machine.execCriticalSignal b s
  | .releaseSignal b => Sys2Proof.Machine.execReleaseSignal b s
  | .openOrder => Sys2Proof.Machine.execOpenOrder s
  | .faultOrder => Sys2Proof.Machine.execFaultOrder s
  | .lockOrder => Sys2Proof.Machine.execLockOrder s
  | .eraseAcceptance => Sys2Proof.Machine.execEraseAcceptance s
  | .eraseEnd => Sys2Proof.Machine.execEraseEnd s
  | .capacityReport => Sys2Proof.Machine.execCapacityReport s
  | .idleTimerExpiry v => Sys2Proof.Machine.execIdleTimerExpiry v s
  | .entryHanded => Sys2Proof.Machine.execEntryHanded s
  | .charge => Sys2Proof.Machine.execCharge s
  | .chargeCommitted => Sys2Proof.Machine.execChargeCommitted s
  | .derivationDone => Sys2Proof.Machine.execDerivationDone s
  | .matchReport => Sys2Proof.Machine.execMatchReport s
  | .noMatchReport => Sys2Proof.Machine.execNoMatchReport s
  | .acceptanceComplete => Sys2Proof.Machine.execAcceptanceComplete s
  | .lockoutTick => Sys2Proof.Machine.execLockoutTick s
  | .lockoutEnd d => Sys2Proof.Machine.execLockoutEnd d s
  | .factoryOrder => Sys2Proof.Machine.execFactoryOrder s
  | .factoryRevocation => Sys2Proof.Machine.execFactoryRevocation s
  | .windowTick => Sys2Proof.Machine.execWindowTick s
  | .windowExpiry => Sys2Proof.Machine.execWindowExpiry s
  | .windowClose => Sys2Proof.Machine.execWindowClose s
  | .wrapAndAdd => Sys2Proof.Machine.execWrapAndAdd s
  | .removal => Sys2Proof.Machine.execRemoval s
  | .enrollEntry => Sys2Proof.Machine.execEnrollEntry s
  | .enrollEarlyEnd => Sys2Proof.Machine.execEnrollEarlyEnd s
  | .commitDone r => Sys2Proof.Machine.execCommitDone r s
  | .keyScan levels => Sys2Proof.Machine.execKeyScan levels s
  | .keyAccepted k => Sys2Proof.Machine.execKeyAccepted k s
  | .hold k => Sys2Proof.Machine.execHold k s
  | .chord => Sys2Proof.Machine.execChord s
  | .digitPress => Sys2Proof.Machine.execDigitPress s
  | .enterPress => Sys2Proof.Machine.execEnterPress s
  | .enterHold => Sys2Proof.Machine.execEnterHold s
  | .clearPress => Sys2Proof.Machine.execClearPress s
  | .clearHold => Sys2Proof.Machine.execClearHold s
  | .chordTaken => Sys2Proof.Machine.execChordTaken s
  | .entryTimeout => Sys2Proof.Machine.execEntryTimeout s
  | .stageTimeout => Sys2Proof.Machine.execStageTimeout s
  | .enrollOrder => Sys2Proof.Machine.execEnrollOrder s
  | .outcomeReport => Sys2Proof.Machine.execOutcomeReport s
  | .returnToIdle => Sys2Proof.Machine.execReturnToIdle s
  | .flashEnd => Sys2Proof.Machine.execFlashEnd s
  | .indicatorPhase => Sys2Proof.Machine.execIndicatorPhase s

end Sys2Proof.Machine
end

