-- ==== Sys2Proof/Machine/Idle.lean ====
section
/-! DEFINITION. What the part does when no command waits (log 2): the first of its own steps that is due, else one tick of
the 1 ms timebase, with the 1 s timebase at every thousandth. -/

namespace Sys2Proof.Machine

/-! ### The steps that the part takes by itself -/

/-- The signals waiting at the blocks. -/
def signalSteps : List Instr :=
  (allBlocks.flatMap fun b => [.warningTaken b, .recoveryTaken b, .haltOrder b]) ++
    [.hotSignal, .criticalSignal .guard, .criticalSignal .engine, .releaseSignal .guard, .releaseSignal .engine]

/-- The orders and events waiting in the blocks' inboxes, and the requests waiting to be served. -/
def orderSteps : List Instr :=
  [.openOrder, .faultOrder, .lockOrder, .eraseAcceptance, .eraseEnd, .capacityReport, .lock, .defineVolume, .deleteVolume,
   .setPolicy, .identify, .cancel, .charge, .matchReport, .noMatchReport, .acceptanceComplete, .factoryOrder,
   .entryHanded, .chargeCommitted, .enrollEntry, .enrollEarlyEnd, .revoke, .wrapAndAdd, .removal, .windowClose,
   .factoryRevocation, .enroll, .stripeReply, .erase, .pause, .resume, .abort, .wipeTrigger, .factoryChord,
   .linkFaultReport, .linkReturn, .extentLost, .enrollOrder, .outcomeReport, .returnToIdle, .readSectors, .writeSectors,
   .sectorGrant, .stripeGrant]

/-- The steps of the scanner and the assembler. -/
def keySteps : List Instr :=
  (allKeys.map Instr.keyAccepted) ++
    [.hold .enter, .hold .clear, .chord, .digitPress, .enterPress, .enterHold, .clearPress, .clearHold, .chordTaken]

/-- The steps of start-up, the first temperature sample from the sensor as it stands. -/
def startUpSteps (sensor : Int) : List Instr :=
  [.loadRecords, .orphanCheck, .lockoutExamination, .startUpIdent, .leaveStarting sensor]

/-- A step when its timer has run out. -/
def whenDue (due : Bool) (i : Instr) : List Instr := if due then [i] else []

/-- The link's timer has run out. -/
def State.linkDue (s : State) (resetting : Bool) : Bool :=
  s.link.inFlight.any fun f => f.resetting = resetting && f.left = 0

/-- The steps whose timers have run out. -/
def State.timerSteps (s : State) : List Instr :=
  whenDue (s.supply.cond = .recovering && 100 ≤ s.supply.count) .supplyRecovery ++
    whenDue (s.exch.run && s.exch.scanLeft = 0) .scanTimerExpiry ++
    whenDue (s.cred.inbox.contains .derived || s.cred.deriv.any fun d => d.left = 0) .derivationDone ++
    whenDue (s.keypad.timeout = some 0 || s.keypad.inbox.contains .expiry) .entryTimeout ++
    whenDue (s.keypad.timeout = some 0 || s.keypad.inbox.contains .expiry) .stageTimeout ++
    whenDue (s.keypad.flash.isSome && s.keypad.flashLeft = 0) .flashEnd ++
    whenDue (s.blink.ms ≠ 0 && s.keypad.phaseLeft = 0) .indicatorPhase ++
    whenDue (s.link.probeLeft = some 0) .probe ++
    whenDue (s.linkDue false) .linkTimeout ++
    whenDue (s.linkDue true) .linkReissue

/-- The part's own steps in the order in which they are looked at. -/
def State.ownSteps (s : State) : List Instr :=
  signalSteps ++ orderSteps ++ keySteps ++ startUpSteps s.temp.sensor ++ s.timerSteps

/-- A command would change the state. -/
def State.changes (s : State) (i : Instr) : Bool :=
  match exec i s with
  | .next t => t ≠ s
  | _ => false

/-- The first of the part's own steps that is due: one that changes something. -/
def State.autoNext (s : State) : Option Instr := s.ownSteps.find? s.changes

/-! ### Ticks -/

/-- The counters of the 1 ms timebase outside the keypad scanner (R79, R84, R97, R100, R141, R163). -/
def State.countMs (s : State) : State :=
  { s with
    supply := s.supply.count1
    exch := { s.exch with scanLeft := s.exch.scanLeft - 1 }
    keypad := { s.keypad with
      timeout := s.keypad.timeout.map fun n => n - 1
      flashLeft := s.keypad.flashLeft - 1
      phaseLeft := s.keypad.phaseLeft - 1 }
    cred := { s.cred with deriv := s.cred.deriv.map fun d => { d with left := d.left - 1 } }
    link := { s.link with
      probeLeft := s.link.probeLeft.map fun n => n - 1
      inFlight := s.link.inFlight.map fun f => { f with left := f.left - 10 } } }

/-- The idle timers count a second (R9). -/
def State.countIdle (s : State) : State :=
  s.modGuard fun g => { g with vols := g.vols.map fun v => { v with idle := v.idle.map fun n => n - 1 } }

/-- The state of an outcome that is a next state. -/
def State.after (s : State) (o : Host.Outcome State Fault Refusal) : State :=
  match o with
  | .next t => t
  | _ => s

/-- The idle timers that stand at 0 expire, in ascending order (R9). -/
def State.expireIdle (s : State) : State :=
  allVols.foldl (fun t v => if (t.vol v).idle = some 0 then t.after (exec (.idleTimerExpiry v) t) else t) s

/-- One tick of the 1 s timebase (R9, R37, R57, R133). -/
def State.secondTick (s : State) : State :=
  let t := s.after (exec .lockoutTick s)
  let u := t.after (exec .windowTick t)
  let v := u.after (exec (.temperatureSample u.temp.sensor) u)
  v.countIdle.expireIdle

/-- One tick of the 1 ms timebase: a key scan with the contacts as they stand, the timers, and every thousandth a tick of
the 1 s timebase. Without power and in RESET nothing ticks. -/
def State.tick (s : State) : State :=
  if s.alive then
    let t := (if s.keypad.scanning then s.keyScan s.keypad.contacts else { s with ms := s.ms + 1 }).countMs
    if t.msOfSecond + 1 < 1000 then { t with msOfSecond := t.msOfSecond + 1 }
    else ({ t with msOfSecond := 0 } : State).secondTick
  else s

end Sys2Proof.Machine
end

