-- ==== Sys2Proof/Safety.lean ====
section
/-! DEFINITION. What claims speak of: the parts of the state that a command may leave alone, the laws that every step
keeps, and what a reset leaves. -/

namespace Sys2Proof.Machine

/-! ### Frames -/

/-- The pieces into which a frame divides the state. -/
inductive Part where
  | pending | power | device | startUp | time | draws | signals
  | volumes | guardInbox | guardFlags
  | slots | window | credWork | deriv | credInbox | credRest
  | domains | lockoutRest
  | keyQueue | keyOrder | scanner | indicator | assembler | keypadInbox
  | sector | link | eraseList | eraseInbox | eraseRest
  | temp | supply | array | commits | storeRest
  | mem | attn | queues | scanRegs
  | pageDevice | pageVolumes | pageDomains | pageWindow | pageErase | pageLink | pageTemperature | pageKeypad
  deriving DecidableEq, Repr

/-- The kind queues, the follower list, the held set and the take pointer alone. -/
def Exchange.queuesOnly (x : Exchange) : Exchange :=
  { sectorQ := x.sectorQ, controlQ := x.controlQ, enrollQ := x.enrollQ, followers := x.followers, held := x.held
    takePtr := x.takePtr }

/-- The scan registers, the scan-pending flag, the levels and the unit's view of the supply warning alone. -/
def Exchange.regsOnly (x : Exchange) : Exchange :=
  { level := x.level, scanCode := x.scanCode, run := x.run, continuous := x.continuous, scanLeft := x.scanLeft
    scanPending := x.scanPending, warned := x.warned }

/-- The scanner of the keypad unit alone. -/
def Keypad.scanOnly (k : Keypad) : Keypad :=
  { keys := k.keys, chordMs := k.chordMs, chordGiven := k.chordGiven, scanning := k.scanning, contacts := k.contacts
    settings := ⟨0, 0, 0, 0, 0⟩ }

/-- The assembler, the settings in use and the one-shot of the keypad unit alone. -/
def Keypad.assemblerOnly (k : Keypad) : Keypad :=
  { keys := Vector.replicate 12 {}, settings := k.settings, asm := k.asm, buffer := k.buffer, lastTime := k.lastTime
    cadence := k.cadence, timeout := k.timeout, flash := k.flash, flashLeft := k.flashLeft, warned := k.warned
    halted := k.halted }

/-- The store without the array and without its commits. -/
def Store.rest (x : Store) : Store :=
  { x with nv := NvArray.factory, queue := [], room := [], current := none }

/-- Two states agree on a part. -/
def State.agree (s t : State) : Part → Prop
  | .pending => t.pending = s.pending
  | .power => t.power = s.power
  | .device => t.device = s.device
  | .startUp => t.startUp = s.startUp
  | .time => t.ms = s.ms ∧ t.msOfSecond = s.msOfSecond
  | .draws => t.draws = s.draws
  | .signals => t.signals = s.signals
  | .volumes => t.guard.vols = s.guard.vols
  | .guardInbox => t.guard.inbox = s.guard.inbox ∧ t.guard.wait = s.guard.wait
  | .guardFlags => t.guard.critical = s.guard.critical ∧ t.guard.warned = s.guard.warned
  | .slots => t.cred.slots = s.cred.slots
  | .window => t.cred.window = s.cred.window ∧ t.cred.adminKey = s.cred.adminKey
  | .credWork => t.cred.verify = s.cred.verify ∧ t.cred.enroll = s.cred.enroll
  | .deriv => t.cred.deriv = s.cred.deriv
  | .credInbox => t.cred.inbox = s.cred.inbox
  | .credRest =>
    t.cred.wait = s.cred.wait ∧ t.cred.warned = s.cred.warned ∧ t.cred.shutByWarning = s.cred.shutByWarning ∧
      t.cred.halted = s.cred.halted
  | .domains => t.lockout.normal = s.lockout.normal ∧ t.lockout.recovery = s.lockout.recovery
  | .lockoutRest =>
    t.lockout.inbox = s.lockout.inbox ∧ t.lockout.wait = s.lockout.wait ∧ t.lockout.halted = s.lockout.halted
  | .keyQueue => t.keypad.queue = s.keypad.queue ∧ t.keypad.marker = s.keypad.marker
  | .keyOrder => t.keypad.ahead = s.keypad.ahead
  | .scanner => t.keypad.scanOnly = s.keypad.scanOnly
  | .indicator =>
    t.keypad.pattern = s.keypad.pattern ∧ t.keypad.phase = s.keypad.phase ∧ t.keypad.phaseLeft = s.keypad.phaseLeft
  | .assembler => t.keypad.assemblerOnly = s.keypad.assemblerOnly
  | .keypadInbox => t.keypad.inbox = s.keypad.inbox
  | .sector => t.sector = s.sector
  | .link => t.link = s.link
  | .eraseList => t.erase.list = s.erase.list
  | .eraseInbox => t.erase.inbox = s.erase.inbox
  | .eraseRest => { t.erase with list := [], inbox := [] } = { s.erase with list := [], inbox := [] }
  | .temp => t.temp = s.temp
  | .supply => t.supply = s.supply
  | .array => t.store.nv = s.store.nv
  | .commits => t.store.queue = s.store.queue ∧ t.store.room = s.store.room ∧ t.store.current = s.store.current
  | .storeRest => t.store.rest = s.store.rest
  | .mem => t.exch.mem = s.exch.mem
  | .attn => t.exch.attn = s.exch.attn
  | .queues => t.exch.queuesOnly = s.exch.queuesOnly
  | .scanRegs => t.exch.regsOnly = s.exch.regsOnly
  | .pageDevice => t.page.device = s.page.device
  | .pageVolumes => t.page.volumes = s.page.volumes
  | .pageDomains => t.page.domains = s.page.domains
  | .pageWindow => t.page.window = s.page.window
  | .pageErase => t.page.erase = s.page.erase
  | .pageLink => t.page.link = s.page.link
  | .pageTemperature => t.page.temperature = s.page.temperature
  | .pageKeypad => t.page.keypad = s.page.keypad

/-- Nothing has changed but the parts named. -/
def State.sameBut (ps : List Part) (s t : State) : Prop := ∀ p, p ∈ ps ∨ s.agree t p

/-! ### What groups of steps can change -/

/-- What a completion can change: the slot, and what the chain, the follower list and the next control request can. -/
abbrev completing : List Part := [.mem, .attn, .queues, .guardInbox, .credInbox, .eraseInbox, .storeRest]

/-- What the end of a sector request can change. -/
abbrev sectorEnding : List Part := [.sector, .volumes, .link, .pageLink] ++ completing

/-- What the end of a link command can change. -/
abbrev linkEnding : List Part := .startUp :: sectorEnding

/-- What a commit of the guard can change. -/
abbrev guardCommitting : List Part := [.commits, .pageVolumes] ++ completing

/-- What a tick can change at the lockout unit. -/
abbrev lockoutTicking : List Part := [.domains, .commits, .storeRest, .attn, .pageDomains]

/-- What the end of an enrollment can change. -/
abbrev enrollEnding : List Part := [.credWork, .deriv, .window, .pageWindow, .keypadInbox, .keyOrder] ++ completing

/-- What a grant of the link, or the taking back of one, can change: the engine's grant is one of its events (R110). -/
abbrev granting : List Part := [.link, .pageLink, .eraseInbox]

/-- Where a signal handed to every block stands (R140, R148). -/
abbrev handing : List Part := [.signals, .guardInbox, .credInbox, .lockoutRest, .keypadInbox, .keyOrder, .eraseInbox]

/-- What a pause or a hold can change. -/
abbrev engineStopping : List Part := [.eraseRest, .commits, .storeRest, .pageErase] ++ granting

/-- What the end of an entry can change. -/
abbrev entryEnding : List Part :=
  [.eraseRest, .attn, .commits, .storeRest, .pageErase, .device, .pageDevice] ++ granting ++ handing

/-- What an acceptance, as far as it goes in one step, can change. -/
abbrev accepting : List Part :=
  [.eraseList, .eraseRest, .link, .pageLink, .commits, .lockoutRest, .pageErase] ++ completing

/-- What the end of an ABORT can change. -/
abbrev abortEnding : List Part := entryEnding ++ completing

/-- What the answers that the engine waits for can change. -/
abbrev engineAnswering : List Part := [.eraseList, .lockoutRest] ++ abortEnding

/-- What the indicators show and the keypad section that tells of it: what any step may bring up to date (R85, R86). -/
abbrev showing : List Part := [.indicator, .pageKeypad]

/-- An attention flag is set. -/
def State.attending (s : State) (a : Attn) : Bool := s.exch.attn.getLsbD a.index

/-- A signal has been handed to all nine blocks, behind what waits at each (R140, R141). -/
def State.handed (s t : State) (x : Signal) : Prop :=
  t.signals =
      { exchange := s.signals.exchange ++ [x], sector := s.signals.sector ++ [x], link := s.signals.link ++ [x]
        store := s.signals.store ++ [x] } ∧
    t.guard = { s.guard with inbox := s.guard.inbox ++ [.signal x] } ∧
    t.cred = { s.cred with inbox := s.cred.inbox ++ [.signal x] } ∧
    t.lockout = { s.lockout with inbox := s.lockout.inbox ++ [.signal x] } ∧
    t.keypad =
      { s.keypad with inbox := s.keypad.inbox ++ [.signal x], ahead := s.keypad.ahead ++ [s.keypad.queue.length] } ∧
    t.erase = { s.erase with inbox := s.erase.inbox ++ [.signal x] }

/-- Of the signals waiting at the blocks, one block's have become `rest` and every other's are as they were. -/
def State.signalTaken (s t : State) (b : Block) (rest : List Signal) : Prop :=
  ∀ c, t.signalsAt c = if c = b then rest else s.signalsAt c

/-- The event that a grant of the link to the engine puts into its inbox (R110). -/
def State.grantEvent (t : State) : List EngineEvent := if t.link.granted = some .engine then [.grant] else []

/-- A grant that the sector path held unused has been handed back before its request ended (R91): at that boundary the engine is
granted what it asks for, with L at 0, and its grant stands ahead of whatever the end of the request then gives it; without a
request of the engine the link is READY and granted to nobody (R102, R103). -/
def State.grantReturned (s t : State) : Prop :=
  if s.linkServes && s.link.engineAsks then
    t.link.state = .busy ∧ t.link.granted = some .engine ∧ t.link.losses = 0 ∧
      ∃ l, t.erase.inbox = s.erase.inbox ++ .grant :: l
  else t.link.state = .ready ∧ t.link.granted = none ∧ t.link.losses = s.link.losses

/-- The one-shot pending once one has been given: in HALTED none becomes so (R84). -/
def State.flashed (s : State) (o : OneShot) : Option OneShot := if s.device = .halted then s.keypad.flash else some o

/-- What a boundary gives at a READY link that nobody holds, with the sector path's request pending or not and the engine's
pending or not (R102, R103): a request alone is granted; of two, a WIPE head, and a REQUEST head that has lost its share's number
of decisions, give it to the engine, and any other head to the sector path. A grant to the engine sets L to 0, a decision that it
loses adds one, and a grant to a sector request that is alone leaves L. -/
def State.arbitrated (t : State) (list : List EraseEntry) (losses : Nat) (sector engine : Bool) : Prop :=
  let wins : Bool := list.head?.all fun h => h.wipe || h.share ≤ losses
  if engine && (!sector || wins) then
    t.link.state = .busy ∧ t.link.granted = some .engine ∧ t.link.losses = 0 ∧ t.link.engineAsks = false ∧
      t.link.sectorAsks = sector
  else if sector then
    t.link.state = .busy ∧ t.link.granted = some .sector ∧ t.link.losses = (if engine then losses + 1 else losses) ∧
      t.link.engineAsks = engine ∧ t.link.sectorAsks = false
  else t.link.state = .ready ∧ t.link.granted = none ∧ t.link.losses = losses

/-- A request of the sector path for the link that serves (R102): an open link decides at once, any other holds it pending. -/
def State.sectorAsked (s t : State) : Prop :=
  if s.link.open_ then t.arbitrated s.erase.list s.link.losses true s.link.engineAsks
  else t.link = { s.link with sectorAsks := true }

/-- The run of the engine from the cursor of its head in a state `u` (R110, R118): while it is RUNNING, with nothing that holds it
and no command in flight, a head with no pass left, or that a fault has stopped (R121), begins its end (R128 step 1), and for any
other the link is asked for the stripe at the cursor. An open link decides on that request at once (R102, R103), any other holds
it. -/
def State.ran (u t : State) : Prop :=
  u.erase.state = .running → u.erase.job = .none → u.erase.flying = none → u.device ≠ .starting → u.device ≠ .halted →
    ∀ e, u.eraseHead = some e →
      let faulty : Bool := e.suspects ≠ 0 || e.mismatches ≠ 0
      let stopped : Bool := e.stopOnFault && faulty
      if stopped = true ∨ e.passes.length ≤ e.passIndex then
        t.erase.job = .endGuard e.vol ∧
          .eraseEnd e.vol (if stopped then .failed else if faulty then .completeSuspect else .complete) e.suspects ∈ t.guard.inbox
      else
        u.linkServes = true →
          if u.link.open_ = true ∧ u.link.engineAsks = false then
            t.arbitrated u.erase.list u.link.losses u.link.sectorAsks true
          else t.link.engineAsks = true ∨ t.link.granted = some .engine

/-- A section after a rewrite with new contents: its counter is one up when they differ from the old ones, and it stands as it
was otherwise (R172). -/
def PageSection.replaced (c : PageSection) (body : List Byte) : PageSection :=
  if c.body = body then c else { counter := c.counter + 1, body := body }

/-- A section has been rewritten with what it now shows (R172). -/
def State.rewritten (s t : State) (x : Section) : Prop := t.page.get x = (s.page.get x).replaced (t.body x)

/-- The link section after the identity that `l` holds has been taken, with nobody asking for the link: rewritten with the
identity while the link is as it was, and once more with the link READY (R101 step 4, R100, R105). -/
def State.identityShown (s t : State) (l : Link) : Prop :=
  let shown (x : LinkState) : List Byte := ({ s with link := { l with state := x } } : State).body .link
  l.sectorAsks = false → l.engineAsks = false → t.page.link = (s.page.link.replaced (shown l.state)).replaced (shown .ready)

/-- The entries of the domains `on` have been rewritten with what they now show, the other's standing as it stood: the counter is
one up when the section then differs, and the section stands as it was otherwise (R61, R172). -/
def State.entriesRewritten (s t : State) (on : Domain → Bool) : Prop :=
  let shown (d : Domain) (k : Nat) : List Byte :=
    if on d then (t.domain d).entry else (s.page.domains.body.drop k).take 16
  let body := zeros 14 ++ shown .normal 14 ++ shown .recovery 30
  t.page.domains =
    if s.page.domains.body = body then s.page.domains else { counter := s.page.domains.counter + 1, body := body }

/-- A scan (R164): the slots visited once each, from the one after the take pointer. -/
def State.scanned (u : State) : State := (scanOrder u.exch.takePtr).foldl State.scanSlot u

/-! ### Requests -/

/-- The bytes of slot `n` that the exchange unit writes: the owner, and bytes 32 to 63 (R161, R176). -/
def resultArea (n : RSlot) (a : Nat) : Prop := a = slotAddr n ∨ (slotAddr n + 32 ≤ a ∧ a < slotAddr n + 64)

/-- A slot is DONE with a status (R166). -/
def State.doneWith (t : State) (n : RSlot) (st : Status) : Prop := t.slotByte n 0 = 3 ∧ t.slotByte n 32 = st.code

/-- No byte of the exchange memory has changed but those that the exchange unit writes in request slots. -/
def State.slotsOnly (s t : State) : Prop :=
  ∀ a, (∀ n, ¬resultArea n a) → readByte t.exch.mem a = readByte s.exch.mem a

/-- A slot with a chain offset has been completed (R166): status, done count and results written, the owner DONE, out of the
held set, DONE attention set. Only request slots have been written, by the chain too (R167); without a chain the chain
result is 0 and no byte outside this slot has changed. -/
def State.finished (s t : State) (n : RSlot) (off : Int) (st : Status) (done : Nat) (results : List Byte) : Prop :=
  t.doneWith n st ∧
    readBytes t.exch.mem (slotAddr n + 34) 30 = leBytes 2 done ++ (results ++ zeros 28).take 28 ∧
    t.exch.held.getLsbD n.val = false ∧ t.attending .done = true ∧ s.slotsOnly t ∧
    (off = 0 → t.slotByte n 33 = 0 ∧ ∀ a, ¬resultArea n a → readByte t.exch.mem a = readByte s.exch.mem a)

/-- A slot stands in no kind queue and not in the follower list. -/
def State.outOfQueues (t : State) (n : RSlot) : Prop :=
  ∀ x ∈ t.exch.sectorQ ++ t.exch.controlQ ++ t.exch.enrollQ ++ t.exch.followers, x.slot ≠ n

/-- A request has completed (R166): its slot is finished and it has left its queue. -/
def State.completed (s t : State) (r : Request) (st : Status) (done : Nat) (results : List Byte) : Prop :=
  s.finished t r.slot r.offset st done results ∧ t.outOfQueues r.slot

/-- A completion has taken a slot out of the queues (R166): of each queue's followers the oldest, if the queue then has room,
stands at its tail and has left the follower list, which is otherwise as it was (R168); and the request at the head of the
control queue, unless it was begun before, is marked begun and stands once with the block that serves it, IDENTIFY and
CANCEL apart, which the exchange unit serves itself (R165). `u` is the state when the chain had been settled. -/
def State.roomGiven (u t : State) (n : RSlot) : Prop :=
  let left (q : QueueId) : List Request := (u.exch.queue q).filter fun x => x.slot ≠ n
  let waiting (q : QueueId) : List Request := u.exch.followers.filter fun x => x.slot ≠ n ∧ x.kind.queue = q
  let moved (q : QueueId) : List Request := if (left q).length < q.room then (waiting q).take 1 else []
  let head : Option Request := (left .control ++ moved .control).head?
  let given (ks : List Kind) : List Request :=
    match head with
    | some h => if !h.begun && ks.contains h.kind then [{ h with begun := true }] else []
    | none => []
  let served : List Kind := [.setPolicy, .lock, .defineVolume, .deleteVolume, .revoke, .erase, .eraseControl]
  (∀ q, (t.exch.followers.filter fun x => x.kind.queue = q) = (waiting q).drop (moved q).length) ∧
    t.exch.sectorQ = left .sector ++ moved .sector ∧ t.exch.enrollQ = left .enroll ++ moved .enroll ∧
    t.exch.controlQ =
      (match given served with
       | [b] => b :: (left .control ++ moved .control).tail
       | _ => left .control ++ moved .control) ∧
    t.store.settings = ((given [.setPolicy]).head?.or u.store.settings) ∧
    t.guard.inbox = u.guard.inbox ++ (given [.lock, .defineVolume, .deleteVolume]).map .request ∧
    t.cred.inbox = u.cred.inbox ++ (given [.revoke]).map .revoke ∧
    t.erase.inbox = u.erase.inbox ++ (given [.erase, .eraseControl]).map .request

/-- The requests that wait, not yet begun, in the kind queues and in the follower list (R171); at the entry to HALTED those
taken before it. -/
def State.waitingRequests (s : State) (st : Status) : List Request :=
  (if s.sector.phase ≠ .idle then s.exch.sectorQ.drop 1 else s.exch.sectorQ) ++
    (s.exch.controlQ.filter fun r => !r.begun && r.swept st) ++
    (if s.cred.enroll.isSome then s.exch.enrollQ.drop 1 else s.exch.enrollQ) ++ s.exch.followers.filter fun r => r.swept st

/-- Sector requests have ended: the idle timers of their volumes, if open, are reloaded, and no volume has changed otherwise
(R9). -/
def State.timersReloaded (s t : State) (rs : List Request) : Prop :=
  ∀ v, t.vol v =
    if rs.any fun r => r.kind.isSector && volOfIndex (r.byte 4).toNat = some v then (s.vol v).reloaded else s.vol v

/-- The buffers that a READ in progress has filled overwritten with zero bytes, when the status calls for it (R17, R94). -/
def State.zeroed (s : State) (st : Status) : State :=
  if !s.sector.write && st.zeroes then
    s.modExch fun x => { x with mem := zeroBuffers s.sector.firstBuf s.sector.done x.mem }
  else s

/-- The guard's report of an order (R4): the volumes section shows the table as it stands, and when it was changed the VOLUME
flag is set; an order that changes nothing shown leaves the flag as it was. Before the records are loaded the section stays as it
was. -/
def State.volumesReported (s t : State) : Prop :=
  (t.page.volumes = s.page.volumes → t.attending .volume = s.attending .volume) ∧
    if s.startUp.next = 2 then t.page.volumes = s.page.volumes
    else s.rewritten t .volumes ∧ (t.page.volumes ≠ s.page.volumes → t.attending .volume = true)

/-- The active sector request for a volume that an order takes out of OPEN or OPEN_RO (R17): with nothing of it in flight it has
ended LOCKED_DURING, what a READ has filled zeroed; a command in flight runs to its reply with its end decided. -/
def State.lockedDuring (s t : State) (v : Vol) : Prop :=
  Memory.wf s.exch.mem = true → (s.vol v).isOpen = true → s.sector.vol = v → ∀ r, s.sectorHead = some r →
    (s.sector.phase = .waitingGrant ∨ s.sector.phase = .checking →
      t.sector.phase = .idle ∧ (s.zeroed .lockedDuring).completed t r .lockedDuring s.sector.done []) ∧
    (s.sector.phase = .inFlight → t.sector = { s.sector with ended := some (s.sector.ended.getD .lockedDuring) })

/-- The command in flight of a sector request whose end was not decided before is no longer wanted: should it fail, it is not
reissued (R17, R98). -/
def State.commandWithdrawn (s t : State) : Prop :=
  s.sector.phase = .inFlight → s.sector.ended = none →
    t.link.inFlight = s.link.inFlight.map fun f => { f with withdrawn := true }

/-- Every volume of a set that was open is locked; every other one is as it was (R7, R8). -/
def State.locks (s t : State) (m : VolSet) : Prop :=
  ∀ v, t.vol v = if inSet m v && (s.vol v).isOpen then (s.vol v).shut .locked else s.vol v

/-- A record stands with the store, its commit in progress or to come, and an owner waits for it; a store that has stopped
takes none (R146, R148). -/
def State.awaits (t : State) (r : Rec) (w : Waiter) : Prop :=
  t.storeTakes = true → ∃ q ∈ t.store.current.toList ++ t.store.queue ++ t.store.room, q.data = r ∧ w ∈ q.waiters

/-- A record stands with the store; nobody need wait for it (R146). -/
def State.queued (t : State) (r : Rec) : Prop :=
  t.storeTakes = true → ∃ q ∈ t.store.current.toList ++ t.store.queue ++ t.store.room, q.data = r

/-- The engine has taken a signal or a report that sets a hold, which `g` sets (R110, R125, R126): when it did not stand before, a
pending request is withdrawn and the checkpoint queued, or left for the reply of a command in flight. In HALTED the hold is set and
the request withdrawn, and nothing is queued and no section but the link's rewritten (R132, R137). -/
def State.holdTaken (s t : State) (stands : Bool) (g : Erase → Erase) : Prop :=
  (s.device ≠ .halted → stands = false →
      (s.erase.flying = none → t.link.engineAsks = false ∧ ∀ e, s.eraseHead = some e → t.queued (.checkpoint e.checkpoint)) ∧
        (s.erase.flying ≠ none → t.erase.due = true)) ∧
    (s.device = .halted →
      { t.erase with inbox := [] } = { g s.erase with inbox := [] } ∧
        (stands = false → t.link.engineAsks = false ∧ t.link.granted ≠ some .engine) ∧
        s.sameBut (.eraseRest :: (granting ++ showing)) t)

/-- Two arrays hold the same record of a name. -/
def NvArray.sameAt (m n : NvArray) : RecId → Prop
  | .policy => m.policy = n.policy
  | .slot i => m.slots[i] = n.slots[i]
  | .volume v => m.volumes[v] = n.volumes[v]
  | .domain .normal => m.normal = n.normal
  | .domain .recovery => m.recovery = n.recovery
  | .eraseList => m.eraseList = n.eraseList
  | .checkpoint => m.checkpoint = n.checkpoint
  | .device => m.device = n.device

/-! ### The acceptance of a trigger (R111, R112, R113) -/

/-- A trigger passes a volume by: its column of R111 says so, or a merge changes nothing. -/
def State.skips (s : State) (x : AcceptSource) (wipe : Bool) (plan : Plan) (v : Vol) : Bool :=
  s.walk x v = .pass || (s.walk x v = .merge && mergeInto v plan wipe s.erase.list = s.erase.list)

/-- Those volumes that a trigger merges. -/
def State.mergedAmong (s : State) (x : AcceptSource) (vs : List Vol) : VolSet :=
  (vs.filter fun v => s.walk x v = .merge).foldl (fun m v => m ||| single v) 0

/-- A trigger has been taken and has come to the first volume that must wait: one accepted has its lock ordered and its wrap
entries' removal (R112), for a merge the list has changed and its commit is awaited (R113). -/
def State.accepts (s t : State) (x : AcceptSource) (wipe : Bool) (plan : Plan) (vs : List Vol) : Prop :=
  ∀ skipped v rest, vs = skipped ++ v :: rest → (∀ u ∈ skipped, s.skips x wipe plan u = true) →
    (s.walk x v = .accept →
      t.guard.inbox = s.guard.inbox ++ [.lock (single v)] ∧ t.cred.inbox = s.cred.inbox ++ [.removal v] ∧
        t.erase.list = s.erase.list ∧
        t.erase.job = .accept
          { source := x, wipe := wipe, plan := plan, todo := rest, merged := s.mergedAmong x skipped, stage := .removal v }) ∧
    (s.walk x v = .merge → mergeInto v plan wipe s.erase.list ≠ s.erase.list →
      t.erase.list = mergeInto v plan wipe s.erase.list ∧ t.awaits (.eraseList t.erase.list) .engine ∧
        ∃ b, t.erase.job = .accept
          { source := x, wipe := wipe, plan := plan, todo := rest, merged := s.mergedAmong x (skipped ++ [v])
            stage := .merge b })

/-! ### Laws that every step keeps -/

/-- The exchange memory is in canonical form. -/
def State.memOk (s : State) : Bool := Memory.wf s.exch.mem

/-- A volume holds a media key exactly while it is OPEN or OPEN_RO, and its register is zero otherwise (R3). -/
def Volume.keyOk (v : Volume) : Bool := v.keyHeld = v.isOpen && (v.isOpen || v.key = 0)

/-- Every volume's key register obeys R3. -/
def State.keysOk (s : State) : Bool := allVols.all fun v => (s.vol v).keyOk

/-- While the admin window is CLOSED the admin key register holds zero bytes (R36). -/
def State.windowOk (s : State) : Bool := s.cred.window.isSome || s.cred.adminKey = 0

/-- A verification and an enrollment are never in progress together (R29). -/
def State.workOk (s : State) : Bool := s.cred.verify.isNone || s.cred.enroll.isNone

/-- The key queue holds at most eight events (R71). -/
def State.keyQueueOk (s : State) : Bool := s.keypad.queue.length ≤ 8

/-- The commit queue holds at most eight records, and no record stands twice among those queued and those that wait for
room (R146). -/
def State.commitsOk (s : State) : Bool :=
  s.store.queue.length ≤ 8 && ((s.store.queue ++ s.store.room).map fun q => q.data.id).Nodup

/-- The kind queues are within their capacities (R165). -/
def State.queuesOk (s : State) : Bool :=
  s.exch.sectorQ.length ≤ 4 && s.exch.controlQ.length ≤ 4 && s.exch.enrollQ.length ≤ 1

/-- The erase list holds no volume twice and every WIPE entry ahead of every REQUEST entry (R109). -/
def State.listOk (s : State) : Bool :=
  (s.erase.list.map EraseEntry.vol).Nodup && ofOrigin true s.erase.list ++ ofOrigin false s.erase.list = s.erase.list

/-- The recovery count is 0 outside RECOVERING and at most 100 (R139). -/
def State.supplyOk (s : State) : Bool := s.supply.count ≤ 100 && (s.supply.cond = .recovering || s.supply.count = 0)

/-- A domain that is READY has no remaining time and no step, and no lockout is longer than 36000 s (R48, R55). -/
def DomainState.ok (d : DomainState) : Bool :=
  d.left ≤ 36000 && d.inputs.cap ≤ 36000 && (d.lockedOut || (d.left = 0 && d.step = 0))

/-- Both domains obey R48. -/
def State.domainsOk (s : State) : Bool := s.lockout.normal.ok && s.lockout.recovery.ok

/-! ### RESET -/

/-- The commands that end or begin the part's work: RESET, loss of power, and start-up. -/
def resets : Instr → Bool
  | .resetAssert _ => true
  | .powerLoss _ => true
  | .startUp _ => true
  | _ => false

/-- The commands that tell of something outside the part that is there even while it stands still: the keys' contacts and
the die's temperature. -/
def tellsOutside : Instr → Bool
  | .keyScan _ => true
  | .temperatureSample _ => true
  | _ => false

end Sys2Proof.Machine
end

