-- ==== Sys2Proof/Certificates/Slice0/Obligations.lean ====
section
/-! DEFINITION. The statements for the provers: the queue of commands, the laws that every step keeps, and for each family of
commands what they do and what they leave as it was. -/

open Sys2Proof Sys2Proof.Machine

/-! ### Steps -/

/-- A step with a command at the front of the queue is that command's effect on the state with the queue's rest. -/
def Obligations.StepRunsFrontCommand : Prop :=
  ∀ (c : Instr) (s : State), step { s with pending := c :: s.pending } = exec c s

/-- Every command, taken in any state, ends in a next state and leaves the queue of commands as it was: nothing is
refused and nothing stops the part. That a command with nothing to take changes nothing, and that none is refused, is
the model's choice (logs 3 and 23). -/
def Obligations.CommandsCompleteAndLeaveTheQueue : Prop :=
  ∀ (c : Instr) (s : State), ∃ t, exec c s = .next t ∧ t.pending = s.pending

/-- While the part is held in RESET or without power, every command but RESET, loss of power and start-up is without
effect (the contacts and the die's temperature, which are outside it, may change), nothing happens by itself, no
transaction is answered, and ALERT and the indicators are off (R150, R181). That the contacts and the temperature are
kept, and that a stopped part does not tick, is the model's choice (logs 34 and 2). -/
def Obligations.StoppedPartDoesNothing : Prop :=
  ∀ s : State, s.alive = false →
    (∀ c : Instr, resets c = false → tellsOutside c = false → exec c s = .next s) ∧
    (∀ levels, exec (.keyScan levels) s = .next { s with keypad := { s.keypad with contacts := levels } }) ∧
    (∀ x, exec (.temperatureSample x) s = .next { s with temp := { s.temp with sensor := x } }) ∧
    (s.pending = [] → step s = .next s) ∧
    (∀ a, s.portRead a = none) ∧ (∀ n, s.regRead n = none) ∧ s.alertLevel = 0 ∧ s.indicators = (false, false, false)

/-- HALTED is left by RESET, loss of power or start-up alone: any other step, of a command or of the part by itself,
leaves the device HALTED (R148, R14). -/
def Obligations.HaltedIsLeftByResetAlone : Prop :=
  ∀ s t : State, s.device = .halted → (∀ c rest, s.pending = c :: rest → resets c = false) → step s = .next t →
    t.device = .halted

/-! ### Laws that every step keeps -/

/-- Every step keeps the exchange memory in canonical form. -/
def Obligations.MemoryStaysCanonical : Prop :=
  ∀ s t : State, s.memOk = true → step s = .next t → t.memOk = true

/-- Every step keeps each media key register loaded exactly while its volume is OPEN or OPEN_RO, and zero otherwise
(R3). -/
def Obligations.MediaKeysOnlyInOpenVolumes : Prop :=
  ∀ s t : State, s.keysOk = true → step s = .next t → t.keysOk = true

/-- Every step keeps the admin key register zero while the admin window is CLOSED (R36), and a verification and an
enrollment from being in progress together (R29). -/
def Obligations.CredentialWorkStaysLegal : Prop :=
  (∀ s t : State, s.windowOk = true → step s = .next t → t.windowOk = true) ∧
  (∀ s t : State, s.workOk = true → step s = .next t → t.workOk = true)

/-- Every step keeps both domains within R48: a READY domain has no step and no remaining time, and no lockout is
longer than 36000 s. -/
def Obligations.DomainsStayLegal : Prop :=
  ∀ s t : State, s.domainsOk = true → step s = .next t → t.domainsOk = true

/-- Every step keeps the key queue at no more than eight events (R71), the kind queues within their capacities (R165),
the commit queue at no more than eight records with none queued twice (R146), and the recovery count at no more than
100, and at 0 outside RECOVERING (R139). -/
def Obligations.QueuesStayWithinTheirRoom : Prop :=
  (∀ s t : State, s.keyQueueOk = true → s.queuesOk = true → step s = .next t → t.keyQueueOk = true ∧ t.queuesOk = true) ∧
  (∀ s t : State, s.commitsOk = true → step s = .next t → t.commitsOk = true) ∧
  (∀ s t : State, s.supplyOk = true → step s = .next t → t.supplyOk = true)

/-- Every step keeps the erase list free of a second entry for a volume and its WIPE entries ahead of its REQUEST
entries (R109). -/
def Obligations.EraseListStaysOrdered : Prop :=
  ∀ s t : State, s.listOk = true → step s = .next t → t.listOk = true

/-- What the spec says of the part at the end of step 1: STARTING; every change counter 0; ATTN, ATTN_LVL and SCAN_CFG
0, IDENT 0C474601H; every request slot EMPTY and every byte zero; the take pointer 31; no volume open and every key
register zero; the window CLOSED and its key zero; no verification and no enrollment; the link DOWN with L 0; pause
and holds clear; the supply GOOD with recovery count 0 (R150, R175, R164, R23, R47, R102, R127, R139). The laws hold
after reset. That the reset state has a supply that reads good is the model's choice (log 1). -/
def Obligations.ResetState : Prop :=
  (let s := State.reset
   s.device = .starting ∧ (∀ x, (s.page.get x).counter = 0) ∧
     s.regRead 0 = some 0x0C474601 ∧ s.regRead 1 = some 0 ∧ s.regRead 2 = some 0 ∧ s.regRead 4 = some 0 ∧
     (∀ n k, s.slotByte n k = 0) ∧ s.exch.takePtr = 31 ∧ s.exch.held = 0 ∧ s.exch.scanPending = false ∧
     (∀ v, (s.vol v).isOpen = false ∧ (s.vol v).key = 0 ∧ (s.vol v).keyHeld = false ∧ (s.vol v).openedBy = none) ∧
     s.cred.window = none ∧ s.cred.adminKey = 0 ∧ s.cred.verify = none ∧ s.cred.enroll = none ∧
     s.link.state = .down ∧ s.link.losses = 0 ∧ s.link.sectorAsks = false ∧ s.link.engineAsks = false ∧
     s.erase.pause = false ∧ s.erase.supplyHold = false ∧ s.erase.linkHold = false ∧ s.erase.thermalHold = false ∧
     s.supply = { cond := .good, count := 0 } ∧ s.temp.cond = .normal ∧ s.temp.last = none ∧ s.alertLevel = 0) ∧
  (State.reset.memOk = true ∧ State.reset.keysOk = true ∧ State.reset.windowOk = true ∧ State.reset.workOk = true ∧
     State.reset.domainsOk = true ∧ State.reset.keyQueueOk = true ∧ State.reset.queuesOk = true ∧
     State.reset.commitsOk = true ∧ State.reset.listOk = true ∧ State.reset.supplyOk = true)

/-! ### Reset and start-up -/

/-- RESET_ASSERT and POWER_LOSS: everything volatile is lost, and of the array no record changes but the one whose
commit is cut off (R150, R181, R147). START_UP then: the part is at the end of step 1 with its array as it was; a
supply comparator that reads low there raises a warning, handed to all nine blocks (R150, R139). What is outside the
part stays: the commands, the random generator, the contacts and the die's temperature (the model's choice of log 34).
What a cut commit leaves is an operand (log 8). -/
def Obligations.ResetAndStartUp : Prop :=
  (∀ (s : State) (cut : Cut),
      let kept (p : PowerState) : State :=
        { State.reset with
          pending := s.pending
          draws := s.draws
          power := p
          store := { State.reset.store with nv := s.cutArray cut }
          keypad := { State.reset.keypad with contacts := s.keypad.contacts }
          temp := { State.reset.temp with sensor := s.temp.sensor } }
      (s.power ≠ .off → exec (.resetAssert cut) s = .next (kept .inReset)) ∧
        exec (.powerLoss cut) s = .next (kept .off) ∧
        (s.store.current = none → s.cutArray cut = s.store.nv) ∧
        ∀ q i, s.store.current = some q → q.data.id ≠ i → (s.cutArray cut).sameAt s.store.nv i) ∧
  (∀ (s : State) (supplyGood : Bool), s.alive = false →
      let fresh : State :=
        { State.reset with
          pending := s.pending
          draws := s.draws
          store := { State.reset.store with nv := s.store.nv }
          keypad := { State.reset.keypad with contacts := s.keypad.contacts }
          temp := { State.reset.temp with sensor := s.temp.sensor } }
      ∃ t, exec (.startUp supplyGood) s = .next t ∧
        if supplyGood then t = fresh
        else
          t.supply = { cond := .warning, count := 0 } ∧ t.attending .supply = true ∧ fresh.handed t .warning ∧
            fresh.rewritten t .device ∧ fresh.sameBut (([.supply, .attn, .pageDevice] : List Part) ++ handing) t)

/-- LOAD_RECORDS: step 2 takes each record as it reads, an intact one as it stands and a damaged one by its default (a
damaged DEVICE record: capacity 0, and provisioned when a slot is occupied or a volume is not ABSENT), strikes from
every wrap list the volumes that are ABSENT, ERASING or BLANK, and leaves an erase list of exactly the ERASING volumes:
each stored entry as it stood, a missing one FULL and WIPE with the options of the policy, the head at the cursor of an
intact CHECKPOINT record that names it, or at its first pass after a damaged one. The damaged POLICY, DEVICE and DOMAIN
records are written back, and any damage sets STORE attention. The repairs are committed: each slot that wrap healing has
changed, the erase list when it was rebuilt, extended or lost an entry, the CHECKPOINT of the head, or of no head when start-up
ended the last entry; an entry so ended sets ERASE attention (R151, R152, R127). That such an entry leaves the list at once is
deduced (log 37); that a volume with a damaged record keeps, beside its extent, the other fields as read is the model's choice
(log 77). -/
def Obligations.LoadingTheRecords : Prop :=
  ∀ s : State, s.stepDue 2 = true →
    ∃ t, exec .loadRecords s = .next t ∧ t.startUp.next = 3 ∧ t.store.damage = s.store.nv.damage ∧
      t.store.policy = (if s.store.nv.policy.ok then s.store.nv.policy.val else Policy.defaults) ∧
      t.store.device =
        (if s.store.nv.device.ok then s.store.nv.device.val
         else
          { provisioned := (allSlots.any fun i => (loadSlot s.store.nv.slots[i]).role ≠ .empty) ||
              allVols.any fun v => (loadVolume s.store.nv.volumes[v]).data.state ≠ .absent
            capacity := 0 }) ∧
      t.link.capacity = t.store.device.capacity ∧
      (∀ v, t.vol v = loadVolume s.store.nv.volumes[v]) ∧
      (∀ i,
        let c := loadSlot s.store.nv.slots[i]
        let struck (v : Vol) : Bool :=
          (t.vol v).data.state = .absent || (t.vol v).data.state = .erasing || (t.vol v).data.state = .blank
        t.cslot i =
          { c with
            wraps := c.wraps.filter fun e => !struck e.vol
            bind := if c.role = .user ∨ c.role = .admin ∨ c.role = .recovery then
                c.bind &&& ~~~(Sys2Proof.Machine.setOf fun v => struck v && c.wraps.any fun e => e.vol = v)
              else c.bind }) ∧
      (let loaded (x : Stored DomainRec) (a : Nat) (inputs : Sampled) : DomainState :=
         { f := if x.ok then x.val.f else min (max a 1) 15, flag := x.ok && x.val.flag, lockedOut := false, left := 0, step := 0
           inputs := inputs }
       t.domain .normal = loaded s.store.nv.normal t.store.policy.normal.a (s.domain .normal).inputs ∧
         t.domain .recovery = loaded s.store.nv.recovery t.store.policy.recovery.a (s.domain .recovery).inputs) ∧
      t.listOk = true ∧ (∀ v, (t.eraseEntry v).isSome = true ↔ (t.vol v).data.state = .erasing) ∧
      (∀ v e, t.eraseEntry v = some e →
        let stored := if s.store.nv.eraseList.intact listSound then s.store.nv.eraseList.val else []
        let base : EraseEntry := match stored.find? fun x => x.vol = v with
          | some x => { x with begun := 0 < x.nextStripe }
          | none =>
            { vol := v, plan := .full, wipe := true, stopOnFault := t.store.policy.stopOnFault
              share := max 1 (min t.store.policy.eraseShare 8), action := actionOf t.store.policy.action
              passes := [.key, .fill, .verify, .discard], passIndex := 1, nextStripe := 0, begun := false, suspects := 0
              mismatches := 0 }
        let x := s.store.nv.checkpoint
        e = if (t.eraseHead.any fun h => h.vol = v) = false then base
          else if x.ok = false ∨ 4 < x.val.passIndex then
            { base with passIndex := 1, nextStripe := 0, begun := false, suspects := 0, mismatches := 0 }
          else if x.val.vol = some v then
            { base with
              passIndex := x.val.passIndex, nextStripe := x.val.nextStripe, begun := 0 < x.val.nextStripe
              suspects := x.val.suspects, mismatches := x.val.mismatches }
          else base) ∧
      (s.store.nv.policy.ok = false → t.queued (.policy t.store.policy)) ∧
      (s.store.nv.device.ok = false → t.queued (.device t.store.device)) ∧
      (s.store.nv.normal.ok = false → t.queued (t.domainRec .normal)) ∧
      (s.store.nv.recovery.ok = false → t.queued (t.domainRec .recovery)) ∧
      (s.store.nv.damage ≠ 0 → t.attending .store = true) ∧
      (∀ i, t.cslot i ≠ loadSlot s.store.nv.slots[i] → t.queued (.slot i (t.cslot i))) ∧
      (let stored := if s.store.nv.eraseList.intact listSound then s.store.nv.eraseList.val else []
       let stateOf (e : EraseEntry) : VState := (t.vol e.vol).data.state
       let dropped : Prop := ∃ e ∈ stored, stateOf e ≠ .erasing
       let ended : Prop := ∃ e ∈ stored, stateOf e ≠ .erasing ∧ stateOf e ≠ .blank
       let added : Prop := ∃ v, (t.vol v).data.state = .erasing ∧ ∀ e ∈ stored, e.vol ≠ v
       (s.store.nv.eraseList.intact listSound = false ∨ dropped ∨ added → t.queued (.eraseList t.erase.list)) ∧
         (∀ h, t.eraseHead = some h → t.queued (.checkpoint h.checkpoint)) ∧
         (ended → t.attending .erase = true ∧ (t.erase.list = [] → t.queued (.checkpoint {})))) ∧
      s.sameBut (([.startUp, .slots, .volumes, .domains, .link, .eraseList, .commits, .storeRest, .attn, .pageDevice,
        .pageVolumes, .pageWindow, .pageErase, .pageLink] : List Part) ++ showing) t

/-- ORPHAN_CHECK: the LOCKED and FAULT volumes that no wrap list names are handed to the erase engine as one WIPE
trigger with the wipe plan, and step 4 is due; without one there is no trigger. The trigger is taken in its turn among the
engine's events: at once when nothing holds the engine and nothing waits there, else it stands behind what waits and a later
ORPHAN_CHECK takes it when it has come to the front. Each volume is then accepted that is LOCKED or FAULT and not in the list
already. In HALTED the trigger is discarded (R153, R110, R111, R117). -/
def Obligations.OrphansAreWiped : Prop :=
  ∀ s : State, s.alive = true →
    let next4 : StartUp := { s.startUp with next := 4 }
    let taken (t : State) (vs : List Vol) : Prop :=
      s.accepts t .orphan true s.wipePlan vs ∧
        s.sameBut (([.startUp, .eraseList, .eraseRest, .commits, .storeRest, .guardInbox, .credInbox] : List Part) ++ granting ++
          showing) t
    (∀ v, v ∈ s.orphans ↔
      ((s.vol v).data.state = .locked ∨ (s.vol v).data.state = .fault) ∧ ∀ i, (s.cslot i).names v = false) ∧
    (∀ v ∈ s.orphans, s.walk .orphan v = if (s.eraseEntry v).isSome then .pass else .accept) ∧
    (s.stepDue 3 = true →
      (s.orphans = [] → s.orphansTaken = true → exec .orphanCheck s = .next { s with startUp := next4 }) ∧
      (s.orphans ≠ [] → s.engineFree = true → s.erase.inbox = [] →
        ∃ t, exec .orphanCheck s = .next t ∧ t.startUp = next4 ∧ taken t s.orphans) ∧
      (s.orphans ≠ [] → s.engineFree = false ∨ (∃ e rest, s.erase.inbox = e :: rest ∧ e.isOrphans = false) →
        exec .orphanCheck s =
          .next { s with
            startUp := next4, erase := { s.erase with inbox := s.erase.inbox ++ [.orphans s.orphans] } })) ∧
    (s.stepDue 3 = false →
      (s.engineFree = false ∨ s.erase.inbox = [] ∨ (∃ e rest, s.erase.inbox = e :: rest ∧ e.isOrphans = false) →
        exec .orphanCheck s = .next s) ∧
      ∀ vs rest, s.engineFree = true → s.erase.inbox = .orphans vs :: rest →
        ∃ t, exec .orphanCheck s = .next t ∧ t.startUp = s.startUp ∧
          (s.device = .halted → t.erase = { s.erase with inbox := rest } ∧ s.sameBut (.eraseInbox :: showing) t) ∧
          (s.device ≠ .halted → taken t vs))

/-- LOCKOUT_EXAMINATION: each domain, NORMAL first, with its inputs sampled: at its wipe threshold the brute-force
trigger goes to the engine and its acceptance is awaited; with its flag set and its count above A a lockout starts
afresh; with its flag set and its count at most A the flag is cleared. With no wipe, step 5 is due. A wipe triggered
again and a lockout restarted set LOCKOUT attention. It waits until the engine has taken the trigger of step 3 (R62, R154,
R61). That it does not wait for the events in the unit's inbox is the model's choice (log 78). -/
def Obligations.LockoutExamination : Prop :=
  (∀ s : State, s.orphansTaken = false → exec .lockoutExamination s = .next s) ∧
  ∀ s : State, s.stepDue 4 = true → s.startUp.examining = none → s.lockoutFree = true → s.engineFree = true →
    s.orphansTaken = true →
    let inputs (d : Domain) : Sampled := sampleInputs (s.store.policy.domain d)
    let wipes (d : Domain) : Prop := (inputs d).w ≠ 0 ∧ (inputs d).w ≤ (s.domain d).f
    let examined (d : Domain) : DomainState :=
      let x : DomainState := { s.domain d with inputs := inputs d }
      if x.flag ∧ x.inputs.a < x.f then
        { x with
          step := x.f - x.inputs.a, left := min (x.inputs.b * 2 ^ (x.f - x.inputs.a - 1)) x.inputs.cap, lockedOut := true
          flag := true }
      else { x with flag := false }
    ∃ t, exec .lockoutExamination s = .next t ∧
      (wipes .normal → t.startUp.examining = some .normal ∧ t.lockout.wait = .wipe .normal ∧
        t.erase.inbox = s.erase.inbox ++ [.brute] ∧ t.attending .lockout = true) ∧
      (∀ d, ¬wipes .normal → ¬wipes d → (s.domain d).flag = true → (inputs d).a < (s.domain d).f →
        t.attending .lockout = true) ∧
      (¬wipes .normal → t.domain .normal = examined .normal ∧
        ((s.domain .normal).flag = true → t.queued (t.domainRec .normal)) ∧
        (wipes .recovery → t.startUp.examining = some .recovery ∧ t.lockout.wait = .wipe .recovery ∧
          t.erase.inbox = s.erase.inbox ++ [.brute] ∧ t.attending .lockout = true) ∧
        (¬wipes .recovery → t.domain .recovery = examined .recovery ∧ t.startUp.next = 5 ∧ t.startUp.examining = none ∧
          ((s.domain .recovery).flag = true → t.queued (t.domainRec .recovery)) ∧ s.rewritten t .domains)) ∧
      s.sameBut (([.startUp, .domains, .lockoutRest, .eraseInbox, .commits, .storeRest, .attn, .pageDomains] : List Part) ++ showing) t

/-- LEAVE_STARTING: step 6 begins under a good supply, and a warning that comes then does not stop it; it waits while
anything that steps 2 to 5 began is left. Once every commit has landed, with an ADMIN slot and an unprovisioned DEVICE
record, the record is first set provisioned and its commit awaited; otherwise the part leaves STARTING at once for
READY or UNPROVISIONED, the keypad is scanned, the first temperature sample is taken, a link in FAULT sets the link
hold, an engine that is RUNNING then runs, asking for the link for the stripe at its head's cursor (R127, R110, R118), and the
pending scan is made: the slots visited once each from the one after the take pointer, unless a supply warning stands (R155,
R156, R162, R164). -/
def Obligations.LeavingStarting : Prop :=
  ∀ (s : State) (sensor : Int), s.alive = true → s.device = .starting → s.startUp.next = 6 →
    s.supply.cond = .good ∨ s.startUp.sixBegun = true →
    (s.workDone = false ∨ s.startUp.deviceCommit = true →
      exec (.leaveStarting sensor) s = .next { s with startUp := { s.startUp with sixBegun := true } }) ∧
    (s.workDone = true → s.startUp.deviceCommit = false →
      if s.adminSlot && !s.store.device.provisioned then
        ∃ t, exec (.leaveStarting sensor) s = .next t ∧
          t.device = .starting ∧ t.startUp = { s.startUp with sixBegun := true, deviceCommit := true } ∧
          t.store.device = { s.store.device with provisioned := true } ∧ t.awaits (.device t.store.device) .startUp ∧
          s.sameBut [.temp, .startUp, .commits, .storeRest] t
      else
        ∃ u : State, exec (.leaveStarting sensor) s =
            .next (if s.exch.scanPending && !s.exch.warned then u.scanned.settle else u.settle) ∧
          u.device = (if s.adminSlot || s.store.device.provisioned then .ready else .unprovisioned) ∧
          u.startUp = { s.startUp with next := 0, sixBegun := false, deviceCommit := false } ∧
          u.keypad.scanning = true ∧ u.keypad.settings = keySettings s.store.policy ∧
          u.temp.last = some (max (-40) (min sensor 125)) ∧
          u.erase.linkHold = (s.erase.linkHold || s.link.state = .fault) ∧
          ({ s with device := u.device, erase := { s.erase with linkHold := u.erase.linkHold } } : State).ran u ∧
          u.exch.scanPending = (s.exch.scanPending && s.exch.warned) ∧ u.exch.takePtr = s.exch.takePtr ∧
          s.rewritten u .device ∧
          s.sameBut [.device, .startUp, .scanner, .assembler, .temp, .attn, .eraseInbox, .pageTemperature, .pageDevice,
            .eraseRest, .pageErase, .link, .pageLink, .commits, .storeRest, .guardInbox, .scanRegs] u)

/-! ### The supply monitor and its signals -/

/-- SUPPLY_WARNING, SUPPLY_RISE and SUPPLY_RECOVERY: a fall in GOOD raises one warning to all nine blocks with SUPPLY
attention; a fall in RECOVERING goes back to WARNING and raises none; a rise begins the count at 0; when the count
reaches 100 the supply is GOOD, with SUPPLY attention and the recovery handed to all nine blocks, and not before (R140,
R141). Every change rewrites the device section (R142; where R140 says otherwise of the fall in RECOVERING, the model
follows R142, log 35). What counts the milliseconds is said with KEY_SCAN (log 5). -/
def Obligations.SupplyConditionChanges : Prop :=
  ∀ s : State, s.alive = true →
    (s.supply.cond = .good → ∃ t, exec .supplyWarning s = .next t ∧ t.supply = { cond := .warning, count := 0 } ∧
      t.attending .supply = true ∧ s.handed t .warning ∧ s.rewritten t .device ∧
      s.sameBut (([.supply, .attn, .pageDevice] : List Part) ++ handing) t) ∧
    (s.supply.cond = .recovering → ∃ t, exec .supplyWarning s = .next t ∧ t.supply = { cond := .warning, count := 0 } ∧
      s.rewritten t .device ∧ s.sameBut [.supply, .pageDevice] t) ∧
    (s.supply.cond = .warning → ∃ t, exec .supplyRise s = .next t ∧ t.supply = { cond := .recovering, count := 0 } ∧
      s.rewritten t .device ∧ s.sameBut [.supply, .pageDevice] t) ∧
    (s.supply.cond ≠ .recovering ∨ s.supply.count < 100 → exec .supplyRecovery s = .next s) ∧
    (s.supply.cond = .recovering → 100 ≤ s.supply.count →
      ∃ t, exec .supplyRecovery s = .next t ∧ t.supply = { cond := .good, count := 0 } ∧
      t.attending .supply = true ∧ s.handed t .recovery ∧ s.rewritten t .device ∧
      s.sameBut (([.supply, .attn, .pageDevice] : List Part) ++ handing) t)

/-- WARNING_TAKEN at each block: what waits in the exchange unit ends POWER; the guard locks every volume; the
credential unit closes the window, ends an enrollment that has not queued its record and abandons a verification; the
lockout unit goes on; the keypad unit empties its queue and discards a NORMAL or recovery entry; the sector path ends
its request POWER, at once when nothing of it is in flight; the link drops its requests and stops probing; the engine
takes its supply hold, its checkpoint queued, in HALTED the hold alone (log 67); the store stands warned (R171, R14, R47, R63, R83, R94, R106, R125). A block takes it in its arrival
order among its orders and events: a block that is held, or at which an older one waits, does not take it yet (R140, R4,
R29, R49, R110, R83). That a grant not yet used is taken back, and that a charge still awaited is waited for, is deduced
(logs 12 and 32); so is the order of the acts at the credential unit (log 50). That a CANCEL which waits for a held credential unit
has not been begun is the model's choice (log 75). -/
def Obligations.WarningAtEachBlock : Prop :=
  (∀ (b : Block) (s : State), s.takes b = false → exec (.warningTaken b) s = .next s) ∧
  ∀ (b : Block) (s : State) (rest : List Signal), s.alive = true → s.memOk = true → s.takes b = true →
    s.signalsAt b = .warning :: rest →
    ∃ t, exec (.warningTaken b) s = .next t ∧ s.signalTaken t b rest ∧
      match b with
      | .exchange =>
        t.exch.warned = true ∧ (∀ r ∈ s.waitingRequests .power, t.doneWith r.slot .power ∧ t.outOfQueues r.slot) ∧
          s.slotsOnly t ∧ s.timersReloaded t (s.waitingRequests .power) ∧
          s.sameBut (([.signals, .scanRegs, .volumes] : List Part) ++ completing ++ showing) t
      | .guard =>
        t.guard.warned = true ∧ s.locks t allSet ∧ s.volumesReported t ∧
          s.sameBut (([.guardFlags, .pageVolumes] : List Part) ++ sectorEnding ++ showing) t
      | .credential =>
        t.cred.warned = true ∧ t.cred.window = none ∧ t.cred.shutByWarning = s.cred.window.isSome ∧
          (s.cred.window.isSome = true → t.cred.adminKey = 0) ∧
          (∀ e, s.cred.enroll = some e → e.committed = false → t.cred.enroll = none ∧ s.completed t e.req .power 0 []) ∧
          (∀ v i x, s.cred.verify = some v → v.phase = .trying i x → t.cred.verify = none ∧ t.cred.deriv = none ∧
            t.lockout.inbox = s.lockout.inbox ++ [.noMatch v.domain]) ∧
          (∀ v, s.cred.verify = some v → v.phase = .charging → t.cred.verify = some { v with abandoned := true }) ∧
          (s.cred.window.isSome = true → s.rewritten t .window) ∧
          s.sameBut (([.credRest, .lockoutRest] : List Part) ++ enrollEnding ++ showing) t
      | .lockout =>
        t.lockout = { s.lockout with inbox := s.lockout.inbox.tail } ∧ s.sameBut (.lockoutRest :: showing) t
      | .keypad =>
        t.keypad.inbox = s.keypad.inbox.tail ∧ t.keypad.warned = true ∧ t.keypad.queue = [] ∧ t.keypad.marker = none ∧
          (s.keypad.asm.entering = true → t.keypad.asm = .idle ∧ t.keypad.buffer = [] ∧ t.keypad.timeout = none) ∧
          s.sameBut (([.keypadInbox, .keyQueue, .keyOrder, .assembler] : List Part) ++ showing) t
      | .sector =>
        t.sector.warned = true ∧
          (s.sector.phase = .inFlight → t.sector.phase = .inFlight ∧ t.sector.ended = some (s.sector.ended.getD .power)) ∧
          (∀ r, s.sectorHead = some r →
            s.sector.phase = .deciding ∨ s.sector.phase = .waitingGrant ∨ s.sector.phase = .checking →
            t.sector.phase = .idle ∧ (s.zeroed .power).completed t r .power s.sector.done []) ∧
          s.sameBut (.signals :: (sectorEnding ++ showing)) t
      | .link =>
        t.link.warned = true ∧ t.link.sectorAsks = false ∧ t.link.engineAsks = false ∧ t.link.granted = none ∧
          t.link.losses = 0 ∧ t.link.probeLeft = none ∧ t.link.inFlight = s.link.inFlight ∧
          t.erase.inbox = s.erase.inbox.filter (· ≠ .grant) ∧ s.sameBut (.signals :: (granting ++ showing)) t
      | .engine =>
        t.erase.supplyHold = true ∧ s.holdTaken t s.erase.supplyHold (fun e => { e with supplyHold := true }) ∧
          t.erase.inbox.filter (· ≠ .grant) = s.erase.inbox.tail.filter (· ≠ .grant) ∧ s.sameBut (engineStopping ++ showing) t
      | .store =>
        t.store = { s.store with warned := true } ∧ s.sameBut (([.signals, .storeRest] : List Part) ++ showing) t

/-- RECOVERY_TAKEN at each block: the exchange unit makes its pending scan (the slots visited once each from the one
after the take pointer) unless the device is STARTING; the guard takes open orders again; the engine's supply hold is
cleared, and an engine that is RUNNING then asks for the link (R110; in HALTED the hold is cleared and no more, log 67); the link, when it is READY and free, grants what stands asked for, one of two by the arbiter's decision, which
a WIPE head and a REQUEST head that has lost its share give to the engine, and, in FAULT, starts its probe timer (R141, R162,
R164, R14, R106, R125, R102, R103). That an engine answered with the warning
asks again at the link's recovery for a stripe it still wants is deduced (log 12); that with a probe in flight the probe timer
starts only when that probe fails is the model's choice (log 69). -/
def Obligations.RecoveryAtEachBlock : Prop :=
  ∀ (b : Block) (s : State) (rest : List Signal), s.alive = true → s.takes b = true →
    s.signalsAt b = .recovery :: rest →
    ∃ t, exec (.recoveryTaken b) s = .next t ∧ s.signalTaken t b rest ∧
      match b with
      | .exchange =>
        let u (pending : Bool) : State :=
          { s with
            signals := { s.signals with exchange := rest }, exch := { s.exch with warned := false, scanPending := pending } }
        t = if s.exch.scanPending && s.device ≠ .starting then (u false).scanned.settle else (u s.exch.scanPending).settle
      | .guard =>
        t.guard = { s.guard with warned := false, inbox := s.guard.inbox.tail } ∧
          s.sameBut (([.guardInbox, .guardFlags] : List Part) ++ showing) t
      | .credential =>
        t.cred = { s.cred with warned := false, inbox := s.cred.inbox.tail } ∧
          s.sameBut (([.credInbox, .credRest] : List Part) ++ showing) t
      | .lockout =>
        t.lockout = { s.lockout with inbox := s.lockout.inbox.tail } ∧ s.sameBut (.lockoutRest :: showing) t
      | .keypad =>
        t.keypad.warned = false ∧ t.keypad.inbox = s.keypad.inbox.tail ∧
          s.sameBut (([.keypadInbox, .keyOrder, .assembler] : List Part) ++ showing) t
      | .sector => t.sector = { s.sector with warned := false } ∧ s.sameBut (([.signals, .sector] : List Part) ++ showing) t
      | .link =>
        let engineWins : Bool := s.erase.list.head?.all fun h => h.wipe || h.share ≤ s.link.losses
        t.link.warned = false ∧ t.link.inFlight = s.link.inFlight ∧
          (s.link.inFlight ≠ none → t.link.probeLeft = s.link.probeLeft) ∧
          (s.link.state = .fault → s.device ≠ .halted → s.link.inFlight = none → t.link.probeLeft = some 1000) ∧
          (s.device = .halted ∨ s.link.open_ = false → t.link.granted = s.link.granted ∧ t.link.state = s.link.state) ∧
          (s.device ≠ .halted → s.link.open_ = true →
            (s.link.sectorAsks = true → t.link.state = .busy ∧
              if s.link.engineAsks && engineWins then t.link.granted = some .engine ∧ t.link.losses = 0
              else t.link.granted = some .sector ∧
                t.link.losses = if s.link.engineAsks then s.link.losses + 1 else s.link.losses) ∧
            (s.link.sectorAsks = false → s.link.engineAsks = true ∨ s.engineWants = true →
              t.link.state = .busy ∧ t.link.granted = some .engine ∧ t.link.losses = 0) ∧
            (s.link.sectorAsks = false → s.link.engineAsks = false → s.engineWants = false →
              t.link.granted = none ∧ t.link.state = .ready)) ∧
          (s.device ≠ .halted → s.engineWants = true → t.link.engineAsks = true ∨ t.link.granted = some .engine) ∧
          s.sameBut (.signals :: (granting ++ showing)) t
      | .engine =>
        t.erase.supplyHold = false ∧ t.erase.list = s.erase.list ∧
          ({ s with erase := { s.erase with supplyHold := false } } : State).ran t ∧
          (s.device = .halted → t.erase = { s.erase with supplyHold := false, inbox := s.erase.inbox.tail } ∧
            s.sameBut (([.eraseInbox, .eraseRest] : List Part) ++ showing) t) ∧
          s.sameBut (([.eraseRest, .pageErase, .guardInbox] : List Part) ++ granting ++ showing) t
      | .store => t.store = { s.store with warned := false } ∧ s.sameBut (([.signals, .storeRest] : List Part) ++ showing) t

/-- HALT_ORDER at each block: what waits in the exchange unit, but for an IDENTIFY or CANCEL taken in HALTED, ends
HALTED; the guard locks every volume; the credential unit ends its work and closes the window; the lockout unit's wait
for an acceptance ends; the keypad unit empties its queue and goes to IDLE; the sector path ends its request HALTED; the
link drops its requests and stops probing; the engine stops and a request it served ends HALTED (R171, R14, R47, R58,
R83, R94, R106, R132). A block takes it in its arrival order; but an engine in the midst of its step, and a lockout unit
that waits for an acceptance whose report has not come, take it ahead of what must wait (R132, R58). That a grant not yet
used is taken back, and that an ABORT and the end of an entry in progress stop like an acceptance, is deduced (logs 12 and
57). That a CANCEL which waits for a held credential unit has not been begun is the model's choice (log 75). -/
def Obligations.HaltAtEachBlock : Prop :=
  ∀ (b : Block) (s : State) (rest : List Signal), s.alive = true → s.memOk = true →
    (s.takes b = true ∧ s.signalsAt b = .halt :: rest) ∨
      (s.takes b = false ∧ s.haltsHeld b = true ∧ .halt ∈ s.signalsAt b ∧ rest = (s.signalsAt b).erase .halt) →
    ∃ t, exec (.haltOrder b) s = .next t ∧ s.signalTaken t b rest ∧
      match b with
      | .exchange =>
        (∀ r ∈ s.waitingRequests .halted, t.doneWith r.slot .halted) ∧ s.slotsOnly t ∧
          s.timersReloaded t (s.waitingRequests .halted) ∧
          (∀ r ∈ s.exch.controlQ, r.begun = false → r.late = true → (r.kind = .identify ∨ r.kind = .cancel) →
            (∀ x ∈ s.waitingRequests .halted, x.slot ≠ r.slot) → r ∈ t.exch.controlQ) ∧
          s.sameBut (([.signals, .volumes] : List Part) ++ completing ++ showing) t
      | .guard =>
        s.locks t allSet ∧ s.volumesReported t ∧ s.sameBut (.pageVolumes :: (sectorEnding ++ showing)) t
      | .credential =>
        t.cred.halted = true ∧ t.cred.verify = none ∧ t.cred.deriv = none ∧ t.cred.window = none ∧
          (s.cred.window.isSome = true → t.cred.adminKey = 0) ∧
          (∀ e, s.cred.enroll = some e → e.committed = false → t.cred.enroll = none ∧ s.completed t e.req .halted 0 []) ∧
          s.sameBut (.credRest :: (enrollEnding ++ showing)) t
      | .lockout =>
        t.lockout = { s.lockout with
          inbox := s.lockout.inbox.erase (.signal .halt), halted := true
          wait := match s.lockout.wait with
            | .wipe _ => .free
            | w => w } ∧
          s.sameBut (.lockoutRest :: showing) t
      | .keypad =>
        t.keypad.halted = true ∧ t.keypad.inbox = s.keypad.inbox.tail ∧
          t.keypad.queue = [] ∧ t.keypad.marker = none ∧ t.keypad.asm = .idle ∧ t.keypad.buffer = [] ∧
          t.keypad.timeout = none ∧ s.sameBut (([.keypadInbox, .keyQueue, .keyOrder, .assembler] : List Part) ++ showing) t
      | .sector =>
        (s.sector.phase = .inFlight → t.sector.phase = .inFlight ∧ t.sector.ended = some (s.sector.ended.getD .halted)) ∧
          (∀ r, s.sectorHead = some r →
            s.sector.phase = .deciding ∨ s.sector.phase = .waitingGrant ∨ s.sector.phase = .checking →
            t.sector.phase = .idle ∧ (s.zeroed .halted).completed t r .halted s.sector.done []) ∧
          s.sameBut (.signals :: (sectorEnding ++ showing)) t
      | .link =>
        t.link.sectorAsks = false ∧ t.link.engineAsks = false ∧ t.link.granted = none ∧ t.link.probeLeft = none ∧
          t.link.inFlight = s.link.inFlight ∧ t.erase.inbox = s.erase.inbox.filter (· ≠ .grant) ∧
          s.sameBut (.signals :: (granting ++ showing)) t
      | .engine =>
        t.erase.job = .none ∧ t.link.engineAsks = false ∧ t.erase.list = s.erase.list ∧
          (∀ r, s.erase.job.request = some r → s.completed t r .halted 0 []) ∧
          s.sameBut (([.eraseRest, .link, .pageLink] : List Part) ++ completing ++ showing) t
      | .store => s.sameBut (.signals :: showing) t

/-! ### The temperature monitor and its signals -/

/-- TEMPERATURE_SAMPLE: the reading is the conversion clamped to -40 to 125, the peak follows it, the thresholds are
taken from the POLICY record as it stands, the condition changes by the table, and a change sets THERMAL attention and
is handed to the erase engine, and to the guard when CRITICAL is entered or left (R133 to R138). -/
def Obligations.TemperatureSamples : Prop :=
  ∀ (s : State) (sensor : Int), s.alive = true → s.device ≠ .starting →
    let reading : Int := max (-40) (min sensor 125)
    let hot : Int := 60 + 5 * (min s.store.policy.hot 8 : Nat)
    let hyst : Int := 5 * ((min s.store.policy.hyst 3 : Nat) + 1)
    let cond : TempCond :=
      if 110 ≤ reading then .critical
      else if s.temp.cond = .critical ∧ hot - hyst < reading then .critical
      else if s.temp.cond = .hot ∧ hot - hyst < reading then .hot
      else if s.temp.cond = .normal ∧ hot ≤ reading then .hot
      else .normal
    let told : List Signal :=
      if cond = s.temp.cond then [] else [if cond = .critical then .critical else if cond = .hot then .hot else .release]
    ∃ t, exec (.temperatureSample sensor) s = .next t ∧
      t.temp = { cond := cond, last := some reading, peak := some (max reading (s.temp.peak.getD reading)), hot := hot
                 hyst := hyst, sensor := sensor } ∧
      t.erase.inbox = s.erase.inbox ++ told.map .signal ∧
      t.guard = { s.guard with
        inbox := s.guard.inbox ++ (if cond = .critical ∨ s.temp.cond = .critical then told.map .signal else []) } ∧
      (cond ≠ s.temp.cond → t.attending .thermal = true) ∧ (cond = s.temp.cond → t.exch.attn = s.exch.attn) ∧
      s.rewritten t .temperature ∧ s.sameBut [.temp, .attn, .guardInbox, .eraseInbox, .pageTemperature] t

/-- HOT_SIGNAL, CRITICAL_SIGNAL and RELEASE_SIGNAL: hot and critical set the engine's thermal hold, with its request
for the link withdrawn and its checkpoint queued, or left for the reply of a command in flight; critical also locks every volume
and has open orders refused; release takes both away, and an engine that is RUNNING then asks for the link for the stripe at its
head's cursor (R137, R125, R126, R110, R118, R5, R8). Each is taken in its arrival order among the orders of the guard and the
events of the engine: with an older one waiting, or the block held, it is not taken yet (R137, R4, R110). A
TEMPERATURE_SAMPLE while STARTING takes no reading (R133). The sensor's value, which a sample while STARTING records,
is the model's own field (log 34). In HALTED the three signals set and clear the thermal hold all the same (R137); that no
checkpoint is queued and no erase section rewritten for it there is deduced (log 67), and so is that the link, warned or in
HALTED, holds no request of the engine (log 12). -/
def Obligations.TemperatureSignals : Prop :=
  ∀ (s : State) (rest : List Signal), s.alive = true →
    (∀ sensor : Int, s.device = .starting →
      exec (.temperatureSample sensor) s = .next { s with temp := { s.temp with sensor := sensor } }) ∧
    let held (t : State) : Prop :=
      t.erase.thermalHold = true ∧ s.holdTaken t s.erase.thermalHold (fun e => { e with thermalHold := true }) ∧
        t.erase.list = s.erase.list ∧ s.signalTaken t .engine rest ∧ s.sameBut (engineStopping ++ showing) t
    (∀ b, s.takes b = false → exec (.criticalSignal b) s = .next s ∧ exec (.releaseSignal b) s = .next s) ∧
    (s.takes .engine = false → exec .hotSignal s = .next s) ∧
    (s.takes .engine = true → s.signalsAt .engine = .hot :: rest → ∃ t, exec .hotSignal s = .next t ∧ held t) ∧
    (s.takes .engine = true → s.signalsAt .engine = .critical :: rest →
      ∃ t, exec (.criticalSignal .engine) s = .next t ∧ held t) ∧
    (s.takes .guard = true → s.signalsAt .guard = .critical :: rest →
      ∃ t, exec (.criticalSignal .guard) s = .next t ∧ t.guard.critical = true ∧ s.locks t allSet ∧ s.volumesReported t ∧
        s.signalTaken t .guard rest ∧
        s.sameBut (([.guardFlags, .pageVolumes] : List Part) ++ sectorEnding ++ showing) t) ∧
    (s.takes .engine = true → s.signalsAt .engine = .release :: rest →
      ∃ t, exec (.releaseSignal .engine) s = .next t ∧ t.erase.thermalHold = false ∧
        ({ s with erase := { s.erase with thermalHold := false } } : State).ran t ∧
        (s.device = .halted → t.erase = { s.erase with thermalHold := false, inbox := s.erase.inbox.tail } ∧
          s.sameBut (([.eraseInbox, .eraseRest] : List Part) ++ showing) t) ∧
        t.erase.list = s.erase.list ∧ s.signalTaken t .engine rest ∧
        s.sameBut (([.eraseRest, .pageErase, .guardInbox] : List Part) ++ granting ++ showing) t) ∧
    (s.takes .guard = true → s.signalsAt .guard = .release :: rest →
      ∃ t, exec (.releaseSignal .guard) s = .next t ∧
        t.guard = { s.guard with critical := false, inbox := s.guard.inbox.tail } ∧
        s.signalTaken t .guard rest ∧ s.sameBut (([.guardInbox, .guardFlags] : List Part) ++ showing) t)

/-! ### The exchange port -/

/-- ATTN_WRITE clears each flag whose bit is written 1; ATTN_LVL_WRITE stores bits 15 to 0; SCAN_CFG_WRITE stores the
code and CONTINUOUS and starts the timer at the full interval when RUN is written with a code from 1 to 15, and stops
it otherwise; a write to IDENT or to registers 5 to 7 is discarded (R174, R175, R163). PORT_WORD_WRITE: the word is
written least significant byte first at the address with its two lowest bits ignored. The status page and the
addresses from 3000H on are left as they are, and so is the owner byte of a held slot (R159, R161). What a working part
answers: a register read gives IDENT, ATTN, ATTN_LVL, 0 for SCAN, SCAN_CFG and 0; a read of the exchange memory gives
each word least significant byte first, the status page by its sections, and zero from 3000H on; the ALERT lines show
the highest level among the flags that are set, 0 when there is none (R175, R159, R174). -/
def Obligations.PortWrites : Prop :=
  (∀ (s : State) (value : Word), s.alive = true →
      (∃ t, exec (.attnWrite value) s = .next t ∧ s.sameBut [.attn] t ∧
        ∀ a : Attn, t.attending a = (s.attending a && !value.getLsbD a.index)) ∧
      exec (.attnLvlWrite value) s = .next { s with exch := { s.exch with level := value.setWidth 16 } } ∧
      (let code : BitVec 4 := value.setWidth 4
       let run := value.getLsbD 4 && code ≠ 0
       exec (.scanCfgWrite value) s = .next
        { s with
          exch := { s.exch with
            scanCode := code, continuous := value.getLsbD 5, run := run
            scanLeft := if run then [0, 1, 2, 5, 10, 20, 50].getD code.toNat 100 else 0 } }) ∧
      ∀ reg, exec (.registerWriteOther reg value) s = .next s) ∧
  (∀ (s : State) (addr : BitVec 32) (value : Word), s.alive = true → s.memOk = true →
      let a := 4 * (addr.toNat / 4)
      ∃ t, exec (.portWordWrite addr value) s = .next t ∧ s.sameBut [.mem] t ∧
        ∀ x, readByte t.exch.mem x =
          if a ≤ x ∧ x < a + 4 ∧ x < 0x3000 ∧ ¬(0x800 ≤ x ∧ x < 0x1000) ∧
              ¬(x < 0x800 ∧ x % 0x40 = 0 ∧ s.exch.held.getLsbD (x / 0x40) = true) then
            BitVec.ofNat 8 (value.toNat / 256 ^ (x - a))
          else readByte s.exch.mem x) ∧
  (∀ s : State, s.alive = true →
      (∀ n : BitVec 3, s.regRead n =
        some (if n = 0 then 0x0C474601 else if n = 1 then s.exch.attn.setWidth 32 else if n = 2 then s.exch.level.setWidth 32
          else if n = 4 then
            BitVec.ofNat 32 (s.exch.scanCode.toNat + (if s.exch.run then 16 else 0) + (if s.exch.continuous then 32 else 0))
          else 0)) ∧
      (∀ addr : BitVec 32, ∃ w, s.portRead addr = some w ∧ ∀ k < 4, w.extractLsb' (8 * k) 8 =
        (let a := 4 * (addr.toNat / 4) + k
         if 0x3000 ≤ a then 0 else if 0x800 ≤ a ∧ a < 0x1000 then s.page.byte a else readByte s.exch.mem a)) ∧
      (∀ (x : Section) (i : Nat), i < x.range.2 →
        s.page.byte (x.range.1 + i) = (leBytes 2 (s.page.get x).counter.toNat ++ (s.page.get x).body).getD i 0) ∧
      (∀ a, (∀ x : Section, a < x.range.1 ∨ x.range.1 + x.range.2 ≤ a) → s.page.byte a = 0) ∧
      (let level (a : Attn) : Nat := (s.exch.level.extractLsb' (2 * a.index) 2).toNat
       (∀ a, s.attending a = true → level a ≤ s.alertLevel) ∧
         (s.alertLevel = 0 ∨ ∃ a, s.attending a = true ∧ s.alertLevel = level a)))

/-- SCAN_WRITE, whatever its value, and SCAN_TIMER_EXPIRY make a scan request: while STARTING or under a supply
warning it sets the scan-pending flag; otherwise a scan visits the 32 slots once each, from the slot after the take
pointer and wrapping. The timer starts again when CONTINUOUS is set and stops otherwise (R162, R163, R164). A scan at
one slot: a slot that is not POSTED, or is a follower, is passed over; a bad kind, a bad chain and, in HALTED, any
kind but IDENTIFY and CANCEL are completed at the take; otherwise the slot is TAKEN into its queue, unless the queue
is full or a follower waits for it (R164, R165, R168, R171). That a scan is one step, the order of the checks at a
take, the room of a kind, and that the expiry acts whenever the timer runs are the model's reading (logs 13, 11, 18,
36 and 5). -/
def Obligations.ScansTakePostedSlots : Prop :=
  (let requested (u t : State) : Prop :=
     if u.device = .starting ∨ u.exch.warned = true then t = { u with exch := { u.exch with scanPending := true } }
     else t = (scanOrder u.exch.takePtr).foldl State.scanSlot u
   (∀ (s : State) (value : Word), s.alive = true → ∃ t, exec (.scanWrite value) s = .next t ∧ requested s t) ∧
     (∀ s : State, s.alive = true → s.exch.run = true →
       ∃ t, exec .scanTimerExpiry s = .next t ∧
         requested
           { s with
             exch := { s.exch with
               run := s.exch.continuous
               scanLeft := if s.exch.continuous then [0, 1, 2, 5, 10, 20, 50].getD s.exch.scanCode.toNat 100 else 0 } } t) ∧
     ∀ p : RSlot, (scanOrder p).length = 32 ∧ (scanOrder p).Nodup ∧ ∀ k : Fin 32, (scanOrder p)[k.val]? = some (p + 1 + k)) ∧
  (∀ (s : State) (n : RSlot), s.memOk = true → s.exch.warned = false →
     let t := s.scanSlot n
     let ends (st : Status) : Prop := s.finished t n (s.slotOffset n) st 0 [] ∧ t.exch.takePtr = n
     let off := s.slotOffset n
     s.sameBut completing t ∧
     (s.posted n = false ∨ s.isFollower n = true → t = s) ∧
     (s.posted n = true → s.isFollower n = false →
       match s.slotKind n with
       | none => ends .badKind
       | some k =>
         if off ≠ 0 ∧ (off < -16 ∨ 15 < off ∨ (n.val : Int) + off < 0 ∨ 31 < (n.val : Int) + off) then ends .chainRange
         else if s.device = .halted ∧ k ≠ .identify ∧ k ≠ .cancel then ends .halted
         else if (s.exch.queue k.queue).length < k.queue.room ∧ ∀ r ∈ s.exch.followers, r.kind.queue ≠ k.queue then
           t.slotByte n 0 = 2 ∧ t.exch.held.getLsbD n.val = true ∧ t.exch.takePtr = n ∧
             (t.exch.queue k.queue).length = (s.exch.queue k.queue).length + 1 ∧
             (∃ begun, (t.exch.queue k.queue).getLast? =
               some { slot := n, kind := k, offset := off, params := readBytes s.exch.mem (slotAddr n + 4) 28
                      follower := false, cond := (s.slotByte n 3).extractLsb' 1 2, begun := begun
                      late := s.device = .halted }) ∧
             ∀ a, a ≠ slotAddr n → readByte t.exch.mem a = readByte s.exch.mem a
         else t = s))

/-- A completion settles the chain (R167): at a target that is a POSTED follower whose condition holds, the chain
result is 1 and the target is taken: with a bad kind, a chain out of range, a supply warning, or in HALTED (IDENTIFY and CANCEL
apart) it is DONE with that status; else it is TAKEN, in the held set, at the tail of its kind queue, or of the follower list
when that queue has no room or a follower waits for it; the take pointer does not move (R164, R168, R171). At a target whose
condition fails, or after SKIPPED, the result is 2 and the target ends SKIPPED, and so does a POSTED follower that its own
chain names, whatever its condition, its chain result being 2 then, 3 when it names anything else, and 0 without a chain. At
anything else it is 3 and the target keeps its owner. Then the completed slot leaves the queues: the oldest follower of a queue
that has room stands at its tail and has left the list (R168), and the control head that has not been begun is marked begun and
given once to its serving block (R165). That a bad kind goes before a bad chain, and both before the warning and HALTED, is
deduced (log 11), and so is that the room of a kind is the room of its kind queue, so that a follower which waits for a queue
keeps every kind of that queue out of it (log 36). -/
def Obligations.CompletionSettlesTheChain : Prop :=
  (∀ (s : State) (r : Request) (st : Status) (done : Nat) (results : List Byte), s.memOk = true →
    let t := s.complete r st done results
    let u := (State.settleChain chainRounds r.slot r.offset st s).1
    s.completed t r st done results ∧ (r.offset = 0 ∨ st = .chainRange → u = s) ∧ u.roomGiven t r.slot ∧
      t.exch.takePtr = s.exch.takePtr ∧ s.sameBut completing t) ∧
  ∀ (s : State) (r : Request) (st : Status) (done : Nat) (results : List Byte) (m : RSlot), s.memOk = true →
    -16 ≤ r.offset → r.offset ≤ 15 → r.offset ≠ 0 → (m.val : Int) = r.slot.val + r.offset → st ≠ .chainRange →
    let t := s.complete r st done results
    let u := (State.settleChain chainRounds r.slot r.offset st s).1
    let code := (s.slotByte m 3).extractLsb' 1 2
    let holds : Prop := (code = 1 → st = .ok) ∧ (code = 2 → st ≠ .ok)
    let off := (s.slotByte m 2).toInt
    let ends (x : Status) : Prop :=
      t.doneWith m x ∧ t.exch.held.getLsbD m.val = false ∧ (off = 0 ∨ x = .chainRange → t.slotByte m 33 = 0) ∧
        (off = 0 ∨ x = .chainRange → ∀ q, u.exch.queue q = s.exch.queue q)
    if s.posted m = true ∧ s.isFollower m = true then
      if st ≠ .skipped ∧ holds then
        t.slotByte r.slot 33 = 1 ∧
          match kindOfCode (s.slotByte m 1) with
          | none => ends .badKind
          | some k =>
            if off ≠ 0 ∧ (off < -16 ∨ 15 < off ∨ (m.val : Int) + off < 0 ∨ 31 < (m.val : Int) + off) then ends .chainRange
            else if s.exch.warned then ends .power
            else if s.device = .halted ∧ k ≠ .identify ∧ k ≠ .cancel then ends .halted
            else
              let taken (begun : Bool) : Request :=
                { slot := m, kind := k, offset := off, params := readBytes s.exch.mem (slotAddr m + 4) 28, follower := true
                  cond := code, begun := begun, late := s.device = .halted }
              t.slotByte m 0 = 2 ∧ t.exch.held.getLsbD m.val = true ∧
                if (s.exch.queue k.queue).length < k.queue.room ∧ ∀ x ∈ s.exch.followers, x.kind.queue ≠ k.queue then
                  (u.exch.queue k.queue).map Request.slot = (s.exch.queue k.queue).map Request.slot ++ [m] ∧
                    (∃ begun, (u.exch.queue k.queue).getLast? = some (taken begun)) ∧
                    (∀ q, q ≠ k.queue → (u.exch.queue q).map Request.slot = (s.exch.queue q).map Request.slot) ∧
                    u.exch.followers = s.exch.followers
                else u.exch.followers = s.exch.followers ++ [taken false] ∧ ∀ q, u.exch.queue q = s.exch.queue q
      else
        t.slotByte r.slot 33 = 2 ∧ t.doneWith m .skipped ∧ (off = 0 → t.slotByte m 33 = 0) ∧
          ∀ k : RSlot, -16 ≤ off → off ≤ 15 → off ≠ 0 → (k.val : Int) = m.val + off →
            if s.posted k = true ∧ s.isFollower k = true then
              t.slotByte m 33 = 2 ∧ (k ≠ r.slot → t.doneWith k .skipped)
            else t.slotByte m 33 = 3 ∧ (k ≠ r.slot → t.slotByte k 0 = s.slotByte k 0)
    else t.slotByte r.slot 33 = 3 ∧ t.slotByte m 0 = s.slotByte m 0

/-! ### Requests that the exchange unit and the store serve -/

/-- IDENTIFY ends OK with the vendor, part and revision, the identity held, the number of volumes not ABSENT and of
occupied slots, and the device state (R170, R177). CANCEL of a slot number above 31 ends BAD_PARAM; of a POSTED slot,
of an enrollment that has not queued its record, or of a request that waits behind the sector queue's head, in the
follower list or unbegun in the enroll queue, it ends OK and the target ends CANCELLED; of anything else it ends
NOT_CANCELLABLE and the target stays. Its results are the owner and the kind found at the target (R169). A sector
request so ended reloads the idle timer of its volume (R9; that one still POSTED does not is deduced, log 39). A CANCEL
of an enrollment waits while the credential unit is held or has an older event to take, and the ticks before it are taken
first (logs 3, 10 and 56; R29, R37): what comes after it while the unit is held goes before it, which is the model's choice
(log 56); no CANCEL stands in the slot of the ENROLL that it names. -/
def Obligations.ExchangeUnitRequests : Prop :=
  (∀ (s : State) (r : Request) (q : List Request), s.alive = true → s.memOk = true → s.exch.controlQ = r :: q →
      r.kind = .identify →
      ∃ t, exec .identify s = .next t ∧ s.sameBut completing t ∧
        s.completed t r .ok 0
          ([0x47, 0x0C, 0x46, 0x01] ++ leBytes 4 s.link.capacity.toNat ++ leBytes 2 s.link.ef.toNat ++
            leBytes 2 s.link.ed.toNat ++
            [BitVec.ofNat 8 (bit s.link.identified),
             BitVec.ofNat 8 (allVols.countP fun v => (s.vol v).data.state ≠ .absent),
             BitVec.ofNat 8 (allSlots.countP fun i => (s.cslot i).role ≠ .empty), s.device.code])) ∧
  (∀ (s : State) (r : Request) (q : List Request), s.alive = true → s.memOk = true → s.exch.controlQ = r :: q →
      r.kind = .cancel →
      (rslotOfNumber (r.byte 4).toNat = none → ∃ t, exec .cancel s = .next t ∧ s.completed t r .badParam 0 [] ∧
        s.sameBut completing t) ∧
      (∀ n, rslotOfNumber (r.byte 4).toNat = some n → s.enrolling n = true →
        (s.credFree = false ∨ (∃ e rest, s.cred.inbox = e :: rest ∧ e ≠ .tick) → exec .cancel s = .next s) ∧
          (n ≠ r.slot → ∀ k, s.credFree = true → s.cred.inbox = List.replicate k .tick →
            exec .cancel s = exec .cancel s.takeWindowTicks)) ∧
      ∀ n, rslotOfNumber (r.byte 4).toNat = some n → n ≠ r.slot → (s.enrolling n = true → s.credReady = true) →
        ∃ t, exec .cancel s = .next t ∧ s.slotsOnly t ∧ t.outOfQueues r.slot ∧
          t.slotByte r.slot 36 = s.slotByte n 0 ∧ t.slotByte r.slot 37 = s.slotByte n 1 ∧
          s.sameBut (.volumes :: (enrollEnding ++ showing)) t ∧
          (s.posted n = true → t.doneWith r.slot .ok ∧ t.doneWith n .cancelled ∧ t.guard.vols = s.guard.vols) ∧
          (s.posted n = false → s.enrolling n = true →
            t.doneWith r.slot .ok ∧ t.doneWith n .cancelled ∧ t.cred.enroll = none) ∧
          (s.posted n = false → s.enrolling n = false → ∀ x, (s.cancellable.find? fun y => y.slot = n) = some x →
            t.doneWith r.slot .ok ∧ t.doneWith n .cancelled ∧ t.outOfQueues n ∧ s.timersReloaded t [x]) ∧
          (s.posted n = false → s.enrolling n = false → (∀ x ∈ s.cancellable, x.slot ≠ n) →
            t.doneWith r.slot .notCancellable ∧ t.slotByte n 0 = s.slotByte n 0))

/-- SET_POLICY, served by the store: HALTED, POWER under a supply warning, NOT_AUTHORIZED with the window CLOSED;
otherwise the settings, each clamped, are the policy from now on, the POLICY commit is awaited, and the window's timer
starts again (R158, R39, R37). The clamps: A to 1 to 15; W 0, or above the clamped A and at most 63; the debounce
count to 2 to 15, the entry timeout code to 3, the minimum PIN to 6 to 16; an unknown wipe plan to FULL, the erase
share to 1 to 8, an unknown action to NONE, the hot code to 8 (R50, R73, R108). What is stored of a base code above 4
is deduced (log 25), and that a query waits for the credential unit, and lets what comes after it go before it, is the model's
choice (logs 3 and 56). -/
def Obligations.SetPolicyIsChecked : Prop :=
  ∀ (s : State) (r : Request), s.alive = true → s.memOk = true → s.store.settings = some r →
    (s.device = .halted → ∃ t, exec .setPolicy s = .next t ∧ s.completed t r .halted 0 [] ∧ s.sameBut completing t) ∧
    (s.device ≠ .halted → s.store.warned = true →
      ∃ t, exec .setPolicy s = .next t ∧ s.completed t r .power 0 [] ∧ s.sameBut completing t) ∧
    (s.device ≠ .halted → s.store.warned = false → s.credReady = true → s.cred.window = none →
      ∃ t, exec .setPolicy s = .next t ∧ s.completed t r .notAuthorized 0 [] ∧ s.sameBut (completing ++ showing) t) ∧
    ∀ w, s.device ≠ .halted → s.store.warned = false → s.credReady = true → s.cred.window = some w →
      s.storeTakes = true →
      let n (k : Nat) : Nat := (r.byte k).toNat
      let domain (k : Nat) : DomainPolicy :=
        let a := max 1 (n k % 16)
        { a := a, b := min (n (k + 1) % 8) 4, c := n (k + 2) % 8
          w := if n (k + 3) = 0 then 0 else min (max (n (k + 3)) (a + 1)) 63 }
      let policy : Policy :=
        { normal := domain 4, recovery := domain 8, debounce := max 2 (n 12 % 16), hold := n 13 % 8
          entryTimeout := min (n 14) 3, cadence := n 15 % 8, minPin := min (max (n 16) 6) 16
          wipePlan := if n 17 = 1 ∨ n 17 = 2 then n 17 else 3, stopOnFault := n 18 % 2 = 1, eraseShare := min (max (n 19) 1) 8
          action := if n 20 = 1 ∨ n 20 = 2 then n 20 else 0, hot := min (n 21 % 16) 8, hyst := n 22 % 4 }
      ∃ t, exec .setPolicy s = .next t ∧ t.store.policy = policy ∧ t.store.setting = some r ∧ t.store.settings = none ∧
        t.awaits (.policy policy) .store ∧ t.cred.window = some { w with left := 300 } ∧ s.rewritten t .window ∧
        s.sameBut (([.storeRest, .commits, .window, .pageWindow] : List Part) ++ showing) t

/-! ### The volume guard -/

/-- OPEN_ORDER: a LOCKED volume takes the key, its slot and its idle timer, and opens OPEN for a READ_WRITE slot on a
volume that is not write protected, OPEN_RO otherwise; an open one keeps its key, and goes from OPEN_RO to OPEN for
such an order; no other volume changes, and none in HALTED, at critical temperature or under a supply warning (R5,
R6). A change is reported, with VOLUME attention; an order that changes nothing that the volumes section shows, as a refused one,
sets no attention flag and leaves the section as it was (R4). -/
def Obligations.OpenOrders : Prop :=
  ∀ (s : State) (v : Vol) (key : MediaKey) (slot : CSlot) (rw : Bool) (rest : List GuardOrder), s.alive = true →
    s.guardFree = true → s.guard.inbox = .openVolume v key slot rw :: rest →
    ∃ t, exec .openOrder s = .next t ∧ t.guard.inbox = rest ∧ t.guard.wait = .free ∧ s.volumesReported t ∧
      (∀ w, w ≠ v → t.vol w = s.vol w) ∧
      t.vol v =
        (if s.device = .halted ∨ s.guard.critical = true ∨ s.guard.warned = true then s.vol v
         else if (s.vol v).data.state = .locked then
          { s.vol v with
            data := { (s.vol v).data with state := if rw && !(s.vol v).data.writeProtect then .opened else .openRo }
            openedBy := some slot, key := key, keyHeld := true, idle := idlePeriod (s.vol v).data.idleCode }
         else if (s.vol v).isOpen then
          { s.vol v with
            data := { (s.vol v).data with
              state := if rw && !(s.vol v).data.writeProtect then .opened else (s.vol v).data.state }
            openedBy := some slot, idle := idlePeriod (s.vol v).data.idleCode }
         else s.vol v) ∧
      (t.page.volumes = s.page.volumes → t.exch.attn = s.exch.attn) ∧
      s.sameBut (([.volumes, .guardInbox, .attn, .pageVolumes] : List Part) ++ showing) t

/-- LOCK_ORDER locks every open volume of its set and IDLE_TIMER_EXPIRY its own: the key register zeroed and empty,
the state LOCKED, opened by none, the idle timer stopped; every other volume stays as it was, and one report is made
(R7, R8, R9). A lock of a volume with an active sector request (R17): with nothing in flight the request ends
LOCKED_DURING at once, a READ having its filled buffers zeroed; a command in flight runs to its reply with that end
already decided, and is not reissued. That IDLE_TIMER_EXPIRY acts whenever the timer runs is the model's choice (log
5); that with the guard held, or orders waiting, its lock is an order behind them is deduced (log 39). No order overtakes a
signal that came before it (R4, R137). With no command waiting and no step of its own due, a step of the part is one tick of
the 1 ms timebase: it counts the scan timer, the probe timer and the timeout of the link, the keypad's timeout and flash and
phase lengths, the derivation and the recovery count; each thousandth is one LOCKOUT_TICK, one WINDOW_TICK and one
TEMPERATURE_SAMPLE of the sensor as it stands (R37, R57, R133), takes one second off every running idle timer, and a
volume whose timer so reaches 0 is locked, at once or in its turn (R9, R97, R100, R163, R79, R81, R84, R141); with a step of its
own due, a step of the part is that step. That an empty queue so runs and ticks, and the order of the three in a tick, is the
model's choice (log 2). A grant not used is handed back before the request ends (R91). -/
def Obligations.LocksAreOrdered : Prop :=
  (∀ s : State, s.pending = [] →
     (s.autoNext = none → step s = .next s.tick) ∧ ∀ c, s.autoNext = some c → step s = exec c s) ∧
  (∀ s : State, s.alive = true → s.scanDue = false → s.msOfSecond + 1 < 1000 →
     let t := s.tick
     t.ms = s.ms + 1 ∧ t.msOfSecond = s.msOfSecond + 1 ∧ t.guard = s.guard ∧
       t.exch = { s.exch with scanLeft := s.exch.scanLeft - 1 } ∧
       t.link.probeLeft = s.link.probeLeft.map (· - 1) ∧
       (t.link.inFlight = s.link.inFlight.map fun f => { f with left := f.left - 10 }) ∧
       t.keypad.timeout = s.keypad.timeout.map (· - 1) ∧ t.keypad.flashLeft = s.keypad.flashLeft - 1 ∧
       t.keypad.phaseLeft = s.keypad.phaseLeft - 1 ∧
       (t.cred.deriv = s.cred.deriv.map fun d => { d with left := d.left - 1 }) ∧
       t.supply.count = (if s.supply.cond = .recovering then min (s.supply.count + 1) 100 else s.supply.count) ∧
       s.sameBut [.time, .scanRegs, .link, .assembler, .indicator, .scanner, .deriv, .supply] t) ∧
  (∀ s : State, s.alive = true → 1000 ≤ s.msOfSecond + 1 →
     let t := s.tick
     t.msOfSecond = 0 ∧ ∀ v,
       ((s.vol v).idle = none → t.vol v = s.vol v) ∧
         ∀ n, (s.vol v).idle = some n →
           (1 < n → t.vol v = { s.vol v with idle := some (n - 1) }) ∧
             (n ≤ 1 → (s.vol v).isOpen = true →
               t.vol v = (s.vol v).shut .locked ∨
                 (t.vol v = { s.vol v with idle := none } ∧ .lock (single v) ∈ t.guard.inbox))) ∧
  (∀ s : State, s.alive = true → 1000 ≤ s.msOfSecond + 1 →
     let counted : State := { ({ s with msOfSecond := 0 } : State).tick with msOfSecond := 0 }
     ∃ a b c, exec .lockoutTick counted = .next a ∧ exec .windowTick a = .next b ∧
       exec (.temperatureSample b.temp.sensor) b = .next c ∧
       c.sameBut (.pageVolumes :: (sectorEnding ++ showing)) s.tick) ∧
  (∀ (s : State) (x : Signal) (rest : List GuardOrder) (c : Instr), s.guard.inbox = .signal x :: rest →
     c = .openOrder ∨ c = .faultOrder ∨ c = .lockOrder ∨ c = .eraseAcceptance ∨ c = .eraseEnd ∨ c = .capacityReport ∨
       c = .lock → exec c s = .next s) ∧
  (∀ s : State, s.alive = true → s.guardFree = true →
     (∀ mask rest, s.guard.inbox = .lock mask :: rest →
       ∃ t, exec .lockOrder s = .next t ∧ s.locks t mask ∧ s.volumesReported t ∧
         s.sameBut (.pageVolumes :: (sectorEnding ++ showing)) t) ∧
     ∀ v, (s.vol v).idle.isSome = true → s.guard.inbox = [] →
       ∃ t, exec (.idleTimerExpiry v) s = .next t ∧ s.locks t (single v) ∧ s.volumesReported t ∧
         s.sameBut (.pageVolumes :: (sectorEnding ++ showing)) t) ∧
  (∀ (s : State) (v : Vol), s.alive = true → s.guardReady = false → (s.vol v).idle.isSome = true →
     ∃ t, exec (.idleTimerExpiry v) s = .next t ∧ t.guard.inbox = s.guard.inbox ++ [.lock (single v)] ∧
       (∀ w, t.vol w = if w = v then { s.vol v with idle := none } else s.vol w) ∧ t.guard.wait = s.guard.wait ∧
       s.sameBut [.volumes, .guardInbox] t) ∧
  (∀ (s : State) (v : Vol) (r : Request), s.memOk = true → (s.vol v).isOpen = true → s.sector.vol = v →
     s.sectorHead = some r →
     let t := s.lockVolume v
     t.vol v = (s.vol v).shut .locked ∧
       (s.sector.phase = .waitingGrant ∨ s.sector.phase = .checking →
         t.sector.phase = .idle ∧ (s.zeroed .lockedDuring).completed t r .lockedDuring s.sector.done [] ∧
           (s.link.granted = some .sector → s.grantReturned t)) ∧
       (s.sector.phase = .inFlight → s.sector.ended = none →
         t.sector = { s.sector with ended := some .lockedDuring } ∧
           t.link.inFlight = s.link.inFlight.map fun f => { f with withdrawn := true }))

/-- FAULT_ORDER: a LOCKED, OPEN or OPEN_RO volume loses its key and goes to FAULT, its VOLUME record is queued with
that state and the guard waits for the commit; any other volume, and every volume not named, stays as it was (R10).
ERASE_END: an ERASING volume goes to BLANK with the result and the suspect count, which saturates at 65535, and the
guard waits for its VOLUME commit; a volume that is not ERASING stays as it was (R13). An active sector request for a volume that
a fault order shuts ends LOCKED_DURING, its unused grant handed back first, or with its command in flight once that has replied
(R17, R91). An order that changes no volume sets no VOLUME attention (R4). -/
def Obligations.FaultAndEraseEndOrders : Prop :=
  (∀ (s : State) (v : Vol) (rest : List GuardOrder), s.alive = true → s.guardFree = true → s.storeTakes = true →
      s.guard.inbox = .fault v :: rest →
      ∃ t, exec .faultOrder s = .next t ∧
        (if (s.vol v).data.state = .locked || (s.vol v).isOpen then
          s.volumesReported t ∧ (∀ w, t.vol w = if w = v then (s.vol v).shut .fault else s.vol w) ∧
            t.guard.wait = .commits 1 .faulted ∧
            t.awaits (.volume v { (s.vol v).data with state := .fault }) .guard ∧ s.lockedDuring t v ∧
            ((s.vol v).isOpen = true → s.sector.vol = v → s.commandWithdrawn t ∧
              (s.sectorHead ≠ none → s.sector.phase = .waitingGrant ∨ s.sector.phase = .checking →
                s.link.granted = some .sector → s.grantReturned t))
         else t.guard.vols = s.guard.vols ∧ t.guard.wait = .free ∧ t.exch.attn = s.exch.attn) ∧
        s.sameBut (([.pageVolumes, .commits] : List Part) ++ sectorEnding ++ showing) t) ∧
  (∀ (s : State) (v : Vol) (x : EraseResult) (n : Nat) (rest : List GuardOrder), s.alive = true → s.guardFree = true →
      s.storeTakes = true → s.guard.inbox = .eraseEnd v x n :: rest →
      ∃ t, exec .eraseEnd s = .next t ∧ (∀ w, w ≠ v → t.vol w = s.vol w) ∧
        if (s.vol v).data.state = .erasing then
          let r : VolRec := { (s.vol v).data with state := .blank, lastResult := x, suspects := min n 65535 }
          t.vol v = { s.vol v with data := r } ∧ t.guard.wait = .commits 1 (.ended v) ∧ t.awaits (.volume v r) .guard ∧
            s.volumesReported t ∧
            s.sameBut (([.volumes, .guardInbox, .attn, .pageVolumes, .commits, .storeRest] : List Part) ++ showing) t
        else t.vol v = s.vol v ∧ t.attending .volume = s.attending .volume ∧ s.sameBut (engineAnswering ++ showing) t)

/-- ERASE_ACCEPTANCE: a volume that is neither ABSENT nor ERASING is locked if it is open and goes to ERASING, the
engine's new entry stands in its list and the guard waits for the ERASE_LIST and the VOLUME commit; a FAULT volume
whose extent is not clear is retired to ABSENT, and the guard waits for that commit; an ABSENT or ERASING one stays as
it was, and sets no VOLUME attention, which every change does (R12, R112, R4). An active sector request for a volume that the
acceptance so locks ends LOCKED_DURING, or with its command in flight once that has replied (R17). -/
def Obligations.EraseAcceptances : Prop :=
  ∀ (s : State) (v : Vol) (rest : List GuardOrder), s.alive = true → s.guardFree = true → s.storeTakes = true →
    s.device ≠ .halted → s.guard.inbox = .eraseAccept v :: rest →
    let st := (s.vol v).data.state
    ∃ t, exec .eraseAcceptance s = .next t ∧
      (∀ w, w ≠ v → t.vol w = s.vol w) ∧
      (if st = .absent ∨ st = .erasing then t.vol v = s.vol v ∧ t.attending .volume = s.attending .volume
       else if st = .fault ∧ s.extentClear v = false then
        t.vol v = { s.vol v with
          data := VolRec.absent, openedBy := none, key := 0, keyHeld := false, idle := none } ∧
          t.guard.wait = .commits 1 (.retired v) ∧ t.awaits (.volume v VolRec.absent) .guard ∧ s.volumesReported t
       else
        t.vol v = (s.vol v).shut .erasing ∧ t.guard.wait = .commits 2 (.accepted v) ∧
          t.awaits (.volume v { (s.vol v).data with state := .erasing }) .guard ∧ s.volumesReported t ∧ s.lockedDuring t v ∧
          ((s.vol v).isOpen = true → s.sector.vol = v → s.link.granted ≠ some .engine → s.commandWithdrawn t) ∧
          ∀ a, s.erase.job = .accept a → t.erase.list = placeEntry (s.newEntry v a.plan a.wipe) s.erase.list ∧
            t.awaits (.eraseList t.erase.list) .guard) ∧
      s.sameBut (([.volumes, .pageVolumes, .commits] : List Part) ++ sectorEnding ++ accepting ++ showing) t

/-- CAPACITY_REPORT: every LOCKED, OPEN, OPEN_RO, BLANK or ERASING volume whose extent does not fit goes to FAULT, its VOLUME
record queued with that state, an open one losing its key, the engine being told of an ERASING one; every other volume stays as it
was. An active sector request for a volume that so goes to FAULT ends LOCKED_DURING, or with its command in flight once that has
replied (R17). A report that changes no volume sets no VOLUME attention (R4). An identity that
is being taken is then the one held. With the capacity of the DEVICE record it is shown at once: the link section is rewritten
with it, and once more when the link is READY, which it then is; the return from FAULT of a probe also sets LINK attention
and is told to the engine, and a start-up that waited for the identity goes on to step 6 (R101, R154). With another capacity the DEVICE record is queued with it and
its commit awaited, the link section and state as they were (R11, R101, R100, R105, R172). That a store which takes no record
leaves it so is deduced (log 66). -/
def Obligations.CapacityReports : Prop :=
  ∀ (s : State) (cap : BitVec 32) (ef ed : BitVec 16) (rest : List GuardOrder), s.alive = true → s.guardFree = true →
    s.guard.inbox = .capacity cap ef ed :: rest →
    let lost (v : Vol) : Bool :=
      (s.vol v).data.state ≠ .absent && (s.vol v).data.state ≠ .fault &&
        decide (cap.toNat < (s.vol v).data.first + (s.vol v).data.count)
    ∃ t, exec .capacityReport s = .next t ∧
      (∀ v, t.vol v = if lost v then (s.vol v).shut .fault else s.vol v) ∧ s.volumesReported t ∧
      (∀ v, lost v = true → (s.vol v).data.state = .erasing → .extentLost v ∈ t.erase.inbox) ∧
      (∀ v, lost v = true → t.queued (.volume v { (s.vol v).data with state := .fault }) ∧ s.lockedDuring t v ∧
        ((s.vol v).isOpen = true → s.sector.vol = v → s.link.ident ≠ .guard → s.commandWithdrawn t)) ∧
      (s.link.ident = .guard → t.link.capacity = cap ∧ t.link.ef = ef ∧ t.link.ed = ed ∧ t.link.identified = true) ∧
      (s.link.ident ≠ .guard → t.link.capacity = s.link.capacity) ∧
      (s.link.ident = .guard → s.link.granted = none →
        if cap = s.store.device.capacity then
          t.link.ident = .none ∧ t.link.inFlight = none ∧
            (s.link.sectorAsks = false → s.link.engineAsks = false → t.link.state = .ready) ∧
            t.link.state ≠ .fault ∧ t.link.probeLeft = none ∧
            t.startUp =
              { s.startUp with next := if s.startUp.identAsked then 6 else s.startUp.next, identAsked := false } ∧
            (s.link.state = .fault → t.attending .link = true ∧
              (s.device ≠ .starting →
                ∃ l, t.erase.inbox = s.erase.inbox ++ l ++ .linkReturn :: t.grantEvent ∧ .linkReturn ∉ l)) ∧
            s.identityShown t { s.link with capacity := cap, ef := ef, ed := ed, identified := true }
        else
          t.link.state = s.link.state ∧ t.page.link = s.page.link ∧ t.store.device = { s.store.device with capacity := cap } ∧
            t.link.ident = (if s.storeTakes then .commit else .none) ∧ t.awaits (.device t.store.device) .link) ∧
      s.sameBut (([.pageVolumes, .commits] : List Part) ++ linkEnding ++ showing) t

/-- The LOCK request: HALTED in HALTED and POWER under a supply warning, HALTED where both stand (deduced, log 76); otherwise
every open volume of the mask is locked, and with the close flag clear it ends OK with the set it locked, with the flag set
it waits for the credential unit to close the admin window (R19). -/
def Obligations.LockRequests : Prop :=
  ∀ (s : State) (r : Request) (rest : List GuardOrder), s.alive = true → s.memOk = true → s.guardFree = true →
    s.guard.inbox = .request r :: rest → r.kind = .lock →
    (s.device = .halted → ∃ t, exec .lock s = .next t ∧ s.completed t r .halted 0 [] ∧ s.sameBut (completing ++ showing) t) ∧
    (s.device ≠ .halted → s.guard.warned = true →
      ∃ t, exec .lock s = .next t ∧ s.completed t r .power 0 [] ∧ s.sameBut (completing ++ showing) t) ∧
    (s.device ≠ .halted → s.guard.warned = false →
      ∃ t, exec .lock s = .next t ∧ s.locks t (r.byte 4) ∧ s.volumesReported t ∧
        (if (r.byte 5).getLsbD 0 then
          t.guard.wait = .windowClose r (s.openIn (r.byte 4)) ∧ t.cred.inbox.getLast? = some (.windowClose true)
         else t.doneWith r.slot .ok ∧ t.slotByte r.slot 36 = s.openIn (r.byte 4) ∧ t.outOfQueues r.slot) ∧
        s.sameBut (.pageVolumes :: (sectorEnding ++ showing)) t)

/-- DEFINE_VOLUME: the checks in their order, each ending the request with its status and no change (but for the
window's timer, started again once authorized); when all pass a media key is drawn and its wrapping asked of the
credential unit, which the guard awaits, the window's timer starts again, and the volume stays ABSENT (R20, R21). What
the generator draws is free (log 7). -/
def Obligations.DefineVolumeRequests : Prop :=
  ∀ (s : State) (r : Request) (rest : List GuardOrder), s.alive = true → s.memOk = true → s.guardFree = true →
    s.guard.inbox = .request r :: rest → r.kind = .defineVolume →
    (s.device ≠ .halted → s.guard.warned = false → s.credReady = true) →
    let first := r.field 8 4
    let count := r.field 12 4
    let overlap : Prop :=
      ∃ w, (s.vol w).data.state ≠ .absent ∧ (s.vol w).data.state ≠ .fault ∧
        first < (s.vol w).data.first + (s.vol w).data.count ∧
        (s.vol w).data.first < first + count ∧ 0 < count ∧ 0 < (s.vol w).data.count
    ∃ t, exec .defineVolume s = .next t ∧
      (let turnedAway (st : Status) : Prop := s.completed t r st 0 [] ∧ s.sameBut (completing ++ showing) t
       let fails (st : Status) : Prop :=
         s.completed t r st 0 [] ∧ s.sameBut (([.window, .pageWindow] : List Part) ++ completing ++ showing) t
       if s.device = .halted then turnedAway .halted
       else if s.guard.warned then turnedAway .power
       else
        match s.cred.window with
        | none => turnedAway .notAuthorized
        | some w =>
          t.cred.window = some { w with left := 300 } ∧ t.cred.adminKey = s.cred.adminKey ∧ s.rewritten t .window ∧
            match volOfIndex (r.byte 4).toNat with
            | none => fails .badParam
            | some v =>
              if (s.vol v).data.state ≠ .absent ∨ count = 0 then fails .badParam
              else if s.link.capacity.toNat < first + count then fails .range
              else
                (overlap → fails .overlap) ∧
                (¬overlap → t.draws = s.draws + 1 ∧ t.guard.wait = .wrapAdd r v (Config.randomKey s.draws) ∧
                  t.guard.inbox = rest ∧ t.cred.inbox = s.cred.inbox ++ [.wrapAdd v (Config.randomKey s.draws)] ∧
                  s.sameBut (([.draws, .window, .pageWindow, .guardInbox, .credInbox] : List Part) ++ showing) t))

/-- WRAP_AND_ADD: with the window OPEN, the key is wrapped under the admin key register into the wrap list of the
window's slot in volume order, the volume joins its bind mask, and the SLOT and the VOLUME record are queued, for both
of which the guard waits; with the window CLOSED the DEFINE_VOLUME ends, POWER when a supply warning that still stands
has closed it and NOT_AUTHORIZED otherwise (R21, R26, R38). That both records are queued in one step is deduced (log 17). -/
def Obligations.WrapAndAddOrders : Prop :=
  ∀ (s : State) (v : Vol) (key k : MediaKey) (r : Request) (x : Vol) (rest : List CredEvent), s.alive = true →
    s.memOk = true → s.credFree = true → s.cred.inbox = .wrapAdd v key :: rest → s.guard.wait = .wrapAdd r x k →
    (s.cred.window = none →
      ∃ t, exec .wrapAndAdd s = .next t ∧ t.guard.wait = .free ∧
        s.completed t r (if s.cred.warned && s.cred.shutByWarning then .power else .notAuthorized) 0 [] ∧
          s.sameBut (completing ++ showing) t) ∧
    ∀ w, s.cred.window = some w → s.storeTakes = true →
      ∃ t, exec .wrapAndAdd s = .next t ∧
        (let e : WrapEntry :=
          { vol := v, wrapped := Config.wrapPerm s.cred.adminKey v key
            tag := Config.wrapTag s.cred.adminKey v (Config.wrapPerm s.cred.adminKey v key) }
         let c : CredSlot :=
          { s.cslot w.slot with
            wraps := insertWrap e (s.cslot w.slot).wraps, bind := (s.cslot w.slot).bind ||| single v }
         (∀ i, t.cslot i = if i = w.slot then c else s.cslot i) ∧ t.awaits (.slot w.slot c) .guard ∧
          t.awaits
            (.volume v
              { state := .locked, first := r.field 8 4, count := r.field 12 4, idleCode := min (r.byte 5).toNat 7
                writeProtect := (r.byte 6).getLsbD 0, lastResult := .none, suspects := 0 }) .guard ∧
          t.guard.wait = .commits 2 (.define r v key w.slot)) ∧
        s.sameBut (([.slots, .credInbox, .guardInbox, .commits, .storeRest] : List Part) ++ showing) t

/-- DELETE_VOLUME: the checks in their order, each ending the request with its status and no change (but for the window's
timer, started again once authorized); a BLANK volume that the erase list does not hold takes the ABSENT
values, its VOLUME record is queued as ABSENT and the guard waits for the commit (R22). What the table shows during
the wait is deduced (log 17), and so is that it ends HALTED where HALTED and a supply warning both stand (log 76). -/
def Obligations.DeleteVolumeRequests : Prop :=
  ∀ (s : State) (r : Request) (rest : List GuardOrder), s.alive = true → s.memOk = true → s.guardFree = true →
    s.storeTakes = true → s.guard.inbox = .request r :: rest → r.kind = .deleteVolume →
    (s.device ≠ .halted → s.guard.warned = false → s.credReady = true) →
    ∃ t, exec .deleteVolume s = .next t ∧
      (let turnedAway (st : Status) : Prop := s.completed t r st 0 [] ∧ s.sameBut (completing ++ showing) t
       let fails (st : Status) : Prop :=
         s.completed t r st 0 [] ∧ s.sameBut (([.window, .pageWindow] : List Part) ++ completing ++ showing) t
       if s.device = .halted then turnedAway .halted
       else if s.guard.warned then turnedAway .power
       else
        match s.cred.window with
        | none => turnedAway .notAuthorized
        | some w =>
          t.cred.window = some { w with left := 300 } ∧ t.cred.adminKey = s.cred.adminKey ∧ s.rewritten t .window ∧
            match volOfIndex (r.byte 4).toNat with
            | none => fails .badParam
            | some v =>
              if (s.vol v).data.state = .blank ∧ s.eraseEntry v = none then
                (∀ w, w ≠ v → t.vol w = s.vol w) ∧ (t.vol v).data = { VolRec.absent with state := .blank } ∧
                  t.guard.wait = .commits 1 (.delete r v) ∧ t.awaits (.volume v VolRec.absent) .guard ∧
                  s.sameBut (([.volumes, .guardInbox, .commits, .storeRest, .window, .pageWindow] : List Part) ++ showing) t
              else fails .notBlank)

/-! ### The sector path and the storage link -/

/-- READ_SECTORS and WRITE_SECTORS at the head of the sector queue, the path idle and the guard free: a failing check of
the guard ends the request with its status and a done count of 0, and the idle timer of its volume, if that is open, is
reloaded; otherwise the request is active, the volume's idle timer is reloaded and the link is asked for, which in FAULT
ends the request LINK_FAULT and under a supply warning POWER. A READY link that nobody holds grants it at once when the engine has
no request pending, and decides between the two when it has; any other link holds the request pending (R102, R103). With an order before it, the decision takes its turn at
the guard; but a request for the volume that a DEFINE_VOLUME is defining, still ABSENT, is decided at once (R4, R9, R15,
R21, R87, R88, R93, R102; that R21 goes before R4 there is deduced, log 40). -/
def Obligations.SectorRequestsBegin : Prop :=
  ∀ (s : State) (r : Request) (write : Bool), s.alive = true → s.memOk = true → s.sectorHead = some r →
    r.kind = (if write then .writeSectors else .readSectors) → s.sector.phase = .idle → s.sector.done = 0 →
    s.sector.warned = false → s.device ≠ .halted → s.device ≠ .starting →
    ∃ t, exec (if write then .writeSectors else .readSectors) s = .next t ∧
      (s.guardReady = false → s.definesFor r = false →
        t.sector = { s.sector with phase := .deciding, slot := r.slot, write := write } ∧
        t.guard.inbox = s.guard.inbox ++ [.sectorDecision] ∧ s.sameBut [.sector, .guardInbox] t) ∧
      (s.definesFor r = true → s.guardDecision r = some (if s.guard.critical then .hot else .absent)) ∧
      (∀ st, s.guardReady = true ∨ s.definesFor r = true → s.guardDecision r = some st →
        t.sector.phase = .idle ∧ s.completed t r st 0 [] ∧
        (∀ v, volOfIndex (r.byte 4).toNat = some v → (∀ w, w ≠ v → t.vol w = s.vol w) ∧
          t.vol v = if (s.vol v).isOpen then { s.vol v with idle := idlePeriod (s.vol v).data.idleCode } else s.vol v) ∧
        s.sameBut (sectorEnding ++ showing) t) ∧
      (s.guardReady = true → s.guardDecision r = none → s.link.state = .fault ∨ s.link.warned = true →
        t.sector.phase = .idle ∧ s.completed t r (if s.link.state = .fault then .linkFault else .power) 0 [] ∧
          s.sameBut (sectorEnding ++ showing) t) ∧
      (∀ v, s.guardReady = true → s.guardDecision r = none → volOfIndex (r.byte 4).toNat = some v →
        s.link.state ≠ .fault → s.link.warned = false →
        t.sector = { s.sector with
          phase := .waitingGrant, slot := r.slot, write := write, vol := v
          absFirst := (s.vol v).data.first + r.field 8 4, relFirst := r.field 8 4, count := r.field 6 2
          firstBuf := (r.byte 5).toNat % 16, k := 0, done := 0, errorSector := none, ended := none } ∧
        (∀ w, w ≠ v → t.vol w = s.vol w) ∧ t.vol v = { s.vol v with idle := idlePeriod (s.vol v).data.idleCode } ∧
        s.sectorAsked t ∧
        s.sameBut (([.sector, .volumes] : List Part) ++ granting ++ showing) t)

/-- The guard decision gives the first failing check of R15 in its order. -/
def Obligations.GuardDecisionTable : Prop :=
  ∀ (s : State) (r : Request),
    let rel := r.field 8 4
    let count := r.field 6 2
    s.guardDecision r =
      if s.device = .halted then some .halted
      else if s.guard.critical then some .hot
      else
        match volOfIndex (r.byte 4).toNat with
        | none => some .absent
        | some v =>
          let d := (s.vol v).data
          if d.state = .absent then some .absent
          else if d.state = .fault then some .faultVolume
          else if d.state = .erasing then some .erasing
          else if d.state = .blank then some .blank
          else if d.state = .locked then some .locked
          else if r.kind = .writeSectors ∧ d.state = .openRo then some .readOnly
          else if ¬rel < d.count ∨ d.count < rel + count then some .range
          else if count = 0 ∨ 16 < count then some .badParam
          else none

/-- SECTOR_GRANT: the per-sector check is an order of the guard. With the guard free and nothing waiting there it is made
at once; else it stands behind what waits, and a later SECTOR_GRANT makes it when it has come to the front of a free guard
(R4, R16, R89). Without a grant to the sector path, and without a check that waits, nothing happens. A check whose grant a
warning or HALTED has taken back at the link has its turn all the same, and a request that passes it asks again, or ends as the
link then answers (R102, R106, log 12). The check: while the volume is open the command of
sector k is issued with its 250 ms timeout, a WRITE sending its buffer under the sector transform of the volume's key and
the absolute sector number, under which one plaintext gives two results at two numbers; a volume no longer open ends the
request LOCKED_DURING, the grant handed back before that end (R16, R89, R90, R91, R95, R97). STRIPE_GRANT takes the grant in its turn among the engine's events
(R110): while the engine runs, the command of the head's stripe is issued with its sectors, the zero bytes of a FILL, its
expected time and its timeout, and its pass is marked begun; a grant of no use is handed back, and the link is READY and
granted to nobody, or to a request that asks. When both do, a WIPE head and a REQUEST head that has lost its share's
number of decisions give it to the engine, with L at 0, and another head to the sector path, with L one up (R118, R119,
R107, R97, R102, R103). The sector transform is free (log 6). That a check whose grant was taken back ends POWER at a link that
stands warned and HALTED at once is the model's choice (log 46). -/
def Obligations.GrantsAreUsed : Prop :=
  (∀ s : State, s.link.granted ≠ some .sector → s.sector.phase ≠ .checking → exec .sectorGrant s = .next s) ∧
  (∀ s : State, s.alive = true →
     (s.link.granted = some .sector → s.sector.phase = .waitingGrant → s.guardReady = false →
       ∃ t, exec .sectorGrant s = .next t ∧ t.sector = { s.sector with phase := .checking } ∧
         t.guard = { s.guard with inbox := s.guard.inbox ++ [.sectorCheck] } ∧
         s.sameBut (([.sector, .guardInbox] : List Part) ++ showing) t) ∧
     (s.sector.phase = .checking → s.guardFree = false ∨ s.guard.inbox.head? ≠ some .sectorCheck →
       ∃ t, exec .sectorGrant s = .next t ∧ s.sameBut showing t)) ∧
  (∀ (s : State) (r : Request), s.alive = true → s.memOk = true → s.sectorHead = some r → s.sector.phase = .checking →
     s.guardFree = true → s.guard.inbox.head? = some .sectorCheck → s.link.granted ≠ some .sector →
     let ends (t : State) (st : Status) : Prop :=
       t.sector.phase = .idle ∧ (s.zeroed st).completed t r st s.sector.done [] ∧ .sectorCheck ∉ t.guard.inbox ∧
         s.sameBut (sectorEnding ++ showing) t
     ∃ t, exec .sectorGrant s = .next t ∧
       if ((s.vol s.sector.vol).isOpen && (s.vol s.sector.vol).keyHeld) = false then ends t .lockedDuring
       else if s.link.state = .fault then ends t .linkFault
       else if s.linkServes = false then ends t (if s.link.warned then .power else .halted)
       else
         t.sector = { s.sector with phase := .waitingGrant } ∧ s.sectorAsked t ∧
           t.guard = { s.guard with inbox := s.guard.inbox.tail } ∧
           s.sameBut (([.sector, .guardInbox] : List Part) ++ granting ++ showing) t) ∧
  (∀ s : State, s.alive = true → s.memOk = true → s.link.granted = some .sector →
     (s.sector.phase = .waitingGrant ∧ s.guardReady = true) ∨
       (s.sector.phase = .checking ∧ s.guardFree = true ∧ s.guard.inbox.head? = some .sectorCheck) →
     let v := s.vol s.sector.vol
     let n := s.sector.absFirst + s.sector.k
     let sent := Config.sectorTransform v.key (BitVec.ofNat 32 n)
       (sectorOfBytes (readBytes s.exch.mem (bufAddr (s.sector.firstBuf + s.sector.k)) 512))
     (∀ m x, m ≠ BitVec.ofNat 32 n → Config.sectorTransform v.key m x ≠ Config.sectorTransform v.key (BitVec.ofNat 32 n) x) ∧
     ∃ t, exec .sectorGrant s = .next t ∧
       if v.isOpen && v.keyHeld then
         t.sector = { s.sector with phase := .inFlight } ∧
           t.link = { s.link with
             state := .busy, granted := none
             inFlight := some
               { cmd := if s.sector.write then .write else .read, first := n, count := 1, owner := .sector
                 data := if s.sector.write then [sent] else [], left := 2500 }
             staging := if s.sector.write then sent else s.link.staging } ∧
           t.guard = { s.guard with inbox := s.guard.inbox.tail } ∧
           s.rewritten t .link ∧ s.sameBut (([.sector, .link, .pageLink, .guardInbox] : List Part) ++ showing) t
       else
         (∀ r, s.sectorHead = some r → t.sector.phase = .idle ∧
           (s.zeroed .lockedDuring).completed t r .lockedDuring s.sector.done [] ∧ s.grantReturned t) ∧
           s.sameBut (sectorEnding ++ showing) t) ∧
  (∀ s : State, s.engineFree = false ∨ s.erase.inbox.head? ≠ some .grant → exec .stripeGrant s = .next s) ∧
  (∀ (s : State) (rest : List EngineEvent), s.alive = true → s.engineFree = true → s.link.granted = some .engine →
     s.erase.inbox = .grant :: rest →
     (∀ e p, s.eraseHead = some e → e.pass = some p → p ≠ .key → s.engineRuns = true →
       let expect := if p = .discard then s.link.ed.toNat else s.link.ef.toNat
       let r := (s.vol e.vol).data
       ∃ t, exec .stripeGrant s = .next t ∧
         t.link = { s.link with
           state := .busy, granted := none
           inFlight := some
             { cmd := if p = .fill then .write else if p = .verify then .read else .discard
               first := r.first + 256 * e.nextStripe, count := min 256 (r.count - 256 * e.nextStripe), owner := .engine
               data := if p = .fill then List.replicate (min 256 (r.count - 256 * e.nextStripe)) 0 else []
               expect := expect, left := max 10000 (4 * expect) } } ∧
         t.erase = { s.erase with
           inbox := rest, flying := some e.vol
           list := s.erase.list.map fun x => if x.vol = e.vol then { x with begun := true } else x } ∧
         s.rewritten t .link ∧ s.rewritten t .erase ∧
         s.sameBut (([.eraseList, .eraseRest, .pageErase] : List Part) ++ granting ++ showing) t) ∧
     ((∀ e p, s.eraseHead = some e → e.pass = some p → p = .key ∨ s.engineRuns = false) →
       let wins : Bool := s.erase.list.head?.all fun h => h.wipe || h.share ≤ s.link.losses
       ∃ t, exec .stripeGrant s = .next t ∧ t.link.inFlight = none ∧
         (if s.linkServes && (s.link.sectorAsks || s.link.engineAsks) then
           t.link.state = .busy ∧
             if s.link.engineAsks && (!s.link.sectorAsks || wins) then t.link.granted = some .engine ∧ t.link.losses = 0
             else t.link.granted = some .sector ∧
               t.link.losses = if s.link.engineAsks then s.link.losses + 1 else s.link.losses
          else t.link.state = .ready ∧ t.link.granted = none ∧ t.link.losses = s.link.losses) ∧
         (s.link.engineAsks = false → t.link.granted ≠ some .engine) ∧
         t.erase.inbox = (rest.filter (· ≠ .grant)) ++ t.grantEvent ∧ s.sameBut (granting ++ showing) t)) ∧
  ∀ (l : List EraseEntry) (h : EraseEntry) (losses : Nat),
    (h.wipe = true → arbitrate (h :: l) losses = (.engine, 0)) ∧
      (h.wipe = false → h.share ≤ losses → arbitrate (h :: l) losses = (.engine, 0)) ∧
      (h.wipe = false → losses < h.share → arbitrate (h :: l) losses = (.sector, losses + 1))

/-- LINK_REPLY to a sector command still wanted: a READ's sector is put, transformed back, into its buffer, and counts
as done like a WRITE's OK; the last sector ends the request OK with its done count, any other asks for the link again,
which under a supply warning or in HALTED ends it POWER or HALTED; MEDIA_ERROR ends it FLASH_ERROR with the relative
sector in its results; each end carries the done count, and POWER and HALTED zero what a READ has filled (R17, R94; R89, R90, R91, R92, R95, R102). The reply to a command whose request's end is already decided, by a
lock, a supply warning or HALTED: a READ's sector is discarded and every buffer it has filled is zeroed, a WRITE's OK
counts as done and its MEDIA_ERROR does not, no further sector is started, and the request ends with the status decided
(R17, R94). The sector transform is free (log 6). The model's choices: POWER at a link that stands warned and HALTED at once (log
46), and the staging area zero after every reply, where the spec names OK alone (log 52), and the end and its chain before the
grant of a pending request of the engine (log 68). The boundary after the reply is decided by R103 when the engine asks as well; a
request that is alone is granted at once, also the engine's when the sector request has ended (R102). A READ whose key register is
empty when its sector arrives ends LOCKED_DURING (R90). That MEDIA_ERROR is counted and the
link section rewritten in HALTED too is deduced (log 51). -/
def Obligations.SectorReplies : Prop :=
  ∀ (s : State) (f : InFlight) (x : Frame) (time : Nat) (r : Request), s.alive = true → s.memOk = true →
    s.link.inFlight = some f → f.resetting = false → f.owner = .sector → frameFits f x = true →
    s.sector.phase = .inFlight → s.sectorHead = some r →
    let p := s.sector
    ∃ t, exec (.linkReply x time) s = .next t ∧ s.sameBut (sectorEnding ++ showing) t ∧ t.link.inFlight = none ∧
      t.link.staging = 0 ∧
      let boundary (sector : Bool) : Prop :=
        if s.linkServes then t.arbitrated s.erase.list s.link.losses sector s.link.engineAsks
        else t.link.state = .ready ∧ t.link.granted = none ∧ t.link.losses = s.link.losses
      (∀ st, p.ended = some st → st ≠ .flashError →
        t.sector = { warned := p.warned } ∧ t.link.sectorAsks = false ∧ t.link.granted ≠ some .sector ∧ boundary false ∧
          (∀ n, x.reply = .mediaError n → t.link.mediaErrors = satInc16 s.link.mediaErrors) ∧
          (s.zeroed st).completed t r st (if p.write = true ∧ x.reply = .ok then p.done + 1 else p.done) []) ∧
      (∀ (u : State), p.ended = none →
        (∃ d, x.reply = .data [d] ∧ (s.vol p.vol).keyHeld = true ∧
          u = { s with
            exch := { s.exch with
              mem := writeBytes s.exch.mem (bufAddr (p.firstBuf + p.k))
                (bytesOfSector ((Config.sectorTransform (s.vol p.vol).key (BitVec.ofNat 32 (p.absFirst + p.k))).symm d)) } }) ∨
        (x.reply = .ok ∧ u = s) →
        (p.k + 1 = p.count → t.sector.phase = .idle ∧ u.completed t r .ok (p.done + 1) [] ∧ boundary false) ∧
        (p.k + 1 ≠ p.count → s.linkServes = true →
          t.sector = { p with phase := .waitingGrant, k := p.k + 1, done := p.done + 1 } ∧
          t.exch = u.exch ∧ boundary true) ∧
        (p.k + 1 ≠ p.count → s.linkServes = false →
          let st : Status := if s.link.warned then .power else .halted
          let w : State := { u with sector := { u.sector with done := p.done + 1 } }
          t.sector.phase = .idle ∧ (w.zeroed st).completed t r st (p.done + 1) [] ∧ boundary false)) ∧
      (∀ d, p.ended = none → x.reply = .data [d] → (s.vol p.vol).keyHeld = false →
        t.sector.phase = .idle ∧ (s.zeroed .lockedDuring).completed t r .lockedDuring p.done [] ∧ boundary false) ∧
      (∀ n, p.ended = none → x.reply = .mediaError n →
        t.sector.phase = .idle ∧ t.link.mediaErrors = satInc16 s.link.mediaErrors ∧ boundary false ∧
          s.completed t r .flashError p.done (leBytes 4 (p.relFirst + p.k) ++ [1]))

/-- LINK_REPLY otherwise: a stray frame is a malformed reply counted and nothing more; a good IDENT gives the guard
the capacity report; a stripe command's reply goes to the erase engine and the link is free (R96, R99, R101).
A frame is good when its check value is right and it is what the command may be answered with: an IDENT with a capacity other
than 0, a READ's data of its length, the OK of a WRITE or DISCARD, or a MEDIA_ERROR that names a sector of the command (R96).
START_UP_IDENT and PROBE issue IDENT with its 250 ms timeout. At start-up the link goes to BUSY; a probe leaves it in
FAULT and its timer stopped (R101, R100, R97). That nothing is granted while an identity is taken or before the engine
takes a reply is deduced (logs 27 and 28; with an older event before the reply it is the model's choice, log 70), and so is that frames and replies are counted and the link section rewritten in
HALTED too, which R106 can be read to exclude (log 51). PROBE acts whenever its timer runs (log 5). -/
def Obligations.IdentitiesAndRepliesToTheEngine : Prop :=
  (∀ (s : State) (x : Frame) (time : Nat), s.alive = true →
     (s.link.inFlight = none →
       ∃ t, exec (.linkReply x time) s = .next t ∧ t.link = { s.link with malformed := satInc16 s.link.malformed } ∧
         s.rewritten t .link ∧ s.sameBut [.link, .pageLink] t) ∧
     (∀ f cap ef ed, s.link.inFlight = some f → f.resetting = false → f.owner = .controller → f.cmd = .ident →
       frameFits f x = true → x.reply = .ident cap ef ed →
       ∃ t, exec (.linkReply x time) s = .next t ∧ t.link = { s.link with inFlight := none, ident := .guard } ∧
         t.guard.inbox = s.guard.inbox ++ [.capacity cap ef ed] ∧ s.sameBut (([.link, .guardInbox] : List Part) ++ showing) t) ∧
     (∀ f, s.link.inFlight = some f → f.resetting = false → f.owner = .engine → frameFits f x = true →
       f.cmd ≠ .ident →
       ∃ t, exec (.linkReply x time) s = .next t ∧ t.link.inFlight = none ∧
         (∃ o, t.erase.inbox = s.erase.inbox ++ .reply o :: t.grantEvent ∧
           (x.reply = .ok → o = .ok time f.expect) ∧ (∀ d, x.reply = .data d → o = .data (d.all (· = 0))) ∧
           (∀ n, x.reply = .mediaError n → o = .mediaError ∧ t.link.mediaErrors = satInc16 s.link.mediaErrors)) ∧
         s.sameBut (([.eraseInbox, .link, .pageLink] : List Part) ++ showing) t)) ∧
  (∀ (f : InFlight) (x : Frame), frameFits f x = true ↔ x.checkOk = true ∧
    ((f.cmd = .ident ∧ ∃ cap ef ed, x.reply = .ident cap ef ed ∧ cap ≠ 0) ∨
      (f.cmd = .read ∧ ∃ d, x.reply = .data d ∧ d.length = f.count) ∨
      ((f.cmd = .write ∨ f.cmd = .discard) ∧ x.reply = .ok) ∨
      (f.cmd ≠ .ident ∧ ∃ n, x.reply = .mediaError n ∧ f.first ≤ n.toNat ∧ n.toNat < f.first + f.count))) ∧
  ((∀ s : State, s.stepDue 5 = true → s.startUp.identAsked = false → s.link.inFlight = none → s.link.ident = .none →
     s.linkServes = true →
     ∃ t, exec .startUpIdent s = .next t ∧ t.startUp = { s.startUp with identAsked := true } ∧
       t.link = { s.link with
         state := .busy, granted := none
         inFlight := some { cmd := .ident, first := 0, count := 0, owner := .controller, left := 2500 } } ∧
       s.rewritten t .link ∧ s.sameBut [.startUp, .link, .pageLink] t) ∧
   ∀ s : State, s.alive = true → s.link.state = .fault → s.link.probeLeft.isSome = true → s.link.inFlight = none →
     s.link.ident = .none → s.linkServes = true →
     ∃ t, exec .probe s = .next t ∧
       t.link = { s.link with
         probeLeft := none
         inFlight := some { cmd := .ident, first := 0, count := 0, owner := .controller, probe := true, left := 2500 } } ∧
       s.sameBut [.link] t)

/-- A command that times out or gets a malformed reply, one that is not good in the words of
IdentitiesAndRepliesToTheEngine, is reissued once, 2 ms later, with its timeout afresh; the second time the link goes to
FAULT: counted, LINK attention set, an active sector request ended LINK_FAULT with the done count it had reached, the
probe timer set to 1 s, and the engine told, or, in STARTING, start-up going on to step 6 when the command was its IDENT
(R93, R101, R154). A command no longer wanted, and any command under a supply warning or in HALTED, is not reissued: it is given up
without FAULT, the sector request ends with the end decided for it, else POWER or HALTED, and the engine is told. A probe
that fails leaves the link in FAULT with its timer at 1 s (R97, R98, R100, R106). When a reissue is counted, and that a
second failure under a warning or in HALTED is such a giving up, is deduced (logs 16 and 45), and so are the counts, READY
and the rewritten link section of a command that ends in HALTED, where R106 has the counts keep their values (log 51).
POWER when both stand is the model's choice (log 46), and so is the end of a sector request before the grant of a pending
request of the engine (log 68); timeouts and resets end whenever their rows come (logs 5 and 19). -/
def Obligations.LinkFailures : Prop :=
  ∀ (s : State) (f : InFlight), s.alive = true → s.memOk = true → s.link.inFlight = some f →
    let failing (c : Instr) : Prop := c = .linkTimeout ∨ ∃ x time, c = .linkReply x time ∧ frameFits f x = false
    let counted (c : Instr) (t : State) : Prop :=
      (c = .linkTimeout → t.link.timeouts = satInc16 s.link.timeouts ∧ t.link.malformed = s.link.malformed) ∧
        (c ≠ .linkTimeout → t.link.malformed = satInc16 s.link.malformed ∧ t.link.timeouts = s.link.timeouts)
    let givenUp (t : State) : Prop :=
      t.link.inFlight = none ∧ t.link.faults = s.link.faults ∧ t.link.reissues = s.link.reissues ∧
        (s.linkServes = false → t.link.state = .ready ∧ t.link.granted = none) ∧
        match f.owner with
        | .sector =>
          let st := s.sector.ended.getD (if s.link.warned then .power else .halted)
          (∀ r, s.sectorHead = some r → st ≠ .flashError →
            t.sector.phase = .idle ∧ (s.zeroed st).completed t r st s.sector.done []) ∧ s.sameBut (sectorEnding ++ showing) t
        | .engine =>
          t.erase.inbox = s.erase.inbox ++ .reply .givenUp :: t.grantEvent ∧
            s.sameBut (([.eraseInbox, .link, .pageLink] : List Part) ++ showing) t
        | .controller =>
          t.startUp = { s.startUp with identAsked := false } ∧ s.sameBut (.startUp :: (granting ++ showing)) t
    (f.resetting = false → f.probe = true → ∀ c, failing c →
      ∃ t, exec c s = .next t ∧ counted c t ∧ t.link.inFlight = none ∧ t.link.state = s.link.state ∧
        t.link.probeLeft = (if s.link.warned || s.device = .halted then none else some 1000) ∧
        t.link.faults = s.link.faults ∧ s.rewritten t .link ∧ s.sameBut (([.link, .pageLink] : List Part) ++ showing) t) ∧
    (f.resetting = false → f.probe = false → f.withdrawn = true ∨ s.linkServes = false → ∀ c, failing c →
      ∃ t, exec c s = .next t ∧ counted c t ∧ givenUp t) ∧
    (f.resetting = false → f.probe = false → f.withdrawn = false → s.linkServes = true → ∀ c, failing c →
      ∃ t, exec c s = .next t ∧ counted c t ∧
        (f.failedOnce = false →
          t.link.inFlight = some { f with failedOnce := true, resetting := true, left := 20 } ∧
            t.link.reissues = satInc16 s.link.reissues ∧ s.rewritten t .link ∧
            s.sameBut (([.link, .pageLink] : List Part) ++ showing) t) ∧
        (f.failedOnce = true →
          t.link.state = .fault ∧ t.link.inFlight = none ∧ t.link.faults = satInc16 s.link.faults ∧
            t.link.probeLeft = some 1000 ∧ t.attending .link = true ∧
            (s.device ≠ .starting → t.erase.inbox.getLast? = some .linkFault) ∧
            (s.device = .starting →
              t.startUp =
                { s.startUp with next := if s.startUp.identAsked then 6 else s.startUp.next, identAsked := false }) ∧
            (∀ r, s.sectorHead = some r →
              s.sector.phase = .waitingGrant ∨ s.sector.phase = .checking ∨ s.sector.phase = .inFlight →
              t.sector.phase = .idle ∧ s.completed t r .linkFault s.sector.done []) ∧
            s.sameBut (linkEnding ++ showing) t)) ∧
    (f.resetting = true → f.withdrawn = false → s.linkServes = true →
      ∃ t, exec .linkReissue s = .next t ∧
        t.link = { s.link with
          inFlight := some
            { f with
              resetting := false
              left := match f.owner with
                | .engine => max 10000 (4 * f.expect)
                | _ => 2500 } } ∧
        s.sameBut (.link :: showing) t) ∧
    (f.resetting = true → f.withdrawn = true ∨ s.linkServes = false →
      ∃ t, exec .linkReissue s = .next t ∧ t.link.timeouts = s.link.timeouts ∧ t.link.malformed = s.link.malformed ∧ givenUp t)

/-! ### The credential unit -/

/-- ENROLL at the head of the enroll queue, with no verification and no enrollment in progress: the checks in their
order, each ending the request with its status; when all pass the enrollment is begun with its parameters, the admin
window is held at 300 s and the keypad is ordered into its first stage (R39, R40, R41, R37). That the restart of the timer and the
hold are one rewrite of the window section is the model's choice (log 72). -/
def Obligations.EnrollmentsBegin : Prop :=
  ∀ (s : State) (r : Request) (q : List Request), s.alive = true → s.memOk = true → s.credReady = true →
    s.cred.verify = none → s.cred.enroll = none → s.exch.enrollQ = r :: q →
    ∃ t, exec .enroll s = .next t ∧
      s.sameBut (([.window, .pageWindow, .credWork, .keypadInbox, .keyOrder] : List Part) ++ completing ++ showing) t ∧
      (let turnedAway (st : Status) : Prop := s.completed t r st 0 [] ∧ t.cred.window = s.cred.window
       let fails (st : Status) : Prop :=
        s.completed t r st 0 [] ∧ t.cred.enroll = none ∧ s.rewritten t .window ∧
          t.cred.window = s.cred.window.map fun w => { w with left := 300 }
       let authorized : Prop :=
        if s.device = .unprovisioned then roleOfCode (r.byte 5) = some .admin ∧ r.byte 7 = 0 else s.cred.window.isSome = true
       (s.device = .halted → turnedAway .halted) ∧
       (s.device ≠ .halted → s.cred.warned = true → turnedAway .power) ∧
       (s.device ≠ .halted → s.cred.warned = false → ¬authorized → turnedAway .notAuthorized) ∧
       (s.device ≠ .halted → s.cred.warned = false → authorized →
        match slotOfNumber (r.byte 4).toNat, roleOfCode (r.byte 5) with
        | some i, some role =>
          if (s.cslot i).role ≠ .empty then fails .slotInUse
          else if role = .recovery ∧ 2 ≤ allSlots.countP fun j => (s.cslot j).role = .recovery then fails .badParam
          else if role.bindsByWraps && allVols.any fun v => inSet (r.byte 7) v && !(s.vol v).isOpen then fails .keyUnavailable
          else
            t.cred.enroll = some
              { req := { r with begun := true }, slot := i, role := role
                readOnly := role = .user && (r.byte 6).getLsbD 0, bind := r.byte 7
                work := BitVec.ofNat 2 (min (r.byte 8).toNat 3), firstAdmin := s.device = .unprovisioned } ∧
              t.exch.enrollQ.head? = some { r with begun := true } ∧ t.exch.mem = s.exch.mem ∧
              t.keypad.inbox = s.keypad.inbox ++ [.enroll] ∧ s.rewritten t .window ∧
              t.cred.window = s.cred.window.map fun w => { w with left := 300, held := true }
        | _, _ => fails .badParam))

/-- The stages of an enrollment. ENROLL_ENTRY: the first typing is kept; a second typing that differs ends it MISMATCH, a
length not allowed BAD_LENGTH, and otherwise the search for a duplicate begins at the lowest slot of the domain.
DERIVATION_DONE: a slot of the same PIN ends it DUPLICATE, otherwise the search goes on, and after its last slot the salt
is drawn and the new slot's derivation begins; that one fills the slot, wraps the bound volumes' keys and has the SLOT
record committed; a completion is taken in its turn among the unit's events (R29). ENROLL_EARLY_END ends an enrollment
that has not queued its record (R41, R42, R43, R44). That a report of a stage is taken for the enrollment in progress, be
it of the one before, and without effect when none is, is the model's choice (log 62). The derivation, the wrapping and
the draws are free (logs 6 and 7); that DERIVATION_DONE acts whatever time the derivation has left is the model's choice
(log 5). -/
def Obligations.EnrollmentStages : Prop :=
  (∀ (s : State) (c : Instr) (rest : List CredEvent), s.alive = true → s.credFree = true → s.cred.enroll = none →
    (c = .enrollEntry ∧ ∃ digits, s.cred.inbox = .enrollEntry digits :: rest) ∨
      (c = .enrollEarlyEnd ∧ ∃ why, s.cred.inbox = .enrollEnd why :: rest) →
    ∃ t, exec c s = .next t ∧ t.cred.inbox = rest ∧ s.sameBut (.credInbox :: showing) t) ∧
  ∀ (s : State) (e : Enrollment) (d : Domain), s.alive = true → s.memOk = true → s.credFree = true → s.storeTakes = true →
    s.cred.enroll = some e → s.cred.verify = none → e.role.domain = some d →
    let ended (t : State) (st : Status) (orders : List KeyOrder) : Prop :=
      s.completed t e.req st 0 [] ∧ t.cred.enroll = none ∧ t.cred.deriv = none ∧
        t.keypad.inbox = s.keypad.inbox ++ orders ∧ s.rewritten t .window ∧
        t.cred.window = s.cred.window.map fun w => { w with left := 300, held := false }
    let inDomain (j : CSlot) : Prop := (s.cslot j).role.domain = some d
    let searches (t : State) (n : Nat) (pin : List Digit) (x : Enrollment) : Prop :=
      (∀ j, n ≤ j.val → inDomain j → (∀ i, n ≤ i.val → i < j → ¬inDomain i) →
        t.cred.enroll = some { x with stage := .duplicate j false } ∧
          t.cred.deriv = some ⟨pin, (s.cslot j).salt, (s.cslot j).work, derivationMs (s.cslot j).work⟩) ∧
      ((∀ j, n ≤ j.val → ¬inDomain j) →
        t.draws = s.draws + 1 ∧ t.cred.enroll = some { x with stage := .final, salt := Config.randomSalt s.draws } ∧
          t.cred.deriv = some ⟨pin, Config.randomSalt s.draws, x.work, derivationMs x.work⟩)
    (∀ digits rest, s.cred.inbox = .enrollEntry digits :: rest →
      ∃ t, exec .enrollEntry s = .next t ∧ s.sameBut (.draws :: (enrollEnding ++ showing)) t ∧
        (e.stage = .first → t.cred.enroll = some { e with pin := digits, stage := .second } ∧ t.cred.inbox = rest ∧
          s.sameBut (([.credWork, .credInbox] : List Part) ++ showing) t) ∧
        (e.stage = .second →
          let allowed : Prop :=
            if e.role = .recovery then digits.length = 16
            else min (max s.store.policy.minPin 6) 16 ≤ digits.length ∧ digits.length ≤ 16
          (digits ≠ e.pin → ended t .mismatch [.outcome false]) ∧
          (digits = e.pin → ¬allowed → ended t .badLength [.outcome false]) ∧
          (digits = e.pin → allowed → searches t 0 e.pin e))) ∧
    (∀ x i revoked, s.cred.inbox = [] ∨ s.cred.inbox.head? = some .derived → s.cred.deriv = some x →
      e.stage = .duplicate i revoked →
      ∃ t, exec .derivationDone s = .next t ∧ s.sameBut (.draws :: (enrollEnding ++ showing)) t ∧
        let same : Prop :=
          revoked = false ∧ (s.cslot i).role.domain.isSome = true ∧
            (Config.derive x.digits x.salt x.work).extractLsb' 0 128 = (s.cslot i).verifier
        (same → ended t .duplicate [.outcome false]) ∧ (¬same → searches t (i.val + 1) e.pin e)) ∧
    (∀ x, s.cred.inbox = [] ∨ s.cred.inbox.head? = some .derived → s.cred.deriv = some x → e.stage = .final →
      ∃ t, exec .derivationDone s = .next t ∧
        s.sameBut (([.slots, .credRest, .commits] : List Part) ++ enrollEnding ++ showing) t ∧
        let out := Config.derive x.digits x.salt x.work
        let kek : Kek := out.extractLsb' 128 128
        let shut : Bool := allVols.any fun v => inSet e.bind v && !(s.vol v).isOpen
        (e.role.bindsByWraps = true → shut = true → ended t .keyUnavailable [.outcome false]) ∧
        ((e.role.bindsByWraps && shut) = false →
          let c : CredSlot :=
            { role := e.role, readOnly := e.readOnly, salt := e.salt, work := e.work, verifier := out.extractLsb' 0 128
              bind := e.bind
              wraps :=
                if e.role.bindsByWraps then
                  (allVols.filter fun v => inSet e.bind v).map fun v =>
                    { vol := v, wrapped := Config.wrapPerm kek v (s.vol v).key
                      tag := Config.wrapTag kek v (Config.wrapPerm kek v (s.vol v).key) }
                else [] }
          (∀ i, t.cslot i = if i = e.slot then c else s.cslot i) ∧ t.cred.wait = .enroll ∧
            t.cred.enroll = some { e with stage := .slotCommit, kek := if e.firstAdmin then kek else 0 } ∧
            t.awaits (.slot e.slot c) .credential)) ∧
    ∀ why rest, s.cred.inbox = .enrollEnd why :: rest →
      ∃ t, exec .enrollEarlyEnd s = .next t ∧
        if e.committed then t.cred.inbox = rest ∧ s.sameBut (.credInbox :: showing) t
        else
          ended t (match why with
            | .keypadAbort => .keypadAbort
            | .chord => .keypadAbort
            | .timeout => .timeout) [] ∧
            s.sameBut (enrollEnding ++ showing) t

/-- REVOKE: the checks in their order; a slot that may be revoked is EMPTY at once, a verification that tries it will
not match, and its SLOT record's commit is awaited (R45). FACTORY_REVOCATION ends an enrollment, closes the window,
empties every slot and clears the provisioned flag, with all of their commits awaited (R46). REMOVAL takes a volume
out of every wrap list that names it, with those commits awaited, and tells the erase engine when there is none; an
enrollment that binds it ends (R26, R44). In HALTED a REVOKE ends HALTED with no change. The orders act there too: when
the store takes no record any more none is awaited, which is deduced (log 31). That the enrollment which a factory order ends
gives no flash is deduced too (log 65). -/
def Obligations.SlotsAreRevoked : Prop :=
  ∀ s : State, s.alive = true → s.memOk = true → s.credFree = true →
    let stripped (t : State) (v : Vol) : Prop := ∀ i, t.cslot i =
      if (s.cslot i).wraps.any fun e => e.vol = v then
        { s.cslot i with
          wraps := (s.cslot i).wraps.filter fun e => e.vol ≠ v
          bind := if (s.cslot i).role.bindsByWraps then (s.cslot i).bind &&& ~~~(single v) else (s.cslot i).bind }
      else s.cslot i
    let emptied (t : State) : Prop :=
      (∀ i, t.cslot i = if (s.cslot i).occupied then {} else s.cslot i) ∧
        t.store.device = { s.store.device with provisioned := false } ∧ t.cred.window = none ∧
        (s.cred.window.isSome = true → t.cred.adminKey = 0)
    let enrollEnds (t : State) (e : Enrollment) (st : Status) : Prop :=
      e.committed = false → t.cred.enroll = none ∧ s.completed t e.req st 0 []
    (∀ r rest, s.cred.inbox = .revoke r :: rest → s.device = .halted →
      ∃ t, exec .revoke s = .next t ∧ s.completed t r .halted 0 [] ∧ s.sameBut (completing ++ showing) t) ∧
    (∀ rest, s.cred.inbox = .factory :: rest → s.storeTakes = false →
      ∃ t, exec .factoryRevocation s = .next t ∧ emptied t ∧ t.cred.wait = .free ∧
        (∀ e, s.cred.enroll = some e → enrollEnds t e .keypadAbort ∧
          (e.committed = false → t.keypad.inbox = s.keypad.inbox ++ [.toIdle false])) ∧
        s.sameBut (.slots :: (enrollEnding ++ showing)) t) ∧
    (∀ v rest, s.cred.inbox = .removal v :: rest → s.storeTakes = false →
      ∃ t, exec .removal s = .next t ∧ stripped t v ∧ t.cred.wait = .free ∧
        (∀ e, s.cred.enroll = some e → e.role.bindsByWraps = true → inSet e.bind v = true → enrollEnds t e .keyUnavailable) ∧
        ((∃ i, (s.cslot i).names v = true) → t.erase.job = s.erase.job) ∧
        s.sameBut (([.slots, .eraseRest] : List Part) ++ enrollEnding ++ showing) t) ∧
    (s.storeTakes = true →
    (∀ r rest, s.cred.inbox = .revoke r :: rest →
      ∃ t, exec .revoke s = .next t ∧
        s.sameBut (([.slots, .credWork, .credRest, .window, .pageWindow, .commits] : List Part) ++ completing ++ showing) t ∧
        (if s.device = .halted then s.completed t r .halted 0 [] ∧ t.cred.slots = s.cred.slots
         else if s.cred.warned then s.completed t r .power 0 [] ∧ t.cred.slots = s.cred.slots
         else
          match s.cred.window with
          | none => s.completed t r .notAuthorized 0 [] ∧ t.cred.slots = s.cred.slots
          | some w =>
            t.cred.window = some { w with left := 300 } ∧ s.rewritten t .window ∧
              match slotOfNumber (r.byte 4).toNat with
              | none => s.completed t r .badParam 0 [] ∧ t.cred.slots = s.cred.slots
              | some i =>
                if (s.cslot i).role = .empty then s.completed t r .badParam 0 [] ∧ t.cred.slots = s.cred.slots
                else if (s.cslot i).role = .admin && !allSlots.any fun j => j ≠ i && (s.cslot j).role = .admin then
                  s.completed t r .lastAdmin 0 [] ∧ t.cred.slots = s.cred.slots
                else
                  (∀ j, t.cslot j = if j = i then {} else s.cslot j) ∧ t.cred.wait = .revoke r (s.cslot i).role i ∧
                    t.awaits (.slot i {}) .credential ∧
                    ∀ v b, s.cred.verify = some v → v.phase = .trying i b →
                      t.cred.verify = some { v with phase := .trying i true })) ∧
    (∀ rest, s.cred.inbox = .factory :: rest →
      ∃ t, exec .factoryRevocation s = .next t ∧ emptied t ∧
        (∀ i, (s.cslot i).occupied = true → t.awaits (.slot i {}) .credential) ∧
        t.cred.wait = .factory ((allSlots.countP fun i => (s.cslot i).occupied) + 1) ∧
        t.awaits (.device t.store.device) .credential ∧
        (∀ e, s.cred.enroll = some e → enrollEnds t e .keypadAbort ∧
          (e.committed = false → t.keypad.inbox = s.keypad.inbox ++ [.toIdle false])) ∧
        s.sameBut (([.slots, .credRest, .commits] : List Part) ++ enrollEnding ++ showing) t) ∧
    ∀ v rest, s.cred.inbox = .removal v :: rest →
      ∃ t, exec .removal s = .next t ∧ stripped t v ∧
        (∀ i, (s.cslot i).names v = true → t.awaits (t.slotRec i) .credential) ∧
        (let n := allSlots.countP fun i => (s.cslot i).names v
         if n = 0 then
          t.cred.wait = .free ∧ ∀ a w, s.erase.job = .accept a → a.stage = .removal w →
            t.guard.inbox.getLast? = some (.eraseAccept w) ∧ t.erase.job = .accept { a with stage := .guard w }
         else t.cred.wait = .removal n ∧ t.erase.job = s.erase.job) ∧
        (∀ e, s.cred.enroll = some e → e.role.bindsByWraps = true → inSet e.bind v = true → enrollEnds t e .keyUnavailable) ∧
        s.sameBut (([.slots, .credRest, .commits, .eraseRest] : List Part) ++ enrollEnding ++ showing) t)

/-- A verification. ENTRY_HANDED asks for its charge; it is void during an enrollment and once the unit has taken the
entry to HALTED, the unit's own view of it and not the device state, which is deduced (log 54). CHARGE_COMMITTED: a
CADENCE entry, one abandoned by a supply warning, or any under a warning, is a no-match at once; another is tried at the
lowest slot of its domain. DERIVATION_DONE: a verifier that differs, or a slot revoked since, leads to the next slot, and
after the last to a no-match; a match reports it, sends the open orders of the wrap list in its order, a fault order for a
tag that does not agree, and opens the window but for a USER slot; a WIPE slot's match hands its mask to the erase engine
and shows as a rejection (R30 to R35). A completion that finds the unit held, or an older event waiting, stands behind it
among the unit's events and is taken in its turn, after the ticks before it (R29, R37; log 10). That an entry abandoned
while its charge was awaited is a no-match also when the supply has recovered is deduced (log 32). The derivation and the
wrapping are free (log 6), and DERIVATION_DONE may come at any time (log 5). -/
def Obligations.VerificationRuns : Prop :=
  (∀ s : State, s.alive = true → s.credFree = false →
    (∀ x, .derived ∉ s.cred.inbox → s.cred.deriv = some x →
      exec .derivationDone s = .next { s with cred := { s.cred with inbox := s.cred.inbox ++ [.derived] } }) ∧
    (.derived ∈ s.cred.inbox → exec .derivationDone s = .next s)) ∧
  ∀ s : State, s.alive = true → s.credFree = true →
    let unmatched (t : State) (v : Verification) : Prop :=
      t.cred.verify = none ∧ t.cred.deriv = none ∧ t.lockout.inbox = s.lockout.inbox ++ [.noMatch v.domain] ∧
        t.keypad.inbox = s.keypad.inbox ++ [.outcome false] ∧
        s.sameBut (([.credWork, .deriv, .credInbox, .lockoutRest, .keypadInbox, .keyOrder] : List Part) ++ showing) t
    let searches (t : State) (v : Verification) (n : Nat) : Prop :=
      let inDomain (j : CSlot) : Prop := (s.cslot j).role.domain = some v.domain
      (∀ j, n ≤ j.val → inDomain j → (∀ i, n ≤ i.val → i < j → ¬inDomain i) →
        t.cred.verify = some { v with phase := .trying j false } ∧
          t.cred.deriv = some ⟨v.digits, (s.cslot j).salt, (s.cslot j).work, derivationMs (s.cslot j).work⟩ ∧
          s.sameBut (([.credWork, .deriv, .credInbox] : List Part) ++ showing) t) ∧
      ((∀ j, n ≤ j.val → ¬inDomain j) → unmatched t v)
    (∀ digits d cadence rest, s.cred.inbox = .entry digits d cadence :: rest →
      ∃ t, exec .entryHanded s = .next t ∧ t.cred.inbox = rest ∧
        (s.cred.halted = true ∨ s.cred.enroll.isSome = true → s.sameBut (.credInbox :: showing) t) ∧
        (s.cred.halted = false → s.cred.enroll = none →
          t.cred.verify = some { digits := digits, domain := d, cadence := cadence, phase := .charging } ∧
            t.lockout.inbox = s.lockout.inbox ++ [.charge d] ∧
            s.sameBut (([.credWork, .credInbox, .lockoutRest] : List Part) ++ showing) t)) ∧
    (∀ v rest, s.cred.inbox = .chargeCommitted :: rest → s.cred.verify = some v →
      ∃ t, exec .chargeCommitted s = .next t ∧ t.cred.inbox.filter (· ≠ .derived) = rest.filter (· ≠ .derived) ∧
        if v.cadence || v.abandoned || s.cred.warned then unmatched t v else searches t v 0) ∧
    (∀ k x, s.cred.inbox = List.replicate k .tick → s.cred.deriv = some x →
      exec .derivationDone s = exec .derivationDone s.takeWindowTicks) ∧
    (∀ e rest, s.cred.inbox = e :: rest → e ≠ .tick →
      (∀ x, .derived ∉ s.cred.inbox → s.cred.deriv = some x →
        exec .derivationDone s = .next { s with cred := { s.cred with inbox := s.cred.inbox ++ [.derived] } }) ∧
      (.derived ∈ rest → e ≠ .derived → exec .derivationDone s = .next s)) ∧
    ∀ x v i revoked, s.cred.inbox = [] ∨ s.cred.inbox.head? = some .derived → s.cred.deriv = some x →
      s.cred.verify = some v → v.phase = .trying i revoked →
      ∃ t, exec .derivationDone s = .next t ∧ t.cred.inbox = s.cred.inbox.filter (· ≠ .derived) ∧
        let out := Config.derive x.digits x.salt x.work
        let kek : Kek := out.extractLsb' 128 128
        let c := s.cslot i
        let hit : Prop := revoked = false ∧ c.role.domain.isSome = true ∧ out.extractLsb' 0 128 = c.verifier
        let matched : Prop :=
          t.cred.verify = none ∧ t.cred.deriv = none ∧ t.lockout.inbox = s.lockout.inbox ++ [.matched v.domain]
        (¬hit → searches t v (i.val + 1)) ∧
        (hit → c.role = .wipe → matched ∧ t.keypad.inbox = s.keypad.inbox ++ [.outcome false] ∧
          t.erase.inbox = s.erase.inbox ++ (if c.bind = 0 then [] else [.wipe c.bind]) ∧
          s.sameBut (([.credWork, .deriv, .credInbox, .lockoutRest, .keypadInbox, .keyOrder, .eraseInbox] : List Part) ++
            showing) t) ∧
        (hit → c.role ≠ .wipe → matched ∧ t.keypad.inbox = s.keypad.inbox ++ [.outcome true] ∧
          t.guard.inbox = s.guard.inbox ++ (c.wraps.map fun e =>
            if Config.wrapTag kek e.vol e.wrapped = e.tag then
              .openVolume e.vol ((Config.wrapPerm kek e.vol).symm e.wrapped) i (c.role ≠ .user || !c.readOnly)
            else .fault e.vol) ∧
          (if c.role = .user then t.cred.window = s.cred.window ∧ t.cred.adminKey = s.cred.adminKey
           else t.cred.window = some ⟨i, 300, false⟩ ∧ t.cred.adminKey = kek ∧ s.rewritten t .window) ∧
          s.sameBut (([.credWork, .deriv, .credInbox, .lockoutRest, .keypadInbox, .keyOrder, .guardInbox, .window, .pageWindow,
            .credRest] : List Part) ++ showing) t)

/-- The admin window. WINDOW_TICK counts an OPEN window that is not held down by a second; a tick that finds the unit
held, or an older event waiting, stands behind it among the unit's events, and ticks that waited are taken when their
turn has come, none being lost; the tick that reaches 0, WINDOW_EXPIRY and WINDOW_CLOSE close it: the admin key
register is zeroed, and an enrollment other than the first ADMIN one that has not queued its record ends
NOT_AUTHORIZED; a LOCK that waited for the closing ends OK with the set it locked (R29, R37, R38, R44, R19). A close
cause, a tick or an expiry that finds the window CLOSED changes nothing at the unit, and a LOCK that waits ends OK all
the same (R38, R19). That the ticks are events like the others is deduced (log 10), and so is the end of an enrollment
at every close cause (log 41); WINDOW_EXPIRY is the tick that reaches 0 (log 5). That the last second and the close are one rewrite
of the window section is the model's choice (log 72). -/
def Obligations.WindowCloses : Prop :=
  (∀ s : State, s.alive = true → s.memOk = true → s.cred.window = none →
    (s.credReady = true → ∃ t, exec .windowTick s = .next t ∧ s.sameBut showing t) ∧ exec .windowExpiry s = .next s ∧
    ∀ forLock rest, s.credFree = true → s.cred.inbox = .windowClose forLock :: rest →
      ∃ t, exec .windowClose s = .next t ∧
        (forLock = false ∨ (∀ r m, s.guard.wait ≠ .windowClose r m) →
          t.cred = { s.cred with inbox := rest } ∧ s.sameBut (.credInbox :: showing) t) ∧
        ∀ r m, forLock = true → s.guard.wait = .windowClose r m →
          t.guard.wait = .free ∧ s.completed t r .ok 0 [m] ∧ s.sameBut (completing ++ showing) t) ∧
  ∀ (s : State) (w : Window), s.alive = true → s.memOk = true → s.cred.window = some w →
    let closed (t : State) : Prop :=
      t.cred.window = none ∧ t.cred.adminKey = 0 ∧ s.rewritten t .window ∧ s.sameBut (enrollEnding ++ showing) t
    let enrollEnds (t : State) : Prop :=
      ∀ e, s.cred.enroll = some e → e.committed = false → e.firstAdmin = false →
        t.cred.enroll = none ∧ s.completed t e.req .notAuthorized 0 []
    (s.credReady = true →
      ∃ t, exec .windowTick s = .next t ∧
        (w.held = true → s.sameBut showing t) ∧
        (w.held = false → 1 < w.left → t.cred.window = some { w with left := w.left - 1 } ∧
          t.cred.adminKey = s.cred.adminKey ∧ s.rewritten t .window ∧
          s.sameBut (([.window, .pageWindow] : List Part) ++ showing) t) ∧
        (w.held = false → w.left ≤ 1 → closed t ∧ enrollEnds t)) ∧
    (s.credFree = false ∨ (∃ e rest, s.cred.inbox = e :: rest ∧ e ≠ .tick) →
      exec .windowTick s = .next { s with cred := { s.cred with inbox := s.cred.inbox ++ [.tick] } }) ∧
    (∀ n, s.credFree = true → s.cred.inbox = List.replicate n .tick → w.held = false → n + 1 < w.left →
      ∃ t, exec .windowTick s = .next t ∧ t.cred.window = some { w with left := w.left - (n + 1) } ∧ t.cred.inbox = [] ∧
        s.sameBut (([.window, .pageWindow, .credInbox] : List Part) ++ showing) t) ∧
    (s.credReady = true → w.held = false → w.left ≤ 1 →
      ∃ t, exec .windowExpiry s = .next t ∧ closed t ∧ enrollEnds t) ∧
    ∀ forLock rest, s.credFree = true → s.cred.inbox = .windowClose forLock :: rest →
      ∃ t, exec .windowClose s = .next t ∧ closed t ∧
        (forLock = false ∨ (∀ r m, s.guard.wait ≠ .windowClose r m) → enrollEnds t) ∧
        (∀ e, s.cred.enroll = some e → e.committed = false → e.firstAdmin = false →
          t.cred.enroll = none ∧
            ((∀ r m, s.guard.wait = .windowClose r m → e.req.slot ≠ r.slot) →
              t.doneWith e.req.slot .notAuthorized ∧ t.outOfQueues e.req.slot)) ∧
        ∀ r m, forLock = true → s.guard.wait = .windowClose r m →
          t.guard.wait = .free ∧ t.doneWith r.slot .ok ∧ t.slotByte r.slot 36 = m ∧ t.outOfQueues r.slot

/-! ### The lockout unit -/

/-- CHARGE samples the domain's inputs, counts the entry, up to 255, sets the flag when a lockout is then due and awaits
the commit. MATCH_REPORT clears the domain. NO_MATCH_REPORT hands a brute-force wipe to the erase engine at the
threshold, starts the lockout of step f - A above the free attempts when none runs, and does nothing otherwise.
ACCEPTANCE_COMPLETE clears the domain that wiped, with LOCKOUT attention, and frees the unit; during the examination of
start-up that goes on after NORMAL with RECOVERY: sampled, and wiped, locked out, cleared of its flag or left; with no further
wipe the section is written and step 5 is due (R154). Otherwise the other domain stays as it was (R51, R53, R54, R56, R58,
R62). A charge that a stopped store fails is not awaited (R52, R148). Each rewrites
its domain's entry of the section alone. That a charge or a report is taken off and has no effect once the unit has taken the
entry to HALTED, and not from the device state on, is deduced: R63 says only that it takes no further one (logs 31 and 54). -/
def Obligations.LockoutReports : Prop :=
  (∀ (s : State) (d : Domain) (rest : List LockEvent) (c : Instr) (e : LockEvent), s.alive = true → s.lockoutFree = true →
    s.lockout.halted = true → s.lockout.inbox = e :: rest →
    (c = .charge ∧ e = .charge d) ∨ (c = .matchReport ∧ e = .matched d) ∨ (c = .noMatchReport ∧ e = .noMatch d) →
    ∃ t, exec c s = .next t ∧ t.lockout = { s.lockout with inbox := rest } ∧ s.sameBut (.lockoutRest :: showing) t) ∧
  ∀ (s : State) (d : Domain) (rest : List LockEvent), s.alive = true → s.lockout.halted = false →
    let x := s.domain d
    let cleared : DomainState := { x with f := 0, flag := false, lockedOut := false, left := 0, step := 0 }
    let others (t : State) : Prop := ∀ e, e ≠ d → t.domain e = s.domain e
    let counting : List Part := [.domains, .lockoutRest, .commits, .storeRest, .attn, .pageDomains]
    (s.lockoutFree = true → s.lockout.inbox = .charge d :: rest →
      let i := sampleInputs (s.store.policy.domain d)
      let f := min (x.f + 1) 255
      ∃ t, exec .charge s = .next t ∧ t.domain d = { x with inputs := i, f := f, flag := x.flag || i.a < f } ∧ others t ∧
        t.lockout.wait = (if s.storeTakes then .charge d else .free) ∧ t.lockout.inbox = rest ∧
        t.awaits (.domain d ⟨f, x.flag || i.a < f⟩) .lockout ∧
        s.sameBut (([.domains, .lockoutRest, .commits, .storeRest] : List Part) ++ showing) t) ∧
    (s.lockoutFree = true → s.lockout.inbox = .matched d :: rest →
      ∃ t, exec .matchReport s = .next t ∧ t.domain d = cleared ∧ others t ∧ t.lockout.inbox = rest ∧
        t.queued (.domain d ⟨0, false⟩) ∧ s.entriesRewritten t (· = d) ∧
        s.sameBut (([.domains, .lockoutRest, .commits, .storeRest, .pageDomains] : List Part) ++ showing) t) ∧
    (s.lockoutFree = true → s.lockout.inbox = .noMatch d :: rest →
      ∃ t, exec .noMatchReport s = .next t ∧ others t ∧ t.lockout.inbox = rest ∧
        if x.inputs.w ≠ 0 ∧ x.inputs.w ≤ x.f then
          t.domain d = x ∧ t.erase.inbox = s.erase.inbox ++ [.brute] ∧ t.lockout.wait = .wipe d ∧
            s.sameBut (([.lockoutRest, .eraseInbox] : List Part) ++ showing) t
        else if x.inputs.a < x.f ∧ x.lockedOut = false then
          t.domain d =
              { x with
                step := x.f - x.inputs.a, left := min (x.inputs.b * 2 ^ (x.f - x.inputs.a - 1)) x.inputs.cap
                lockedOut := true, flag := true } ∧
            t.queued (.domain d ⟨x.f, true⟩) ∧ t.attending .lockout = true ∧ s.entriesRewritten t (· = d) ∧
            s.sameBut (counting ++ showing) t
        else t.domain d = x ∧ s.sameBut (.lockoutRest :: showing) t) ∧
    (s.lockout.waitEnd = some .accepted → s.lockout.wait = .wipe d →
      ∃ t, exec .acceptanceComplete s = .next t ∧ (s.startUp.examining = none → t.domain d = cleared) ∧
        (s.startUp.examining = none →
          others t ∧ t.lockout.wait = .free ∧ t.lockout.inbox = s.lockout.inbox.erase .accepted ∧
            t.queued (.domain d ⟨0, false⟩) ∧ t.attending .lockout = true ∧ s.entriesRewritten t (· = d) ∧
            s.sameBut (counting ++ showing) t) ∧
        (s.startUp.examining = some d →
          let y : DomainState := { s.domain .recovery with inputs := sampleInputs (s.store.policy.domain .recovery) }
          let again : Prop := d = .normal ∧ y.inputs.w ≠ 0 ∧ y.inputs.w ≤ y.f
          t.domain d = cleared ∧ t.queued (.domain d ⟨0, false⟩) ∧ t.attending .lockout = true ∧
            t.lockout.inbox = s.lockout.inbox.erase .accepted ∧
            (again → t.startUp = { s.startUp with examining := some .recovery } ∧ t.domain .recovery = y ∧
              t.lockout.wait = .wipe .recovery ∧ t.erase.inbox = s.erase.inbox ++ [.brute] ∧ t.page.domains = s.page.domains) ∧
            (¬again → t.startUp = { s.startUp with next := 5, examining := none } ∧ t.lockout.wait = .free ∧
              t.erase.inbox = s.erase.inbox ∧ s.rewritten t .domains ∧
              (d = .recovery → t.domain .normal = s.domain .normal) ∧
              (d = .normal →
                t.domain .recovery =
                    (if y.flag ∧ y.inputs.a < y.f then
                      { y with
                        step := y.f - y.inputs.a, left := min (y.inputs.b * 2 ^ (y.f - y.inputs.a - 1)) y.inputs.cap
                        lockedOut := true, flag := true }
                     else { y with flag := false }) ∧
                  (y.flag = true → t.queued (t.domainRec .recovery))))) ∧
        s.sameBut (([.startUp, .eraseInbox] : List Part) ++ counting ++ showing) t)

/-- LOCKOUT_TICK takes a second off every running lockout, and LOCKOUT_END the last one of a domain: at 0 the domain
is READY with no step, its flag is cleared and its record queued, and LOCKOUT attention is set. The entries of the domains that
were LOCKED_OUT are rewritten, and a tick that finds none changes nothing.
A tick that finds the unit held, or an older event waiting, stands behind it among the unit's events, and ticks that
waited are taken when their turn has come, none being lost; once the unit has taken the entry to HALTED nothing runs.
The section is not written before the examination of start-up is done. FACTORY_ORDER clears both domains and rewrites the
section, with LOCKOUT attention when one was locked out (R57, R49, R62, R63, R64). That the unit stops with the entry it has
taken, and not with the device state, and that FACTORY_ORDER acts in HALTED too, is deduced (logs 54 and 31). LOCKOUT_END is
the tick that reaches 0 (log 5); that it counts its own domain alone, a lockout of the other one going on as it stands, is the
model's choice (log 63). -/
def Obligations.LockoutTimer : Prop :=
  ∀ s : State, s.alive = true →
    let served (x : DomainState) : DomainState := { x with lockedOut := false, left := 0, step := 0, flag := false }
    let ends (d : Domain) : Bool := (s.domain d).lockedOut && (s.domain d).left ≤ 1
    (s.lockoutReady = true → s.lockout.halted = false →
      ∃ t, exec .lockoutTick s = .next t ∧
        (∀ d, t.domain d =
          if ends d then served (s.domain d)
          else if (s.domain d).lockedOut then { s.domain d with left := (s.domain d).left - 1 }
          else s.domain d) ∧
        (∀ d, ends d = true → t.attending .lockout = true ∧ t.queued (.domain d ⟨(s.domain d).f, false⟩)) ∧
        ((∀ d, ends d = false) → t.exch.attn = s.exch.attn) ∧
        ((∃ d, (s.domain d).lockedOut = true) →
          if s.device = .starting ∧ s.startUp.next < 5 then t.page.domains = s.page.domains
          else s.entriesRewritten t fun d => (s.domain d).lockedOut) ∧
        ((∀ d, (s.domain d).lockedOut = false) → s.sameBut showing t) ∧
        s.sameBut (lockoutTicking ++ showing) t) ∧
    (s.lockoutReady = true → s.lockout.halted = true → ∃ t, exec .lockoutTick s = .next t ∧ s.sameBut showing t) ∧
    (s.lockoutFree = false ∨ (∃ e rest, s.lockout.inbox = e :: rest ∧ e ≠ .tick) →
      exec .lockoutTick s = .next { s with lockout := { s.lockout with inbox := s.lockout.inbox ++ [.tick] } }) ∧
    (∀ n, s.lockoutFree = true → s.lockout.halted = false → s.lockout.inbox = List.replicate n .tick →
      (∀ d, (s.domain d).lockedOut = true → n + 1 < (s.domain d).left) →
      ∃ t, exec .lockoutTick s = .next t ∧ t.lockout.inbox = [] ∧
        (∀ d, t.domain d =
          if (s.domain d).lockedOut then { s.domain d with left := (s.domain d).left - (n + 1) } else s.domain d) ∧
        s.sameBut (([.domains, .lockoutRest, .pageDomains] : List Part) ++ showing) t) ∧
    (∀ d, s.lockoutReady = true → s.lockout.halted = false → ends d = true →
      ∃ t, exec (.lockoutEnd d) s = .next t ∧ t.domain d = served (s.domain d) ∧ (∀ e, e ≠ d → t.domain e = s.domain e) ∧
        t.attending .lockout = true ∧ t.queued (.domain d ⟨(s.domain d).f, false⟩) ∧ s.entriesRewritten t (· = d) ∧
        s.sameBut (lockoutTicking ++ showing) t) ∧
    ∀ rest, s.lockoutFree = true → s.lockout.inbox = .factory :: rest →
      ∃ t, exec .factoryOrder s = .next t ∧ t.lockout.inbox = rest ∧
        (∀ d, t.domain d = { s.domain d with f := 0, flag := false, lockedOut := false, left := 0, step := 0 } ∧
          t.queued (.domain d ⟨0, false⟩)) ∧
        (if (s.domain .normal).lockedOut || (s.domain .recovery).lockedOut then t.attending .lockout = true
         else t.exch.attn = s.exch.attn) ∧
        s.rewritten t .domains ∧ s.sameBut (.lockoutRest :: (lockoutTicking ++ showing)) t

/-- The duration of a lockout step: the base and the cap of the codes' tables; D(1) is the smaller of them, each step
doubles the one before up to the cap, so that D(s) = min(B × 2^(s-1), Cap), never above 36000 s (R55). The
remaining-time report: the unit and the value of R60's table, never less than the remaining time and above it by less
than one reporting step, as the page's entry shows it (R60). -/
def Obligations.LockoutSchedule : Prop :=
  (∀ p : DomainPolicy,
    let i := sampleInputs p
    i.b = (if p.b = 0 then 5 else if p.b = 1 then 10 else if p.b = 2 then 30 else if p.b = 3 then 60 else 300) ∧
      i.cap =
        (if p.c = 0 then 60 else if p.c = 1 then 300 else if p.c = 2 then 900 else if p.c = 3 then 1800
         else if p.c = 4 then 3600 else if p.c = 5 then 7200 else if p.c = 6 then 14400 else 36000) ∧
      lockoutSeconds i 1 = min i.b i.cap ∧
      (∀ n, 1 ≤ n → n ≤ 254 →
        lockoutSeconds i n = min (i.b * 2 ^ (n - 1)) i.cap ∧ lockoutSeconds i n ≤ 36000 ∧
          (i.cap < i.b → lockoutSeconds i n = i.cap) ∧
          lockoutSeconds i (n + 1) = min (2 * lockoutSeconds i n) i.cap)) ∧
  [1, 2, 3, 4, 5, 6].map (lockoutSeconds (sampleInputs Policy.defaults.recovery)) = [60, 120, 240, 480, 960, 1920] ∧
  lockoutSeconds (sampleInputs ⟨1, 4, 0, 0⟩) 1 = 60 ∧
    ∀ d : DomainState, d.left ≤ 36000 →
      let r := remainingReport d
      d.entry.getD 3 0 = BitVec.ofNat 8 (128 * bit r.1 + r.2) ∧ r.2 ≤ 127 ∧
        (d.lockedOut = false → r = (false, 0)) ∧
        (d.lockedOut = true → d.left ≤ 635 → r.1 = false ∧ d.left ≤ 5 * r.2 ∧ 5 * r.2 < d.left + 5) ∧
        (d.lockedOut = true → 635 < d.left → r.1 = true ∧ d.left ≤ 300 * r.2 ∧ 300 * r.2 < d.left + 300 ∧ r.2 ≤ 120)

/-! ### The erase engine -/

/-- ERASE: the checks in their order, each ending the request with its status; a trigger that passes is taken volume
by volume up to the first that must wait, and one for which every volume is passed by ends OK with what it merged and
nothing accepted, and the engine goes on with its head (R118) (R115, R111, R112, R113, R39). For every trigger and every state of a volume: whether it is accepted as a new
entry, merged or passed over (R111; a volume whose entry stands in the list counts as ERASING, be it FAULT, log 47). A new
entry has the plan's pass sequence, the cursor behind KEY and the options of the policy, and stands at the end of its group
(R107, R108, R109). A merge, field by field: the stronger plan; with a plan that has grown, the passes done and then the others
of the new plan, the cursor kept at a pass that has issued a command and else at the first pass not done; WIPE once either is;
the options and the counters kept; an entry that becomes WIPE moved to the end of the WIPE group, any other kept in its place
(R113). -/
def Obligations.EraseRequests : Prop :=
  let sequence (p : Plan) : List Pass :=
    match p with
    | .quick => [.key]
    | .clear => [.key, .discard]
    | .full => [.key, .fill, .verify, .discard]
  (∀ (s : State) (x : AcceptSource) (v : Vol),
    let st := (s.vol v).data.state
    s.walk x v =
      if (s.eraseEntry v).isSome then (if x = .brute ∨ x = .orphan then .pass else .merge)
      else if st = .locked ∨ st = .opened ∨ st = .openRo ∨ st = .fault then .accept
      else if st = .blank ∧ x ≠ .brute ∧ x ≠ .chord ∧ x ≠ .orphan then .accept
      else .pass) ∧
  (∀ (e : EraseEntry) (p : Plan) (wipe : Bool),
    let m := e.merge p wipe
    let grows : Prop := (e.plan = .quick ∧ p ≠ .quick) ∨ (e.plan = .clear ∧ p = .full)
    let done := e.passes.take (if e.begun then e.passIndex + 1 else e.passIndex)
    m.vol = e.vol ∧ m.stopOnFault = e.stopOnFault ∧ m.share = e.share ∧ m.action = e.action ∧ m.begun = e.begun ∧
      m.suspects = e.suspects ∧ m.mismatches = e.mismatches ∧ m.wipe = (e.wipe || wipe) ∧
      (¬grows → m.plan = e.plan ∧ m.passes = e.passes ∧ m.passIndex = e.passIndex ∧ m.nextStripe = e.nextStripe) ∧
      (grows → m.plan = p ∧ m.passes = done ++ (sequence p).filter (fun x => !done.contains x) ∧
        (e.begun = true → m.passIndex = e.passIndex ∧ m.nextStripe = e.nextStripe) ∧
        (e.begun = false → m.passIndex = done.length ∧ m.nextStripe = 0))) ∧
  (∀ (p : Plan) (wipe : Bool) (e : EraseEntry) (before after : List EraseEntry), (∀ x ∈ before ++ after, x.vol ≠ e.vol) →
    mergeInto e.vol p wipe (before ++ e :: after) =
      (if wipe = true ∧ e.wipe = false then
        (before ++ after).filter (·.wipe) ++ e.merge p wipe :: (before ++ after).filter (!·.wipe)
      else before ++ e.merge p wipe :: after) ∧
    placeEntry e (before ++ after) =
      if e.wipe then (before ++ after).filter (·.wipe) ++ e :: (before ++ after).filter (!·.wipe) else before ++ after ++ [e]) ∧
  (∀ (s : State) (v : Vol) (p : Plan) (wipe : Bool), s.newEntry v p wipe =
    { vol := v, plan := p, wipe := wipe, stopOnFault := s.store.policy.stopOnFault
      share := max 1 (min s.store.policy.eraseShare 8)
      action := if s.store.policy.action = 1 then .lockAll else if s.store.policy.action = 2 then .halt else .none
      passes := sequence p, passIndex := 1, nextStripe := 0, begun := false, suspects := 0, mismatches := 0 }) ∧
  ∀ (s : State) (r : Request) (rest : List EngineEvent), s.alive = true → s.memOk = true → s.engineFree = true →
    s.erase.inbox = .request r :: rest → r.kind = .erase →
    (s.device ≠ .halted → s.erase.supplyHold = false → s.credReady = true) →
    ∃ t, exec .erase s = .next t ∧ s.sameBut (([.window, .pageWindow] : List Part) ++ accepting ++ showing) t ∧
      (if s.device = .halted then s.completed t r .halted 0 [] ∧ t.erase.list = s.erase.list
       else if s.erase.supplyHold then s.completed t r .power 0 [] ∧ t.erase.list = s.erase.list
       else
        match s.cred.window with
        | none => s.completed t r .notAuthorized 0 [] ∧ t.erase.list = s.erase.list
        | some w =>
          t.cred.window = some { w with left := 300 } ∧ s.rewritten t .window ∧
            match planOfCode (r.byte 5).toNat with
            | none => s.completed t r .badParam 0 [] ∧ t.erase.list = s.erase.list
            | some plan =>
              let vs := allVols.filter fun v => inSet (r.byte 4) v
              if r.byte 4 = 0 || vs.any fun v => (s.vol v).data.state = .absent then
                s.completed t r .badParam 0 [] ∧ t.erase.list = s.erase.list
              else
                s.accepts t (.request r) false plan vs ∧
                  ((∀ v ∈ vs, s.skips (.request r) false plan v = true) →
                    s.completed t r .ok 0 [0, s.mergedAmong (.request r) vs, 0] ∧ t.erase.list = s.erase.list ∧ s.ran t))

/-- PAUSE, RESUME and ABORT end HALTED, POWER or NOT_AUTHORIZED as every request does. PAUSE ends WIPE_ACTIVE with a
WIPE entry at the head, and else sets the pause flag, its checkpoint queued or left for the reply of a command in
flight. RESUME clears the flag, and an engine that is then RUNNING asks for the link for the stripe at its head's cursor (R110,
R118). ABORT sends the erase end order of the first REQUEST entry, or first waits for the
reply of the head's command, which is not reissued; with no REQUEST entry it ends OK with 0 (R123, R124, R125, R98).
That ERASE attention is set then too, and no list committed, is deduced (log 48). An action byte that is none of the
three ends BAD_PARAM (log 20), and a PAUSE queues the checkpoint also when the engine is paused or held (log 49). -/
def Obligations.EraseControls : Prop :=
  ∀ (s : State) (r : Request) (rest : List EngineEvent), s.alive = true → s.memOk = true → s.engineFree = true →
    s.erase.inbox = .request r :: rest → r.kind = .eraseControl →
    let part : List Part := engineStopping ++ completing ++ [.window, .pageWindow] ++ showing
    let a := (r.byte 4).toNat
    let rearmed (t : State) : Prop :=
      t.cred.window = (s.cred.window.map fun w => { w with left := 300 }) ∧ s.rewritten t .window
    (∀ c : Instr, (c = .pause ∧ a ≠ 2 ∧ a ≠ 3) ∨ (c = .resume ∧ a = 2) ∨ (c = .abort ∧ a = 3) →
      (s.device = .halted → ∃ t, exec c s = .next t ∧ s.completed t r .halted 0 [] ∧
        s.sameBut (([.link, .pageLink] : List Part) ++ completing ++ showing) t) ∧
      (s.device ≠ .halted → s.erase.supplyHold = true → ∃ t, exec c s = .next t ∧ s.completed t r .power 0 [] ∧
        s.sameBut (([.link, .pageLink] : List Part) ++ completing ++ showing) t) ∧
      (s.device ≠ .halted → s.erase.supplyHold = false → s.credReady = true → s.cred.window = none →
        ∃ t, exec c s = .next t ∧ s.completed t r .notAuthorized 0 [] ∧
          s.sameBut (([.link, .pageLink] : List Part) ++ completing ++ showing) t)) ∧
    (s.device ≠ .halted → s.erase.supplyHold = false → s.credReady = true → s.cred.window.isSome = true →
      (a ≠ 1 → a ≠ 2 → a ≠ 3 →
        ∃ t, exec .pause s = .next t ∧ rearmed t ∧ s.completed t r .badParam 0 [] ∧ s.sameBut part t) ∧
      (a = 1 → ∃ t, exec .pause s = .next t ∧ rearmed t ∧ t.erase.list = s.erase.list ∧ s.sameBut part t ∧
        match s.eraseHead with
        | none => s.completed t r .ok 0 [0, 0] ∧ t.erase.pause = s.erase.pause
        | some e =>
          if e.wipe then s.completed t r .wipeActive 0 [s.erase.state.code, 0] ∧ t.erase.pause = s.erase.pause
          else
            s.completed t r .ok 0 [({ s.erase with pause := true }).state.code, 0] ∧ t.erase.pause = true ∧
              if s.erase.flying.isSome then t.erase.due = true
              else t.link.engineAsks = false ∧ t.queued (.checkpoint e.checkpoint)) ∧
      (a = 2 → ∃ t, exec .resume s = .next t ∧ rearmed t ∧ t.erase.list = s.erase.list ∧ t.erase.pause = false ∧
        ({ s with erase := { s.erase with pause := false } } : State).ran t ∧
        s.completed t r .ok 0 [({ s.erase with pause := false }).state.code, 0] ∧ s.sameBut part t) ∧
      (a = 3 → ∃ t, exec .abort s = .next t ∧ rearmed t ∧ t.erase.list = s.erase.list ∧ s.sameBut part t ∧
        match ofOrigin false s.erase.list with
        | [] => s.completed t r .ok 0 [s.erase.state.code, 0] ∧ t.attending .erase = true
        | e :: es =>
          if s.eraseHead.any (fun h => !h.wipe) && s.erase.flying.isSome then
            t.erase.job = .abortReply r ∧
              ∀ f, s.link.granted = none → s.link.inFlight = some f → f.owner = .engine →
                t.link.inFlight = some { f with withdrawn := true }
          else
            t.guard.inbox = s.guard.inbox ++
                [.eraseEnd e.vol .aborted (((s.eraseEntry e.vol).map EraseEntry.suspects).getD 0)] ∧
              t.erase.job = .abortGuard r (es.map EraseEntry.vol) (es.length + 1) (lastAction s.erase.list)))

/-- STRIPE_REPLY, in its turn: an OK whose measured time is outside the pace window settles nothing the first time and one
suspect stripe the second; any other OK settles the stripe; a VERIFY reply that is not all zero counts one mismatch,
MEDIA_ERROR one suspect stripe; a command given up leaves the stripe at the cursor. A settled stripe moves the cursor on,
with a checkpoint at a pass change and at each sixteenth stripe; stop-on-fault with a fault counted, or the end of the last
pass, ends the entry (R118 to R121, R126, R128). A RUNNING engine then asks for the link afresh, for the stripe at the new
cursor and for a pace reissue alike (R118, R120). A reply, awaited by an ABORT or in its turn, also has the checkpoint queued
that a pause or a hold left until then (R123, R125, R126). A reply for which an ABORT waits lets it go on (R124), and one for
which an acceptance waits lets it go on with the new head's checkpoint queued (R114); each is applied to the cursor as one in
its turn is, without a pace reissue (R110, R120). In HALTED a reply, awaited or in its turn, is so applied to the cursor and
nothing more: no record is queued, no entry is ended, and the acceptance, or the ABORT, stops where it stands (R132). That
the pace reissue goes by what the engine is when it takes the reply, also where it left RUNNING while the command ran, is the
model's choice (log 81). That an ABORT stops so too is deduced (log 57), as is that an entry a fault has stopped ends
whatever holds the engine (log 30). -/
def Obligations.StripesAreSettled : Prop :=
  ∀ (s : State) (v : Vol) (e : EraseEntry) (o : StripeOutcome), s.alive = true → s.listOk = true →
    s.erase.flying = some v → s.eraseEntry v = some e →
    let count := (s.vol v).data.count
    let move (x : EraseEntry) : EraseEntry :=
      if x.nextStripe + 1 < (count + 255) / 256 then { x with nextStripe := x.nextStripe + 1 }
      else { x with passIndex := x.passIndex + 1, nextStripe := 0, begun := false }
    let suspect : EraseEntry := { e with suspects := min (e.suspects + 1) 65535 }
    let checked : Prop :=
      (e.pass = some .fill ∨ e.pass = some .discard) ∧ min 256 (count - 256 * e.nextStripe) = 256
    let applied (t : State) (reissues : Prop) (settled : EraseEntry → Prop) : Prop :=
      (∀ time expect, o = .ok time expect →
        (¬checked ∨ expect = 0 ∨ (expect ≤ 2 * time ∧ time ≤ 2 * expect) → settled e) ∧
        (checked → expect ≠ 0 → ¬(expect ≤ 2 * time ∧ time ≤ 2 * expect) →
          (s.erase.pace = true → settled suspect) ∧
            (s.erase.pace = false → t.erase.list = s.erase.list ∧ (t.erase.pace = true ↔ reissues)))) ∧
      (∀ zero, o = .data zero → settled (if zero then e else { e with mismatches := min (e.mismatches + 1) 65535 })) ∧
      (o = .mediaError → settled suspect) ∧ (o = .givenUp → t.erase.list = s.erase.list ∧ t.erase.pace = false)
    let cursor (t : State) : Prop :=
      t.erase.flying = none ∧ (∀ w, w ≠ v → t.eraseEntry w = s.eraseEntry w) ∧
        applied t False fun x => t.eraseEntry v = some (move x) ∧ t.erase.pace = false
    (∀ rest, s.engineFree = true → s.device ≠ .halted → s.erase.inbox = .reply o :: rest →
      let running : Prop := s.erase.state = .running
      ∃ t, exec .stripeReply s = .next t ∧ t.erase.flying = none ∧ (∀ w, w ≠ v → t.eraseEntry w = s.eraseEntry w) ∧
        (let settled (x : EraseEntry) : Prop :=
          t.eraseEntry v = some (move x) ∧ t.erase.pace = false ∧
            (s.erase.due = false → (move x).nextStripe % 16 = 0 → t.queued (.checkpoint (move x).checkpoint)) ∧
            (s.eraseHead = some e → s.device ≠ .starting →
              let y := move x
              let faulty : Prop := y.suspects ≠ 0 ∨ y.mismatches ≠ 0
              let stopped : Prop := y.stopOnFault = true ∧ faulty
              (stopped ∨ running ∧ y.passes.length ≤ y.passIndex →
                t.erase.job = .endGuard v ∧
                  ∃ result, t.guard.inbox = s.guard.inbox ++ [.eraseEnd v result y.suspects] ∧
                    (stopped → result = .failed) ∧ (¬stopped → faulty → result = .completeSuspect) ∧
                    (¬faulty → result = .complete)) ∧
              (¬stopped → y.passIndex < y.passes.length → t.erase.job = .none ∧ t.guard.inbox = s.guard.inbox))
         applied t running settled) ∧
        (s.erase.due = true → t.erase.due = false ∧ ∀ y, t.eraseEntry v = some y → t.queued (.checkpoint y.checkpoint)) ∧
        ({ s with erase := { s.erase with list := t.erase.list, flying := none } } : State).ran t ∧
        s.sameBut (engineStopping ++ [.eraseList, .eraseInbox, .guardInbox] ++ showing) t) ∧
    (s.device ≠ .halted → ∀ r, s.erase.job = .abortReply r → s.erase.inbox.find? EngineEvent.isReply = some (.reply o) →
      ofOrigin false s.erase.list ≠ [] →
      ∃ t, exec .stripeReply s = .next t ∧ cursor t ∧ (∃ todo n a, t.erase.job = .abortGuard r todo n a) ∧
        (s.erase.due = true → t.erase.due = false ∧ ∀ y, t.eraseEntry v = some y → t.queued (.checkpoint y.checkpoint)) ∧
        s.rewritten t .erase ∧ s.sameBut (engineStopping ++ [.eraseList, .eraseInbox, .guardInbox] ++ showing) t) ∧
    (s.device ≠ .halted → ∀ a, s.erase.job = .accept a → a.stage = .reply →
      s.erase.inbox.find? EngineEvent.isReply = some (.reply o) → (∀ w ∈ a.todo, s.walk a.source w ≠ .merge) →
      ∃ t, exec .stripeReply s = .next t ∧ cursor t ∧ s.rewritten t .erase ∧
        (∀ h, t.eraseHead = some h → t.queued (.checkpoint h.checkpoint)) ∧
        (∀ w ws, a.todo = w :: ws → s.walk a.source w = .accept →
          t.guard.inbox = s.guard.inbox ++ [.lock (single w)] ∧ t.cred.inbox = s.cred.inbox ++ [.removal w] ∧
            t.erase.job = .accept { a with todo := ws, stage := .removal w }) ∧
        (a.todo = [] →
          ({ s with erase := { s.erase with list := t.erase.list, flying := none, job := .none } } : State).ran t)) ∧
    (s.device = .halted → (∃ a, s.erase.job = .accept a ∧ a.stage = .reply) ∨ (∃ r, s.erase.job = .abortReply r) →
      s.erase.inbox.find? EngineEvent.isReply = some (.reply o) →
      ∃ t, exec .stripeReply s = .next t ∧ cursor t ∧ t.erase.job = s.erase.job ∧
        t.erase.inbox = s.erase.inbox.erase (.reply o) ∧
        t.erase.list.map EraseEntry.vol = s.erase.list.map EraseEntry.vol ∧
        s.sameBut (([.eraseList, .eraseInbox, .eraseRest] : List Part) ++ showing) t) ∧
    (∀ rest, s.device = .halted → s.engineFree = true → s.erase.inbox = .reply o :: rest →
      ∃ t, exec .stripeReply s = .next t ∧ cursor t ∧ t.erase.job = .none ∧ t.erase.inbox = rest ∧
        t.erase.list.map EraseEntry.vol = s.erase.list.map EraseEntry.vol ∧
        s.sameBut (([.eraseList, .eraseInbox, .eraseRest] : List Part) ++ showing) t)

/-- The other events of the erase engine. WIPE_TRIGGER takes a WIPE slot's mask, or every volume for the brute-force wipe,
with the wipe plan, and reports the latter's acceptance when no volume must wait; FACTORY_CHORD first gives the two factory
orders, then takes every volume. LINK_FAULT_REPORT sets the link hold with the cursor checkpointed and the command no longer
in flight, LINK_RETURN clears it, and an engine that is RUNNING then asks for the link for the stripe at its head's cursor
(R110, R118). EXTENT_LOST counts every stripe not run as suspect, takes the cursor past the last pass, where no pass has
begun (R108), and ends the entry, FAILED when stop-on-fault counted one so, else by its counters (R111, R116, R117, R122,
R129). In HALTED the triggers are discarded (R117), and so is EXTENT_LOST, which is deduced (log 31); the link's two reports
set and clear the link hold there too, and that they queue no checkpoint and rewrite no erase section then is deduced (log
67). That WIPE_TRIGGER takes the brute-force trigger too is the model's choice (log 34); that this one passes over a FAULT
volume still in the list is deduced (log 47). What each of the three triggers accepts, merges and passes over is spelled out
here (R111), and what a merge does to an entry in EraseRequests. A wipe plan code that names no plan is FULL (R111). -/
def Obligations.EngineEvents : Prop :=
  ∀ (s : State) (rest : List EngineEvent), s.alive = true → s.engineFree = true →
    let taking : List Part :=
      [.eraseList, .eraseRest, .link, .pageLink, .eraseInbox, .commits, .storeRest, .lockoutRest, .guardInbox, .credInbox] ++
        showing
    let takes (u t : State) (x : AcceptSource) (vs : List Vol) : Prop :=
      u.accepts t x true (wipePlanOf s.store.policy.wipePlan) vs ∧ s.sameBut taking t ∧
        ((∀ v ∈ vs, u.skips x true (wipePlanOf s.store.policy.wipePlan) v = true) →
          t.erase.list = s.erase.list ∧ s.ran t ∧ t.cred.inbox = u.cred.inbox ∧
            t.lockout.inbox = u.lockout.inbox ++ (if x = .brute then [.accepted] else []))
    (∀ n, wipePlanOf n = if n = 1 then .quick else if n = 2 then .clear else .full) ∧
    (∀ v : Vol,
      let st := (s.vol v).data.state
      let live : Bool := st = .locked || st = .opened || st = .openRo || st = .fault
      let listed : Bool := (s.eraseEntry v).isSome
      s.walk .wipeSlot v = (if listed then .merge else if live || st = .blank then .accept else .pass) ∧
        s.walk .brute v = (if live && !listed then .accept else .pass) ∧
        s.walk .chord v = if listed then .merge else if live then .accept else .pass) ∧
    (∀ c : Instr, (c = .wipeTrigger ∧ ((∃ m, s.erase.inbox = .wipe m :: rest) ∨ s.erase.inbox = .brute :: rest)) ∨
        (c = .factoryChord ∧ s.erase.inbox = .chord :: rest) ∨
        (c = .extentLost ∧ ∃ v, s.erase.inbox = .extentLost v :: rest) →
      s.device = .halted → ∃ t, exec c s = .next t ∧ t.erase = { s.erase with inbox := rest } ∧
        s.sameBut (.eraseInbox :: showing) t) ∧
    (s.device = .halted → s.erase.inbox = .linkReturn :: rest →
      ∃ t, exec .linkReturn s = .next t ∧ t.erase = { s.erase with linkHold := false, inbox := rest } ∧
        s.sameBut (([.eraseInbox, .eraseRest] : List Part) ++ showing) t) ∧
    (s.device = .halted → s.erase.inbox = .linkFault :: rest →
      ∃ t, exec .linkFaultReport s = .next t ∧
        t.erase = { s.erase with
          inbox := if s.link.granted = some .engine then rest.filter (· ≠ .grant) else rest
          linkHold := true, flying := none, pace := false, due := false } ∧
        t.link.engineAsks = false ∧ t.link.granted ≠ some .engine ∧
        s.sameBut (.eraseRest :: (granting ++ showing)) t) ∧
    (s.device ≠ .halted →
      (∀ m, s.erase.inbox = .wipe m :: rest →
        ∃ t, exec .wipeTrigger s = .next t ∧ takes s t .wipeSlot (allVols.filter fun v => inSet m v)) ∧
      (s.erase.inbox = .brute :: rest → ∃ t, exec .wipeTrigger s = .next t ∧ takes s t .brute allVols) ∧
      (s.erase.inbox = .chord :: rest →
        ∃ t, exec .factoryChord s = .next t ∧
          takes
            { s with
              cred := { s.cred with inbox := s.cred.inbox ++ [.factory] }
              lockout := { s.lockout with inbox := s.lockout.inbox ++ [.factory] } } t .chord allVols ∧
          t.lockout.inbox = s.lockout.inbox ++ [.factory] ∧ .factory ∈ t.cred.inbox) ∧
      (s.erase.inbox = .linkFault :: rest →
        ∃ t, exec .linkFaultReport s = .next t ∧
          t.erase = { s.erase with
            inbox := if s.link.granted = some .engine then rest.filter (· ≠ .grant) else rest
            linkHold := true, flying := none, pace := false, due := false } ∧
          t.link.engineAsks = false ∧ s.rewritten t .erase ∧
          (∀ e, s.eraseHead = some e → t.queued (.checkpoint e.checkpoint)) ∧
          s.sameBut (engineStopping ++ [.eraseInbox] ++ showing) t) ∧
      (s.erase.inbox = .linkReturn :: rest →
        ∃ t, exec .linkReturn s = .next t ∧ t.erase.linkHold = false ∧
          ({ s with erase := { s.erase with linkHold := false } } : State).ran t ∧
          (s.link.granted ≠ some .engine → t.erase.inbox = rest ++ t.grantEvent) ∧
          (s.link.granted = some .engine →
            t.erase.inbox = if t.link.granted = some .engine then rest else rest.filter (· ≠ .grant)) ∧
          s.sameBut (([.eraseRest, .pageErase, .guardInbox] : List Part) ++ granting ++ showing) t) ∧
      ∀ v e, s.erase.inbox = .extentLost v :: rest → s.eraseEntry v = some e →
        let n := ((s.vol v).data.count + 255) / 256
        let unrun :=
          if e.passIndex < e.passes.length then (n - e.nextStripe) + n * (e.passes.length - e.passIndex - 1) else 0
        let lost : EraseEntry :=
          { e with
            suspects := min (e.suspects + unrun) 65535, passIndex := e.passes.length, nextStripe := 0, begun := false }
        let result : EraseResult :=
          if e.stopOnFault = true ∧ unrun ≠ 0 then .failed
          else if lost.suspects ≠ 0 ∨ lost.mismatches ≠ 0 then .completeSuspect
          else .complete
        ∃ t, exec .extentLost s = .next t ∧ t.eraseEntry v = some lost ∧ t.erase.job = .endGuard v ∧
          t.guard.inbox = s.guard.inbox ++ [.eraseEnd v result lost.suspects] ∧ s.rewritten t .erase ∧
          s.sameBut (engineStopping ++ [.eraseList, .eraseInbox, .guardInbox] ++ showing) t)

/-! ### The keypad unit -/

/-- KEY_SCAN advances the timebase and reads every key: in a ghosted scan, of three keys or more, all run counts go to
0; otherwise a key that reads other than its accepted level counts one more, and is due to change when the count stands
at or above the debounce count, and any other goes to 0; the hold and chord measures count, and so does the recovery
count of a supply in RECOVERING (R141). KEY_ACCEPTED changes the accepted level: a digit's PRESS comes when it is down,
that of ENTER or CLEAR when it is up, unless its HOLD was given or it is suppressed, as both are once they are down
together. HOLD and CHORD give their events once. An event goes to the tail of the queue, or with eight queued it is
dropped and the overrun marker set there (R65 to R71). What a scan left due is taken at the next scan if no command has
taken it, with the keypad section brought up to date (R86), and in which order: the model's choice (logs 5 and 44); that
a hold or a chord is given at a ghosted scan too is deduced (log 43), and so is that a drop moves a marker which waits in
VERIFYING as it moves any other (log 83). -/
def Obligations.KeysAreScanned : Prop :=
  ∀ s : State, s.alive = true →
    let pushed (t : State) (e : Option KeyEvent) : Prop :=
      match e with
      | none => t.keypad.queue = s.keypad.queue ∧ t.keypad.marker = s.keypad.marker
      | some e =>
        if s.keypad.queue.length < 8 then
          t.keypad.queue = s.keypad.queue ++ [e] ∧ t.keypad.marker = s.keypad.marker
        else t.keypad.queue = s.keypad.queue ∧ t.keypad.marker = some s.keypad.queue.length
    (∀ levels, s.keypad.scanning = false →
      exec (.keyScan levels) s = .next { s with keypad := { s.keypad with contacts := levels } }) ∧
    (∀ levels : BitVec 12, s.keypad.scanning = true →
      let u := s.catchUp
      let ghosted : Prop := 3 ≤ allKeys.countP fun k => levels.getLsbD (Key.index k).val
      let idle : Prop :=
        (∀ k, s.keyDue k = false) ∧ s.holdDue .enter = false ∧ s.holdDue .clear = false ∧ s.chordDue = false
      (idle → u = s) ∧
      ∃ t, exec (.keyScan levels) s = .next t ∧ t.ms = s.ms + 1 ∧ t.keypad.contacts = levels ∧
        t.keypad.queue = u.keypad.queue ∧ t.keypad.marker = u.keypad.marker ∧ (¬idle → s.rewritten t .keypad) ∧
        t.supply = (if s.supply.cond = .recovering then { s.supply with count := min (s.supply.count + 1) 100 } else s.supply) ∧
        t.keypad.chordMs = u.keypad.chordMs.map (· + 1) ∧
        (∀ k, let y := u.keypad.key k
          t.keypad.key k = { y with
            held := if y.down then y.held + 1 else y.held
            run := if ghosted ∨ levels.getLsbD (Key.index k).val = y.down then 0 else y.run + 1
            due := if ghosted ∨ levels.getLsbD (Key.index k).val = y.down then false
              else s.keypad.settings.debounce ≤ y.run + 1 }) ∧
        (idle → s.sameBut [.time, .scanner, .supply] t) ∧
        s.sameBut (([.time, .scanner, .keyQueue, .supply] : List Part) ++ showing) t) ∧
    (∀ k, s.keypad.scanning = true → s.keyDue k = true →
      let y := s.keypad.key k
      let both : Prop := k = .enter ∨ k = .clear
      ∃ t, exec (.keyAccepted k) s = .next t ∧ s.sameBut (([.scanner, .keyQueue] : List Part) ++ showing) t ∧
        (t.keypad.key k).down = !y.down ∧ (t.keypad.key k).run = 0 ∧ t.keyDue k = false ∧ (t.keypad.key k).held = 0 ∧
        (∀ j, j ≠ k → (t.keypad.key j).down = (s.keypad.key j).down ∧ (t.keypad.key j).run = (s.keypad.key j).run) ∧
        (y.down = true → (both → t.keypad.chordMs = none) ∧ (t.keypad.key k).suppressed = false ∧
          (both → y.suppressed = false → y.holdGiven = false → pushed t (some (.press k s.ms))) ∧
          (¬both ∨ y.suppressed = true ∨ y.holdGiven = true → pushed t none)) ∧
        (y.down = false → (t.keypad.key k).holdTime = (s.keypad.settings.hold + 1) * 1000 ∧
          (¬both → pushed t (some (.press k s.ms))) ∧
          (both → pushed t none ∧ ((t.keypad.key .enter).down = true → (t.keypad.key .clear).down = true →
            (t.keypad.key .enter).suppressed = true ∧ (t.keypad.key .clear).suppressed = true ∧
              t.keypad.chordMs = some 0)))) ∧
    (∀ k, s.keypad.scanning = true → s.holdDue k = true →
      ∃ t, exec (.hold k) s = .next t ∧ pushed t (some (.hold k)) ∧
        (∀ j, t.keypad.key j = if j = k then { s.keypad.key k with holdGiven := true } else s.keypad.key j) ∧
        s.sameBut (([.scanner, .keyQueue] : List Part) ++ showing) t) ∧
    (s.keypad.scanning = true → s.chordDue = true →
      ∃ t, exec .chord s = .next t ∧ pushed t (some .chord) ∧ t.keypad.chordGiven = true ∧ t.keypad.keys = s.keypad.keys ∧
        s.sameBut (([.scanner, .keyQueue] : List Part) ++ showing) t)

/-- DIGIT_PRESS: in IDLE it begins a NORMAL entry with the settings sampled, or is rejected while NORMAL is locked
out; armed it begins a recovery entry; in an entry or an enrollment stage it is appended, or beyond 16 digits
rejected, and the timeout starts again. A digit too soon after the one before marks the entry CADENCE (R75 to R79,
R81). -/
def Obligations.DigitPresses : Prop :=
  ∀ (s : State) (d : Digit) (time : Nat) (rest : List KeyEvent), s.asmTakes = true → s.asmDiscards = false →
    s.keypad.queue = .press (.digit d) time :: rest → s.keypad.marker = none →
    ∃ t, exec .digitPress s = .next t ∧ t.keypad.queue = rest ∧ t.keypad.marker = none ∧
      t.keypad.ahead = (s.keypad.ahead.map fun n => n - 1) ∧
      s.sameBut (([.keyQueue, .keyOrder, .assembler] : List Part) ++ showing) t ∧
      (let k := s.keypad
       let fast (c : Nat) : Bool := k.lastTime.any fun t0 => c ≠ 0 && !k.buffer.isEmpty && time < t0 + 10 * c
       let appended (c : Nat) : Prop :=
        t.keypad.buffer = k.buffer ++ [d] ∧ t.keypad.lastTime = some time ∧ t.keypad.cadence = (k.cadence || fast c) ∧
          t.keypad.flash = k.flash
       let rejected : Prop :=
        t.keypad.buffer = k.buffer ∧ t.keypad.flash = s.flashed .reject ∧ (s.device ≠ .halted → t.keypad.flashLeft = 900)
       let filled (ms : Nat) : Prop :=
        t.keypad.asm = k.asm ∧ t.keypad.timeout = some ms ∧
          if k.buffer.length < 16 then appended k.settings.cadence else rejected
       let entryMs := entryTimeoutMs k.settings.entryTimeout
       match k.asm with
       | .idle =>
        if s.lockout.normal.lockedOut then rejected ∧ t.keypad.asm = .idle ∧ t.keypad.timeout = k.timeout
        else
          let x := keySettings s.store.policy
          t.keypad.asm = .digits ∧ t.keypad.settings = x ∧ t.keypad.timeout = some (entryTimeoutMs x.entryTimeout) ∧
            appended x.cadence
       | .digits => filled entryMs
       | .recoveryWait => t.keypad.asm = .recoveryDigits ∧ t.keypad.timeout = some entryMs ∧ appended k.settings.cadence
       | .recoveryDigits => filled entryMs
       | .enrollFirst => filled 60000
       | .enrollSecond => filled 60000
       | .verifying => True)

/-- ENTER_PRESS ends an entry: one too short, or a recovery entry of fewer than 16 digits or with no RECOVERY slot, is
discarded with the reject flash, a NORMAL one of a part without provisioning with its own; any other is handed to the
credential unit, which the keypad awaits. In an enrollment stage the typing is handed. ENTER_HOLD in IDLE arms
recovery when a RECOVERY slot is occupied and its domain READY; elsewhere it only starts the timeout again (R75 to
R77, R80, R81). -/
def Obligations.EnterEvents : Prop :=
  ∀ (s : State) (rest : List KeyEvent), s.asmTakes = true → s.asmDiscards = false → s.keypad.marker = none →
    let k := s.keypad
    let recovery : Prop := ∃ i, (s.cslot i).role = .recovery
    let cleared (t : State) (a : Assembler) : Prop :=
      t.keypad.asm = a ∧ t.keypad.buffer = [] ∧ t.keypad.lastTime = none ∧ t.keypad.cadence = false
    let discarded (t : State) (o : OneShot) : Prop :=
      cleared t .idle ∧ t.keypad.timeout = none ∧ t.keypad.flash = s.flashed o ∧ t.cred = s.cred
    let handed (t : State) (d : Domain) : Prop :=
      cleared t .verifying ∧ t.keypad.timeout = none ∧ t.cred.inbox = s.cred.inbox ++ [.entry k.buffer d k.cadence]
    let refused (t : State) : Prop :=
      t.keypad.asm = k.asm ∧ t.keypad.flash = s.flashed .reject ∧ t.keypad.timeout = some 60000 ∧ t.cred = s.cred
    (∀ time, k.queue = .press .enter time :: rest →
      ∃ t, exec .enterPress s = .next t ∧ t.keypad.queue = rest ∧ t.keypad.marker = none ∧
        s.sameBut (([.keyQueue, .keyOrder, .assembler, .credInbox] : List Part) ++ showing) t ∧
        match k.asm with
        | .idle => s.sameBut (([.keyQueue, .keyOrder] : List Part) ++ showing) t
        | .digits =>
          if k.buffer.length < k.settings.minPin then discarded t .reject
          else if s.device = .unprovisioned then discarded t .noPin
          else handed t .normal
        | .recoveryWait => discarded t .reject
        | .recoveryDigits =>
          (k.buffer.length < 16 ∨ ¬recovery → discarded t .reject) ∧
            (16 ≤ k.buffer.length → recovery → handed t .recovery)
        | .enrollFirst =>
          if k.buffer = [] then refused t
          else cleared t .enrollSecond ∧ t.keypad.timeout = some 60000 ∧ t.keypad.settings = keySettings s.store.policy ∧
            t.cred.inbox = s.cred.inbox ++ [.enrollEntry k.buffer]
        | .enrollSecond =>
          if k.buffer = [] then refused t
          else cleared t .verifying ∧ t.keypad.timeout = none ∧ t.cred.inbox = s.cred.inbox ++ [.enrollEntry k.buffer]
        | .verifying => True) ∧
    (k.queue = .hold .enter :: rest →
      ∃ t, exec .enterHold s = .next t ∧ t.keypad.queue = rest ∧ t.keypad.marker = none ∧
        s.sameBut (([.keyQueue, .keyOrder, .assembler] : List Part) ++ showing) t ∧ t.keypad.buffer = k.buffer ∧
        (k.asm = .idle → (recovery → s.lockout.recovery.lockedOut = false →
            t.keypad.asm = .recoveryWait ∧ t.keypad.settings = keySettings s.store.policy ∧
              t.keypad.timeout = some (entryTimeoutMs (keySettings s.store.policy).entryTimeout)) ∧
          (¬recovery ∨ s.lockout.recovery.lockedOut = true → t.keypad.asm = .idle ∧ t.keypad.flash = s.flashed .reject)) ∧
        (k.asm.entering = true → t.keypad.asm = k.asm ∧ t.keypad.timeout = some (entryTimeoutMs k.settings.entryTimeout)) ∧
        (k.asm.enrolling = true → t.keypad.asm = k.asm ∧ t.keypad.timeout = some 60000))

/-- CLEAR_PRESS and CLEAR_HOLD: in IDLE they lock every volume and close the window when any is open; they discard an
entry without a flash, and an enrollment stage with the reject flash and a report to the credential unit. CHORD_TAKEN
hands the factory chord to the erase engine and discards what the assembler holds. Under a supply warning and once the
unit has taken the entry to HALTED the events are taken without effect, and that the marker goes with its event there, without
a flash, is deduced (log 64); else an event at the overrun marker ends with the entry discarded and the reject flash: the buffer
is empty, its count, last time and CADENCE mark cleared, the assembler is IDLE with no timeout, and an enrollment stage stays
with its timeout reloaded to 60 s; in VERIFYING the marker waits (R75 to R77, R81, R82, R83, R72). All this is said of an assembler
that takes events; that it takes and discards none in VERIFYING, also under a warning, is the model's choice (log 80). -/
def Obligations.ClearAndChordEvents : Prop :=
  ∀ (s : State) (rest : List KeyEvent), s.asmTakes = true →
    let k := s.keypad
    let cleared (t : State) : Prop := t.keypad.asm = .idle ∧ t.keypad.buffer = [] ∧ t.keypad.timeout = none
    (∀ c e, s.asmDiscards = false → k.marker = none → k.queue = e :: rest →
      (c = Instr.clearPress ∧ ∃ time, e = .press .clear time) ∨ (c = .clearHold ∧ e = .hold .clear) →
      ∃ t, exec c s = .next t ∧ t.keypad.queue = rest ∧ t.keypad.marker = none ∧
        (k.asm = .idle →
          s.sameBut (([.keyQueue, .keyOrder, .guardInbox, .credInbox] : List Part) ++ showing) t ∧
          if s.cred.window.isSome || allVols.any fun v => (s.vol v).isOpen then
            t.guard.inbox = s.guard.inbox ++ [.lock 0xFF] ∧ t.cred.inbox = s.cred.inbox ++ [.windowClose false]
          else t.guard.inbox = s.guard.inbox ∧ t.cred.inbox = s.cred.inbox) ∧
        (k.asm.entering = true → cleared t ∧ t.keypad.flash = k.flash ∧
          s.sameBut (([.keyQueue, .keyOrder, .assembler] : List Part) ++ showing) t) ∧
        (k.asm.enrolling = true → cleared t ∧ t.keypad.flash = s.flashed .reject ∧
          t.cred.inbox = s.cred.inbox ++ [.enrollEnd .keypadAbort] ∧
          s.sameBut (([.keyQueue, .keyOrder, .assembler, .credInbox] : List Part) ++ showing) t)) ∧
    (s.asmDiscards = false → k.marker = none → k.queue = .chord :: rest →
      ∃ t, exec .chordTaken s = .next t ∧ t.keypad.queue = rest ∧ t.keypad.marker = none ∧ cleared t ∧
        t.erase.inbox = s.erase.inbox ++ [.chord] ∧
        t.cred.inbox = s.cred.inbox ++ (if k.asm.enrolling then [.enrollEnd .chord] else []) ∧
        s.sameBut (([.keyQueue, .keyOrder, .assembler, .eraseInbox, .credInbox] : List Part) ++ showing) t) ∧
    ∀ c e, k.queue = e :: rest →
      (c = Instr.digitPress ∧ ∃ d time, e = .press (.digit d) time) ∨ (c = .enterPress ∧ ∃ time, e = .press .enter time) ∨
        (c = .enterHold ∧ e = .hold .enter) ∨ (c = .clearPress ∧ ∃ time, e = .press .clear time) ∨
        (c = .clearHold ∧ e = .hold .clear) ∨ (c = .chordTaken ∧ e = .chord) →
      ∃ t, exec c s = .next t ∧ t.keypad.queue = rest ∧
        (s.asmDiscards = true → s.sameBut (([.keyQueue, .keyOrder] : List Part) ++ showing) t ∧
          (k.marker = some 1 → t.keypad.marker = none)) ∧
        (s.asmDiscards = false → k.marker = some 1 →
          (t.keypad.asm = .verifying → t.keypad.marker = some 0) ∧
          (t.keypad.asm ≠ .verifying →
            t.keypad.marker = none ∧ t.keypad.flash = s.flashed .reject ∧
              (k.asm = .idle → t.keypad.asm = .idle ∧ (k.buffer = [] → t.keypad.buffer = [])) ∧
              (k.asm ≠ .idle → t.keypad.buffer = [] ∧ t.keypad.lastTime = none ∧ t.keypad.cadence = false) ∧
              (k.asm ≠ .idle → t.keypad.asm.enrolling = false → t.keypad.asm = .idle ∧ t.keypad.timeout = none) ∧
              (t.keypad.asm.enrolling = true → t.keypad.timeout = some 60000) ∧
              (k.asm.enrolling = true → c = .digitPress ∨ c = .enterHold ∨ (c = .enterPress ∧ k.buffer = []) →
                t.keypad.asm = k.asm) ∧
              (k.asm = .enrollFirst → c = .enterPress → k.buffer ≠ [] → t.keypad.asm = .enrollSecond)))

/-- ENTRY_TIMEOUT discards an entry without a charge or a flash; STAGE_TIMEOUT ends an enrollment stage with the reject flash
and a report. Each acts at once when no key event and no order waits, and otherwise in its turn behind them; one that a
reload has overtaken by then does nothing. ENROLL_ORDER puts the keypad into the first stage, OUTCOME_REPORT ends its wait
with the accept or reject flash, RETURN_TO_IDLE ends a stage or the wait; each acts when the key events that came before it
are taken, and once the unit has taken the entry to HALTED without effect. FLASH_END ends a flash. The pattern shown is the
first of R85's table whose condition holds, shown from its first phase when it changes; INDICATOR_PHASE shows its next phase,
and the outputs are those of the phase shown (R74, R79, R81, R80, R83, R84, R85). That the timers' rows act whenever they run
is the model's choice (log 5), that an overtaken expiry does nothing is the model's too (log 4), and so is that the
alternating pattern of VERIFYING starts with RED (log 73), and that several items of the section which change together are
one rewrite (log 79); that an order that finds the assembler elsewhere has no effect is deduced (log 21). -/
def Obligations.KeypadOrdersAndTimers : Prop :=
  ∀ s : State, s.alive = true →
    let k := s.keypad
    let cleared (t : State) : Prop := t.keypad.asm = .idle ∧ t.keypad.buffer = [] ∧ t.keypad.timeout = none
    let ordered : List Part := [.keypadInbox, .keyOrder, .assembler, .keyQueue] ++ showing
    let turn : Prop := k.ahead.head?.getD 0 = 0 ∨ k.queue = [] ∨ k.asm = .verifying ∨ s.device = .starting
    let due (t : State) : Nat :=
      if t.device = .halted then 1 else if t.device = .starting then 2 else if t.keypad.flash ≠ none then 3
      else if t.keypad.asm = .verifying then 4
      else if (t.domain .normal).lockedOut = true ∨ (t.domain .recovery).lockedOut = true then 5
      else if t.device = .unprovisioned then 6
      else if t.erase.state ∈ [EngineState.running, .heldThermal, .heldLink, .heldSupply] then 7
      else if t.cred.window ≠ none then 8 else if t.anyOpen = true then 9 else 10
    let table : List (Nat × Bool × Bool × Bool) :=
      match k.pattern with
      | 1 => [(100, true, false, true), (100, false, false, false)]
      | 2 => [(0, true, true, true)]
      | 3 =>
        match k.flash with
        | some .reject =>
          [(150, true, false, false), (150, false, false, false), (150, true, false, false), (150, false, false, false),
            (150, true, false, false), (150, false, false, false)]
        | some .accept => [(500, false, true, false), (200, false, false, false)]
        | some .noPin =>
          [(250, false, false, true), (250, false, false, false), (250, false, false, true), (250, false, false, false)]
        | none => [(0, false, false, false)]
      | 4 => [(250, true, false, false), (250, false, true, false)]
      | 5 => [(100, true, false, false), (100, false, false, false)]
      | 6 => [(1000, false, false, true), (1000, false, false, false)]
      | 7 => [(500, false, false, true), (500, false, false, false)]
      | 8 => [(0, false, s.anyOpen, true)]
      | 9 => [(0, false, true, false)]
      | _ => [(0, true, false, false)]
    (k.timeout.isSome = true → k.asm.entering = true → k.queue = [] → k.inbox = [] →
      ∃ t, exec .entryTimeout s = .next t ∧ cleared t ∧ t.keypad.flash = k.flash ∧ s.sameBut (.assembler :: showing) t) ∧
    (k.timeout.isSome = true → k.asm.enrolling = true → k.queue = [] → k.inbox = [] →
      ∃ t, exec .stageTimeout s = .next t ∧ cleared t ∧ t.keypad.flash = s.flashed .reject ∧
        t.cred.inbox = s.cred.inbox ++ [.enrollEnd .timeout] ∧ s.sameBut (([.assembler, .credInbox] : List Part) ++ showing) t) ∧
    (∀ c, (c = Instr.entryTimeout ∧ k.asm.entering = true) ∨ (c = .stageTimeout ∧ k.asm.enrolling = true) →
      k.timeout.isSome = true → k.queue ≠ [] ∨ k.inbox ≠ [] → .expiry ∉ k.inbox →
      exec c s = .next
        { s with
          keypad := { k with timeout := some 0, inbox := k.inbox ++ [.expiry], ahead := k.ahead ++ [k.queue.length] } }) ∧
    (∀ rest, k.inbox = .expiry :: rest → turn → k.halted = false →
      (k.asm.entering = true → k.timeout = some 0 →
        ∃ t, exec .entryTimeout s = .next t ∧ t.keypad.inbox = rest ∧ cleared t ∧ t.keypad.flash = k.flash ∧
          s.sameBut ordered t) ∧
      (k.asm.enrolling = true → k.timeout = some 0 →
        ∃ t, exec .stageTimeout s = .next t ∧ t.keypad.inbox = rest ∧ cleared t ∧ t.keypad.flash = s.flashed .reject ∧
          t.cred.inbox = s.cred.inbox ++ [.enrollEnd .timeout] ∧ s.sameBut (.credInbox :: ordered) t) ∧
      (k.timeout ≠ some 0 →
        ∃ t, exec (if k.asm.enrolling then .stageTimeout else .entryTimeout) s = .next t ∧ t.keypad.inbox = rest ∧
          s.sameBut (([.keypadInbox, .keyOrder] : List Part) ++ showing) t)) ∧
    (∀ rest, k.inbox = .enroll :: rest → turn → k.halted = false →
      ∃ t, exec .enrollOrder s = .next t ∧ t.keypad.inbox = rest ∧ t.keypad.asm = .enrollFirst ∧ t.keypad.buffer = [] ∧
        t.keypad.timeout = some 60000 ∧ t.keypad.settings = keySettings s.store.policy ∧ s.sameBut ordered t) ∧
    (∀ ok rest, k.inbox = .outcome ok :: rest → turn → k.halted = false →
      ∃ t, exec .outcomeReport s = .next t ∧ t.keypad.inbox = rest ∧ s.sameBut ordered t ∧
        (k.asm = .verifying → cleared t ∧
          (k.marker ≠ some 0 → t.keypad.flash = s.flashed (if ok then .accept else .reject)) ∧
          (k.marker = some 0 → t.keypad.flash = s.flashed .reject ∧ t.keypad.marker = none)) ∧
        (k.asm ≠ .verifying → s.sameBut (([.keypadInbox, .keyOrder] : List Part) ++ showing) t)) ∧
    (∀ flash rest, k.inbox = .toIdle flash :: rest → turn → k.halted = false → k.marker = none →
      ∃ t, exec .returnToIdle s = .next t ∧ t.keypad.inbox = rest ∧ s.sameBut ordered t ∧
        if k.asm.enrolling || k.asm = .verifying then
          cleared t ∧ t.keypad.flash = if flash then s.flashed .reject else k.flash
        else s.sameBut (([.keypadInbox, .keyOrder] : List Part) ++ showing) t) ∧
    (∀ c o rest, k.inbox = o :: rest →
      (c = Instr.enrollOrder ∧ o = .enroll) ∨ (c = .outcomeReport ∧ ∃ ok, o = .outcome ok) ∨
        (c = .returnToIdle ∧ ∃ flash, o = .toIdle flash) →
      (¬turn → exec c s = .next s) ∧
      (turn → k.halted = true → exec c s = .next { s with keypad := { k with inbox := rest, ahead := k.ahead.tail } })) ∧
    (k.flash.isSome = true →
      ∃ t, exec .flashEnd s = .next t ∧ t.keypad.flash = none ∧ t.keypad.pattern = due t ∧
        (t.keypad.pattern ≠ k.pattern → t.keypad.phase = 0) ∧ s.rewritten t .keypad ∧ s.sameBut (.assembler :: showing) t) ∧
    (s.settle.keypad.pattern = due s ∧ (due s ≠ k.pattern → s.settle.keypad.phase = 0) ∧ s.rewritten s.settle .keypad ∧
      s.sameBut showing s.settle) ∧
    s.phases.map (fun b => (b.ms, b.red, b.green, b.blue)) = table ∧
    s.indicators = (table.getD k.phase (0, false, false, false)).2 ∧
    (1 < table.length →
      ∃ t, exec .indicatorPhase s = .next t ∧ t.keypad.phase = (k.phase + 1) % table.length ∧
        t.keypad.phaseLeft = (table.getD t.keypad.phase (0, false, false, false)).1 ∧ t.keypad.pattern = k.pattern ∧
        s.sameBut [.indicator] t)

/-! ### The persistent store -/

/-- COMMIT_DONE. A first read-back that differs is counted and retried. One that agrees puts the record into the array,
answers every owner that waits, one or several, and begins the next: a charge is reported, and SET_POLICY, DEFINE_VOLUME,
DELETE_VOLUME and ENROLL end OK; a first ADMIN enrollment goes on to its DEVICE commit, then READY with the window OPEN; a
REVOKE ends OK and closes its slot's window; a factory revocation's last takes READY to UNPROVISIONED; the last of a removal,
acceptance, retirement or erase end lets the engine go on; the list's commit ends an entry, an ABORT or a merge; the link's
ends the taking of an identity, the link section rewritten with it and again at READY (R105). A second one that differs stops
the store: the failed record and STORE attention are set, the queue emptied and the device HALTED, as every block is told;
then a waiting DEFINE_VOLUME, DELETE_VOLUME, REVOKE, ENROLL or SET_POLICY ends HALTED and a charge is not reported (R146 to
R148, R51, R52, R158, R21, R22, R43, R45, R46, R26, R112, R12, R13, R113, R124, R128, R130, R101); a follower such an end
takes counts as taken in HALTED (R171, R21). From STARTING, start-up is over and, without a warning, the pending scan is made
from the slot after the take pointer under HALTED's verdicts (R162, R164, R156); that the link hold stays as it was (log 71)
and the order in which owners are answered (log 74) are the model's choices. The DEVICE commit of start-up ends STARTING as
LEAVE_STARTING does. After an entry, ABORT or acceptance a RUNNING engine asks for its head's stripe (R118). What a failed
commit leaves is an operand (log 8); that it empties the room, ends STARTING and ends a DELETE_VOLUME HALTED, that in HALTED
too a REVOKE or ENROLL that commits ends OK and the link is READY and shown so, that the defaults are in use after a
SET_POLICY that left a damaged record, and that a new head shows before the suspended one's reply, are deduced (logs 22, 38,
42, 51, 59, 82 and 84). -/
def Obligations.CommitOutcomes : Prop :=
  ∀ (s : State) (q : Queued), s.alive = true → s.memOk = true → s.store.current = some q →
    (∀ left, s.store.retrying = false →
      ∃ t, exec (.commitDone (.differs left)) s = .next t ∧ s.rewritten t .device ∧
        t.store = { s.store with retrying := true, retries := satInc16 s.store.retries } ∧
        s.sameBut [.storeRest, .pageDevice] t) ∧
    (∃ t, exec (.commitDone .agrees) s = .next t ∧ t.store.nv = s.store.nv.write q.data ∧
      (q.waiters = [] → t.store.current = s.store.queue.head? ∧ t.store.retrying = false ∧
        s.sameBut (([.array, .commits, .storeRest] : List Part) ++ showing) t) ∧
      (∀ d, q.waiters = [.lockout] → s.lockout.wait = .charge d →
        t.lockout.wait = .free ∧ t.cred.inbox = s.cred.inbox ++ [.chargeCommitted] ∧ s.entriesRewritten t (· = d)) ∧
      (∀ r, q.waiters = [.store] → s.store.setting = some r →
        t.store.setting = none ∧ s.completed t r .ok 0 s.store.policy.bytes) ∧
      (∀ r v key slot, q.waiters = [.guard] → s.guard.wait = .commits 1 (.define r v key slot) →
        t.guard.wait = .free ∧ s.completed t r .ok 0 [BitVec.ofNat 8 slot.val] ∧ s.volumesReported t ∧
          (∀ w, w ≠ v → t.vol w = s.vol w) ∧
          t.vol v =
            { s.vol v with
              data :=
                { state := if (r.byte 6).getLsbD 0 then .openRo else .opened, first := r.field 8 4, count := r.field 12 4
                  idleCode := min (r.byte 5).toNat 7, writeProtect := (r.byte 6).getLsbD 0, lastResult := .none
                  suspects := 0 }
              openedBy := some slot, extentKnown := true, key := key, keyHeld := true
              idle := idlePeriod (min (r.byte 5).toNat 7) }) ∧
      (∀ r v, q.waiters = [.guard] → s.guard.wait = .commits 1 (.delete r v) →
        t.guard.wait = .free ∧ s.completed t r .ok 0 [] ∧ s.volumesReported t ∧ (∀ w, w ≠ v → t.vol w = s.vol w) ∧
          (t.vol v).data = VolRec.absent) ∧
      (∀ e, q.waiters = [.credential] → s.cred.wait = .enroll → s.cred.enroll = some e → e.stage = .slotCommit →
        e.firstAdmin = false →
        t.cred.enroll = none ∧ t.cred.wait = .free ∧ t.keypad.inbox = s.keypad.inbox ++ [.outcome true] ∧
          s.completed t e.req .ok 0
            [e.role.code, BitVec.ofNat 8 (bit e.readOnly), BitVec.ofNat 8 e.work.toNat]) ∧
      (∀ e, q.waiters = [.credential] → s.cred.wait = .enroll → s.cred.enroll = some e → e.firstAdmin = true →
        (e.stage = .slotCommit → s.storeTakes = true →
          t.cred.enroll = some { e with stage := .deviceCommit } ∧ t.cred.wait = .enroll ∧
            t.store.device = { s.store.device with provisioned := true } ∧ t.awaits (.device t.store.device) .credential) ∧
        (e.stage = .slotCommit → s.storeTakes = false →
          t.cred.enroll = none ∧ t.cred.wait = .free ∧ s.completed t e.req .halted 0 []) ∧
        (e.stage = .deviceCommit →
          t.cred.enroll = none ∧ t.cred.wait = .free ∧ t.keypad.inbox = s.keypad.inbox ++ [.outcome true] ∧
            t.cred.window = some ⟨e.slot, 300, false⟩ ∧ t.cred.adminKey = e.kek ∧ s.rewritten t .window ∧
            t.device = (if s.device = .unprovisioned then .ready else s.device) ∧
            (s.device = .unprovisioned → s.rewritten t .device) ∧
            s.completed t e.req .ok 0
              [e.role.code, BitVec.ofNat 8 (bit e.readOnly), BitVec.ofNat 8 e.work.toNat])) ∧
      (∀ r role slot, q.waiters = [.credential] → s.cred.wait = .revoke r role slot →
        let held : Bool := s.cred.window.any fun w => w.slot = slot
        t.cred.wait = .free ∧ t.doneWith r.slot .ok ∧ t.slotByte r.slot 36 = role.code ∧ t.outOfQueues r.slot ∧
          (held = true → t.cred.window = none ∧ t.cred.adminKey = 0 ∧ s.rewritten t .window ∧
            ∀ e, s.cred.enroll = some e → e.committed = false → e.firstAdmin = false →
              t.cred.enroll = none ∧ (e.req.slot ≠ r.slot → t.doneWith e.req.slot .notAuthorized)) ∧
          (held = false → t.cred.window = s.cred.window ∧ t.cred.adminKey = s.cred.adminKey ∧
            s.completed t r .ok 0 [role.code])) ∧
      (∀ n, q.waiters = [.credential] → s.cred.wait = .factory n →
        if n ≤ 1 then
          t.cred.wait = .free ∧ t.device = (if s.device = .ready then .unprovisioned else s.device) ∧
            (s.device = .ready → s.rewritten t .device)
        else t.cred.wait = .factory (n - 1) ∧ t.device = s.device) ∧
      (∀ n, q.waiters = [.credential] → s.cred.wait = .removal n →
        if n ≤ 1 then
          t.cred.wait = .free ∧ ∀ a v, s.erase.job = .accept a → a.stage = .removal v →
            t.guard.inbox = s.guard.inbox ++ [.eraseAccept v] ∧ t.erase.job = .accept { a with stage := .guard v }
        else t.cred.wait = .removal (n - 1) ∧ t.erase.job = s.erase.job ∧ t.guard.inbox = s.guard.inbox) ∧
      (let mergesNone (b : Acceptance) : Prop := ∀ w ∈ b.todo, s.walk b.source w ≠ .merge
       let goesOn (b : Acceptance) : Prop :=
         (mergesNone b → t.erase.list = s.erase.list) ∧
           (∀ w ws, b.todo = w :: ws → s.walk b.source w = .merge → mergeInto w b.plan b.wipe s.erase.list ≠ s.erase.list →
             t.erase.list = mergeInto w b.plan b.wipe s.erase.list ∧ t.awaits (.eraseList t.erase.list) .engine) ∧
           (∀ w ws, b.todo = w :: ws → s.walk b.source w = .accept →
             t.erase.list = s.erase.list ∧
             t.guard.inbox = s.guard.inbox ++ [.lock (single w)] ∧ t.cred.inbox = s.cred.inbox ++ [.removal w] ∧
               t.erase.job = .accept { b with todo := ws, stage := .removal w }) ∧
           (b.todo = [] →
             ({ s with erase := { s.erase with job := .none } } : State).ran t ∧
               (∀ r, b.source = .request r → s.completed t r .ok 0 [b.accepted, b.merged, b.retired]) ∧
               (b.source = .brute → t.lockout.inbox = s.lockout.inbox ++ [.accepted]))
       let onNewHead (b : Acceptance) (newHead : Bool) : Prop :=
         if newHead && s.erase.flying.isSome then t.erase.job = .accept { b with stage := .reply } ∧ t.erase.list = s.erase.list
         else goesOn b ∧ (newHead = true → ∀ h, s.eraseHead = some h → t.queued (.checkpoint h.checkpoint))
       let emptied (a : Action) : Prop :=
         t.erase.pause = false ∧ t.erase.job = .none ∧ t.queued (.checkpoint {}) ∧
           (a = .none → t.guard.inbox = s.guard.inbox ∧ t.device = s.device) ∧
           (a = .lockAll → t.guard.inbox = s.guard.inbox ++ [.lock 0xFF] ∧ t.device = s.device) ∧
           (a = .halt → s.device = .ready →
             t.device = .halted ∧ t.store.mode = .finishing ∧ s.rewritten t .device ∧
               ∀ b, t.signalsAt b = s.signalsAt b ++ [.halt]) ∧
           (a = .halt → s.device ≠ .ready → t.device = s.device)
       (∀ n next, q.waiters = [.guard] → s.guard.wait = .commits n next → 1 < n →
         t.guard.wait = .commits (n - 1) next ∧ s.sameBut (([.guardInbox, .array, .commits, .storeRest] : List Part) ++ showing) t) ∧
       (q.waiters = [.guard] → s.guard.wait = .commits 1 .faulted →
         t.guard.wait = .free ∧ s.sameBut (([.guardInbox, .array, .commits, .storeRest] : List Part) ++ showing) t) ∧
       (∀ v a, q.waiters = [.guard] → s.erase.job = .accept a → a.stage = .guard v →
         (s.guard.wait = .commits 1 (.accepted v) → t.guard.wait = .free ∧ t.guard.vols = s.guard.vols ∧
           (mergesNone a → s.rewritten t .erase) ∧
           onNewHead { a with accepted := a.accepted ||| single v } (s.eraseHead.any fun e => e.vol = v)) ∧
         (s.guard.wait = .commits 1 (.retired v) → t.guard.wait = .free ∧ t.guard.vols = s.guard.vols ∧
           goesOn { a with retired := a.retired ||| single v })) ∧
       (∀ v, q.waiters = [.guard] → s.guard.wait = .commits 1 (.ended v) →
         t.guard.wait = .free ∧ t.guard.vols = s.guard.vols ∧
           (s.erase.job = .endGuard v →
             t.erase.list = s.erase.list.filter (fun e => e.vol ≠ v) ∧ t.awaits (.eraseList t.erase.list) .engine ∧
               t.erase.job = .endList (((s.eraseEntry v).map EraseEntry.action).getD .none)
                 (s.eraseHead.any fun e => e.vol = v)) ∧
           (∀ r w ws n a, s.erase.job = .abortGuard r (w :: ws) n a →
             t.erase.job = .abortGuard r ws n a ∧
               t.guard.inbox = s.guard.inbox ++
                 [.eraseEnd w .aborted (((s.eraseEntry w).map EraseEntry.suspects).getD 0)]) ∧
           (∀ r n a, s.erase.job = .abortGuard r [] n a →
             t.erase.job = .abortList r n a ∧ t.erase.list = ofOrigin true s.erase.list ∧
               t.awaits (.eraseList t.erase.list) .engine)) ∧
       (q.waiters = [.engine] →
         (∀ a wasHead, s.erase.job = .endList a wasHead →
           t.attending .erase = true ∧ t.erase.list = s.erase.list ∧ s.rewritten t .erase ∧
             (s.erase.list = [] → emptied a) ∧ ({ s with erase := { s.erase with job := .none } } : State).ran t ∧
             (wasHead = true → ∀ h, s.eraseHead = some h → t.queued (.checkpoint h.checkpoint))) ∧
         (∀ r n a, s.erase.job = .abortList r n a →
           t.attending .erase = true ∧ t.erase.list = s.erase.list ∧ s.rewritten t .erase ∧
             s.completed t r .ok 0 [t.erase.state.code, BitVec.ofNat 8 n] ∧
             ({ s with erase := { s.erase with job := .none } } : State).ran t ∧
             (s.erase.list = [] → (∀ x ∈ s.exch.controlQ, x.slot = r.slot) → s.exch.followers = [] → r.offset = 0 → emptied a)) ∧
         ∀ a newHead, s.erase.job = .accept a → a.stage = .merge newHead →
           (mergesNone a → s.rewritten t .erase) ∧ onNewHead a newHead)) ∧
      (q.waiters = [.link] → s.link.ident = .commit →
        t.link.ident = .none ∧ t.link.probeLeft = none ∧ t.link.inFlight = none ∧ t.startUp.identAsked = false ∧
          t.startUp.next = (if s.startUp.identAsked then 6 else s.startUp.next) ∧
          (s.linkServes = false → t.link.state = .ready) ∧ t.link.state ≠ .fault ∧ s.identityShown t s.link ∧
          (s.link.state = .fault → t.attending .link = true ∧
            (s.device ≠ .starting → t.erase.inbox = s.erase.inbox ++ .linkReturn :: t.grantEvent))) ∧
      (q.waiters = [.link, .credential] ∨ q.waiters = [.credential, .link] → s.link.ident = .commit →
        (t.link.ident = .none ∧ t.link.probeLeft = none ∧ t.link.inFlight = none ∧ t.startUp.identAsked = false ∧
          t.startUp.next = (if s.startUp.identAsked then 6 else s.startUp.next) ∧ t.link.state ≠ .fault ∧
          s.identityShown t s.link ∧
          (s.link.state = .fault → t.attending .link = true ∧ (s.device ≠ .starting → .linkReturn ∈ t.erase.inbox))) ∧
        (∀ e, s.cred.wait = .enroll → s.cred.enroll = some e → e.firstAdmin = true → e.stage = .deviceCommit →
          t.cred.enroll = none ∧ t.cred.wait = .free ∧ t.keypad.inbox = s.keypad.inbox ++ [.outcome true] ∧
            t.cred.window = some ⟨e.slot, 300, false⟩ ∧ t.cred.adminKey = e.kek ∧
            t.device = (if s.device = .unprovisioned then .ready else s.device) ∧
            s.completed t e.req .ok 0 [e.role.code, BitVec.ofNat 8 (bit e.readOnly), BitVec.ofNat 8 e.work.toNat]) ∧
        ∀ n, s.cred.wait = .factory n →
          if n ≤ 1 then t.cred.wait = .free ∧ t.device = (if s.device = .ready then .unprovisioned else s.device)
          else t.cred.wait = .factory (n - 1) ∧ t.device = s.device) ∧
      (q.waiters = [.guard, .credential] ∨ q.waiters = [.credential, .guard] →
        ∀ m r v key i, s.guard.wait = .commits m (.define r v key i) →
          (if m ≤ 1 then
            t.guard.wait = .free ∧ (t.vol v).isOpen = true ∧
              ((∀ x role j, s.cred.wait = .revoke x role j → x.slot ≠ r.slot) →
                (∀ e, s.cred.enroll = some e → e.req.slot ≠ r.slot) → t.doneWith r.slot .ok ∧ t.outOfQueues r.slot)
           else t.guard.wait = .commits (m - 1) (.define r v key i) ∧ t.guard.vols = s.guard.vols) ∧
          (∀ n, s.cred.wait = .removal n →
            if n ≤ 1 then
              t.cred.wait = .free ∧ ∀ a w, s.erase.job = .accept a → a.stage = .removal w →
                .eraseAccept w ∈ t.guard.inbox ∧ t.erase.job = .accept { a with stage := .guard w }
            else t.cred.wait = .removal (n - 1) ∧ t.erase.job = s.erase.job) ∧
          (∀ n, s.cred.wait = .factory n →
            if n ≤ 1 then t.cred.wait = .free ∧ t.device = (if s.device = .ready then .unprovisioned else s.device)
            else t.cred.wait = .factory (n - 1) ∧ t.device = s.device) ∧
          ∀ x role slot, s.cred.wait = .revoke x role slot →
            t.cred.wait = .free ∧ (s.cred.window.any (fun w => w.slot = slot) = true → t.cred.window = none ∧ t.cred.adminKey = 0) ∧
              (x.slot ≠ r.slot → t.doneWith x.slot .ok ∧ t.slotByte x.slot 36 = role.code ∧ t.outOfQueues x.slot)) ∧
      (q.waiters = [.startUp] → s.startUp.deviceCommit = true → s.device = .starting →
        ∃ u : State, t = (if s.exch.scanPending && !s.exch.warned then u.scanned.settle else u.settle).beginCommit.settle ∧
          u.device = (if s.adminSlot || s.store.device.provisioned then .ready else .unprovisioned) ∧
          u.startUp = { s.startUp with next := 0, sixBegun := false, deviceCommit := false } ∧
          u.keypad.scanning = true ∧ u.keypad.settings = keySettings s.store.policy ∧
          u.erase.linkHold = (s.erase.linkHold || s.link.state = .fault) ∧
          ({ s with device := u.device, erase := { s.erase with linkHold := u.erase.linkHold } } : State).ran u ∧
          u.exch.scanPending = (s.exch.scanPending && s.exch.warned) ∧ u.exch.takePtr = s.exch.takePtr ∧
          s.sameBut [.device, .startUp, .scanner, .assembler, .temp, .attn, .eraseInbox, .pageTemperature, .pageDevice,
            .eraseRest, .pageErase, .link, .pageLink, .array, .commits, .storeRest, .guardInbox, .scanRegs] u)) ∧
    ∀ left, s.store.retrying = true →
      ∃ u : State, exec (.commitDone (.differs left)) s =
          .next (if s.device = .starting ∧ s.exch.scanPending = true ∧ s.exch.warned = false then u.scanned.settle
            else u.settle) ∧
        u.store.nv = s.store.nv.cut q.data left ∧ u.store.failed = some q.data.id ∧ u.store.mode = .stopped ∧
        u.store.current = none ∧ u.store.queue = [] ∧ u.store.room = [] ∧ u.attending .store = true ∧
        u.device = .halted ∧
        (s.device ≠ .halted → s.device ≠ .starting → ∀ b, u.signalsAt b = s.signalsAt b ++ [.halt]) ∧
        (let ws := q.waiters ++ (s.store.queue ++ s.store.room).flatMap Queued.waiters
         let halted (r : Request) : Prop := u.doneWith r.slot .halted ∧ u.outOfQueues r.slot
         (∀ n r v key slot, .guard ∈ ws → s.guard.wait = .commits n (.define r v key slot) → u.guard.wait = .free ∧ halted r) ∧
           (∀ n r v, .guard ∈ ws → s.guard.wait = .commits n (.delete r v) → u.guard.wait = .free ∧ halted r) ∧
           (∀ r role slot, .credential ∈ ws → s.cred.wait = .revoke r role slot → u.cred.wait = .free ∧ halted r) ∧
           (∀ e, .credential ∈ ws → s.cred.wait = .enroll → s.cred.enroll = some e →
             u.cred.wait = .free ∧ u.cred.enroll = none ∧ halted e.req) ∧
           (∀ r, .store ∈ ws → s.store.setting = some r → u.store.setting = none ∧ halted r ∧
             u.store.policy = if u.store.nv.policy.ok then u.store.nv.policy.val else Policy.defaults) ∧
           (∀ d, .lockout ∈ ws → s.lockout.wait = .charge d →
             u.lockout.wait = .free ∧ u.cred.inbox.count .chargeCommitted = s.cred.inbox.count .chargeCommitted) ∧
           (s.device ≠ .halted → ∀ r ∈ u.exch.controlQ ++ u.exch.followers, r.late = false →
             ∃ x ∈ s.exch.controlQ ++ s.exch.followers, x.slot = r.slot)) ∧
        (s.device = .starting →
          u.startUp = { next := 0 } ∧ u.exch.scanPending = (s.exch.scanPending && s.exch.warned)) ∧
        (s.device ≠ .starting → u.exch.scanPending = s.exch.scanPending) ∧ u.exch.takePtr = s.exch.takePtr ∧
        s.sameBut (([.array, .commits, .device, .scanRegs, .signals, .pageDevice, .startUp, .link, .temp, .pageTemperature,
          .pageVolumes, .lockoutRest, .credRest] : List Part) ++ enrollEnding) u
end

