-- ==== Sys2Proof/Laws/State.lean ====
section
/-! SUPPORT. One lemma per field per updater of the state, so that no later proof unfolds a record update. -/

namespace Sys2Proof.Machine

-- One theorem at a time: side by side they ask for more threads than the check's memory limit allows.
set_option Elab.async false

variable (s : State)

@[simp] theorem State.modGuard_pending (g : Guard → Guard) : (s.modGuard g).pending = s.pending := rfl
@[simp] theorem State.modGuard_power (g : Guard → Guard) : (s.modGuard g).power = s.power := rfl
@[simp] theorem State.modGuard_device (g : Guard → Guard) : (s.modGuard g).device = s.device := rfl
@[simp] theorem State.modGuard_startUp (g : Guard → Guard) : (s.modGuard g).startUp = s.startUp := rfl
@[simp] theorem State.modGuard_ms (g : Guard → Guard) : (s.modGuard g).ms = s.ms := rfl
@[simp] theorem State.modGuard_msOfSecond (g : Guard → Guard) : (s.modGuard g).msOfSecond = s.msOfSecond := rfl
@[simp] theorem State.modGuard_draws (g : Guard → Guard) : (s.modGuard g).draws = s.draws := rfl
@[simp] theorem State.modGuard_signals (g : Guard → Guard) : (s.modGuard g).signals = s.signals := rfl
@[simp] theorem State.modGuard_guard (g : Guard → Guard) : (s.modGuard g).guard = g s.guard := rfl
@[simp] theorem State.modGuard_cred (g : Guard → Guard) : (s.modGuard g).cred = s.cred := rfl
@[simp] theorem State.modGuard_lockout (g : Guard → Guard) : (s.modGuard g).lockout = s.lockout := rfl
@[simp] theorem State.modGuard_keypad (g : Guard → Guard) : (s.modGuard g).keypad = s.keypad := rfl
@[simp] theorem State.modGuard_sector (g : Guard → Guard) : (s.modGuard g).sector = s.sector := rfl
@[simp] theorem State.modGuard_link (g : Guard → Guard) : (s.modGuard g).link = s.link := rfl
@[simp] theorem State.modGuard_erase (g : Guard → Guard) : (s.modGuard g).erase = s.erase := rfl
@[simp] theorem State.modGuard_temp (g : Guard → Guard) : (s.modGuard g).temp = s.temp := rfl
@[simp] theorem State.modGuard_supply (g : Guard → Guard) : (s.modGuard g).supply = s.supply := rfl
@[simp] theorem State.modGuard_store (g : Guard → Guard) : (s.modGuard g).store = s.store := rfl
@[simp] theorem State.modGuard_exch (g : Guard → Guard) : (s.modGuard g).exch = s.exch := rfl
@[simp] theorem State.modGuard_page (g : Guard → Guard) : (s.modGuard g).page = s.page := rfl

@[simp] theorem State.modCred_pending (g : Credential → Credential) : (s.modCred g).pending = s.pending := rfl
@[simp] theorem State.modCred_power (g : Credential → Credential) : (s.modCred g).power = s.power := rfl
@[simp] theorem State.modCred_device (g : Credential → Credential) : (s.modCred g).device = s.device := rfl
@[simp] theorem State.modCred_startUp (g : Credential → Credential) : (s.modCred g).startUp = s.startUp := rfl
@[simp] theorem State.modCred_ms (g : Credential → Credential) : (s.modCred g).ms = s.ms := rfl
@[simp] theorem State.modCred_msOfSecond (g : Credential → Credential) : (s.modCred g).msOfSecond = s.msOfSecond := rfl
@[simp] theorem State.modCred_draws (g : Credential → Credential) : (s.modCred g).draws = s.draws := rfl
@[simp] theorem State.modCred_signals (g : Credential → Credential) : (s.modCred g).signals = s.signals := rfl
@[simp] theorem State.modCred_guard (g : Credential → Credential) : (s.modCred g).guard = s.guard := rfl
@[simp] theorem State.modCred_cred (g : Credential → Credential) : (s.modCred g).cred = g s.cred := rfl
@[simp] theorem State.modCred_lockout (g : Credential → Credential) : (s.modCred g).lockout = s.lockout := rfl
@[simp] theorem State.modCred_keypad (g : Credential → Credential) : (s.modCred g).keypad = s.keypad := rfl
@[simp] theorem State.modCred_sector (g : Credential → Credential) : (s.modCred g).sector = s.sector := rfl
@[simp] theorem State.modCred_link (g : Credential → Credential) : (s.modCred g).link = s.link := rfl
@[simp] theorem State.modCred_erase (g : Credential → Credential) : (s.modCred g).erase = s.erase := rfl
@[simp] theorem State.modCred_temp (g : Credential → Credential) : (s.modCred g).temp = s.temp := rfl
@[simp] theorem State.modCred_supply (g : Credential → Credential) : (s.modCred g).supply = s.supply := rfl
@[simp] theorem State.modCred_store (g : Credential → Credential) : (s.modCred g).store = s.store := rfl
@[simp] theorem State.modCred_exch (g : Credential → Credential) : (s.modCred g).exch = s.exch := rfl
@[simp] theorem State.modCred_page (g : Credential → Credential) : (s.modCred g).page = s.page := rfl

@[simp] theorem State.modLockout_pending (g : Lockout → Lockout) : (s.modLockout g).pending = s.pending := rfl
@[simp] theorem State.modLockout_power (g : Lockout → Lockout) : (s.modLockout g).power = s.power := rfl
@[simp] theorem State.modLockout_device (g : Lockout → Lockout) : (s.modLockout g).device = s.device := rfl
@[simp] theorem State.modLockout_startUp (g : Lockout → Lockout) : (s.modLockout g).startUp = s.startUp := rfl
@[simp] theorem State.modLockout_ms (g : Lockout → Lockout) : (s.modLockout g).ms = s.ms := rfl
@[simp] theorem State.modLockout_msOfSecond (g : Lockout → Lockout) : (s.modLockout g).msOfSecond = s.msOfSecond := rfl
@[simp] theorem State.modLockout_draws (g : Lockout → Lockout) : (s.modLockout g).draws = s.draws := rfl
@[simp] theorem State.modLockout_signals (g : Lockout → Lockout) : (s.modLockout g).signals = s.signals := rfl
@[simp] theorem State.modLockout_guard (g : Lockout → Lockout) : (s.modLockout g).guard = s.guard := rfl
@[simp] theorem State.modLockout_cred (g : Lockout → Lockout) : (s.modLockout g).cred = s.cred := rfl
@[simp] theorem State.modLockout_lockout (g : Lockout → Lockout) : (s.modLockout g).lockout = g s.lockout := rfl
@[simp] theorem State.modLockout_keypad (g : Lockout → Lockout) : (s.modLockout g).keypad = s.keypad := rfl
@[simp] theorem State.modLockout_sector (g : Lockout → Lockout) : (s.modLockout g).sector = s.sector := rfl
@[simp] theorem State.modLockout_link (g : Lockout → Lockout) : (s.modLockout g).link = s.link := rfl
@[simp] theorem State.modLockout_erase (g : Lockout → Lockout) : (s.modLockout g).erase = s.erase := rfl
@[simp] theorem State.modLockout_temp (g : Lockout → Lockout) : (s.modLockout g).temp = s.temp := rfl
@[simp] theorem State.modLockout_supply (g : Lockout → Lockout) : (s.modLockout g).supply = s.supply := rfl
@[simp] theorem State.modLockout_store (g : Lockout → Lockout) : (s.modLockout g).store = s.store := rfl
@[simp] theorem State.modLockout_exch (g : Lockout → Lockout) : (s.modLockout g).exch = s.exch := rfl
@[simp] theorem State.modLockout_page (g : Lockout → Lockout) : (s.modLockout g).page = s.page := rfl

@[simp] theorem State.modKeypad_pending (g : Keypad → Keypad) : (s.modKeypad g).pending = s.pending := rfl
@[simp] theorem State.modKeypad_power (g : Keypad → Keypad) : (s.modKeypad g).power = s.power := rfl
@[simp] theorem State.modKeypad_device (g : Keypad → Keypad) : (s.modKeypad g).device = s.device := rfl
@[simp] theorem State.modKeypad_startUp (g : Keypad → Keypad) : (s.modKeypad g).startUp = s.startUp := rfl
@[simp] theorem State.modKeypad_ms (g : Keypad → Keypad) : (s.modKeypad g).ms = s.ms := rfl
@[simp] theorem State.modKeypad_msOfSecond (g : Keypad → Keypad) : (s.modKeypad g).msOfSecond = s.msOfSecond := rfl
@[simp] theorem State.modKeypad_draws (g : Keypad → Keypad) : (s.modKeypad g).draws = s.draws := rfl
@[simp] theorem State.modKeypad_signals (g : Keypad → Keypad) : (s.modKeypad g).signals = s.signals := rfl
@[simp] theorem State.modKeypad_guard (g : Keypad → Keypad) : (s.modKeypad g).guard = s.guard := rfl
@[simp] theorem State.modKeypad_cred (g : Keypad → Keypad) : (s.modKeypad g).cred = s.cred := rfl
@[simp] theorem State.modKeypad_lockout (g : Keypad → Keypad) : (s.modKeypad g).lockout = s.lockout := rfl
@[simp] theorem State.modKeypad_keypad (g : Keypad → Keypad) : (s.modKeypad g).keypad = g s.keypad := rfl
@[simp] theorem State.modKeypad_sector (g : Keypad → Keypad) : (s.modKeypad g).sector = s.sector := rfl
@[simp] theorem State.modKeypad_link (g : Keypad → Keypad) : (s.modKeypad g).link = s.link := rfl
@[simp] theorem State.modKeypad_erase (g : Keypad → Keypad) : (s.modKeypad g).erase = s.erase := rfl
@[simp] theorem State.modKeypad_temp (g : Keypad → Keypad) : (s.modKeypad g).temp = s.temp := rfl
@[simp] theorem State.modKeypad_supply (g : Keypad → Keypad) : (s.modKeypad g).supply = s.supply := rfl
@[simp] theorem State.modKeypad_store (g : Keypad → Keypad) : (s.modKeypad g).store = s.store := rfl
@[simp] theorem State.modKeypad_exch (g : Keypad → Keypad) : (s.modKeypad g).exch = s.exch := rfl
@[simp] theorem State.modKeypad_page (g : Keypad → Keypad) : (s.modKeypad g).page = s.page := rfl

@[simp] theorem State.modSector_pending (g : SectorPath → SectorPath) : (s.modSector g).pending = s.pending := rfl
@[simp] theorem State.modSector_power (g : SectorPath → SectorPath) : (s.modSector g).power = s.power := rfl
@[simp] theorem State.modSector_device (g : SectorPath → SectorPath) : (s.modSector g).device = s.device := rfl
@[simp] theorem State.modSector_startUp (g : SectorPath → SectorPath) : (s.modSector g).startUp = s.startUp := rfl
@[simp] theorem State.modSector_ms (g : SectorPath → SectorPath) : (s.modSector g).ms = s.ms := rfl
@[simp] theorem State.modSector_msOfSecond (g : SectorPath → SectorPath) : (s.modSector g).msOfSecond = s.msOfSecond := rfl
@[simp] theorem State.modSector_draws (g : SectorPath → SectorPath) : (s.modSector g).draws = s.draws := rfl
@[simp] theorem State.modSector_signals (g : SectorPath → SectorPath) : (s.modSector g).signals = s.signals := rfl
@[simp] theorem State.modSector_guard (g : SectorPath → SectorPath) : (s.modSector g).guard = s.guard := rfl
@[simp] theorem State.modSector_cred (g : SectorPath → SectorPath) : (s.modSector g).cred = s.cred := rfl
@[simp] theorem State.modSector_lockout (g : SectorPath → SectorPath) : (s.modSector g).lockout = s.lockout := rfl
@[simp] theorem State.modSector_keypad (g : SectorPath → SectorPath) : (s.modSector g).keypad = s.keypad := rfl
@[simp] theorem State.modSector_sector (g : SectorPath → SectorPath) : (s.modSector g).sector = g s.sector := rfl
@[simp] theorem State.modSector_link (g : SectorPath → SectorPath) : (s.modSector g).link = s.link := rfl
@[simp] theorem State.modSector_erase (g : SectorPath → SectorPath) : (s.modSector g).erase = s.erase := rfl
@[simp] theorem State.modSector_temp (g : SectorPath → SectorPath) : (s.modSector g).temp = s.temp := rfl
@[simp] theorem State.modSector_supply (g : SectorPath → SectorPath) : (s.modSector g).supply = s.supply := rfl
@[simp] theorem State.modSector_store (g : SectorPath → SectorPath) : (s.modSector g).store = s.store := rfl
@[simp] theorem State.modSector_exch (g : SectorPath → SectorPath) : (s.modSector g).exch = s.exch := rfl
@[simp] theorem State.modSector_page (g : SectorPath → SectorPath) : (s.modSector g).page = s.page := rfl

@[simp] theorem State.modLink_pending (g : Link → Link) : (s.modLink g).pending = s.pending := rfl
@[simp] theorem State.modLink_power (g : Link → Link) : (s.modLink g).power = s.power := rfl
@[simp] theorem State.modLink_device (g : Link → Link) : (s.modLink g).device = s.device := rfl
@[simp] theorem State.modLink_startUp (g : Link → Link) : (s.modLink g).startUp = s.startUp := rfl
@[simp] theorem State.modLink_ms (g : Link → Link) : (s.modLink g).ms = s.ms := rfl
@[simp] theorem State.modLink_msOfSecond (g : Link → Link) : (s.modLink g).msOfSecond = s.msOfSecond := rfl
@[simp] theorem State.modLink_draws (g : Link → Link) : (s.modLink g).draws = s.draws := rfl
@[simp] theorem State.modLink_signals (g : Link → Link) : (s.modLink g).signals = s.signals := rfl
@[simp] theorem State.modLink_guard (g : Link → Link) : (s.modLink g).guard = s.guard := rfl
@[simp] theorem State.modLink_cred (g : Link → Link) : (s.modLink g).cred = s.cred := rfl
@[simp] theorem State.modLink_lockout (g : Link → Link) : (s.modLink g).lockout = s.lockout := rfl
@[simp] theorem State.modLink_keypad (g : Link → Link) : (s.modLink g).keypad = s.keypad := rfl
@[simp] theorem State.modLink_sector (g : Link → Link) : (s.modLink g).sector = s.sector := rfl
@[simp] theorem State.modLink_link (g : Link → Link) : (s.modLink g).link = g s.link := rfl
@[simp] theorem State.modLink_erase (g : Link → Link) : (s.modLink g).erase = s.erase := rfl
@[simp] theorem State.modLink_temp (g : Link → Link) : (s.modLink g).temp = s.temp := rfl
@[simp] theorem State.modLink_supply (g : Link → Link) : (s.modLink g).supply = s.supply := rfl
@[simp] theorem State.modLink_store (g : Link → Link) : (s.modLink g).store = s.store := rfl
@[simp] theorem State.modLink_exch (g : Link → Link) : (s.modLink g).exch = s.exch := rfl
@[simp] theorem State.modLink_page (g : Link → Link) : (s.modLink g).page = s.page := rfl

@[simp] theorem State.modErase_pending (g : Erase → Erase) : (s.modErase g).pending = s.pending := rfl
@[simp] theorem State.modErase_power (g : Erase → Erase) : (s.modErase g).power = s.power := rfl
@[simp] theorem State.modErase_device (g : Erase → Erase) : (s.modErase g).device = s.device := rfl
@[simp] theorem State.modErase_startUp (g : Erase → Erase) : (s.modErase g).startUp = s.startUp := rfl
@[simp] theorem State.modErase_ms (g : Erase → Erase) : (s.modErase g).ms = s.ms := rfl
@[simp] theorem State.modErase_msOfSecond (g : Erase → Erase) : (s.modErase g).msOfSecond = s.msOfSecond := rfl
@[simp] theorem State.modErase_draws (g : Erase → Erase) : (s.modErase g).draws = s.draws := rfl
@[simp] theorem State.modErase_signals (g : Erase → Erase) : (s.modErase g).signals = s.signals := rfl
@[simp] theorem State.modErase_guard (g : Erase → Erase) : (s.modErase g).guard = s.guard := rfl
@[simp] theorem State.modErase_cred (g : Erase → Erase) : (s.modErase g).cred = s.cred := rfl
@[simp] theorem State.modErase_lockout (g : Erase → Erase) : (s.modErase g).lockout = s.lockout := rfl
@[simp] theorem State.modErase_keypad (g : Erase → Erase) : (s.modErase g).keypad = s.keypad := rfl
@[simp] theorem State.modErase_sector (g : Erase → Erase) : (s.modErase g).sector = s.sector := rfl
@[simp] theorem State.modErase_link (g : Erase → Erase) : (s.modErase g).link = s.link := rfl
@[simp] theorem State.modErase_erase (g : Erase → Erase) : (s.modErase g).erase = g s.erase := rfl
@[simp] theorem State.modErase_temp (g : Erase → Erase) : (s.modErase g).temp = s.temp := rfl
@[simp] theorem State.modErase_supply (g : Erase → Erase) : (s.modErase g).supply = s.supply := rfl
@[simp] theorem State.modErase_store (g : Erase → Erase) : (s.modErase g).store = s.store := rfl
@[simp] theorem State.modErase_exch (g : Erase → Erase) : (s.modErase g).exch = s.exch := rfl
@[simp] theorem State.modErase_page (g : Erase → Erase) : (s.modErase g).page = s.page := rfl

@[simp] theorem State.modTemp_pending (g : Temperature → Temperature) : (s.modTemp g).pending = s.pending := rfl
@[simp] theorem State.modTemp_power (g : Temperature → Temperature) : (s.modTemp g).power = s.power := rfl
@[simp] theorem State.modTemp_device (g : Temperature → Temperature) : (s.modTemp g).device = s.device := rfl
@[simp] theorem State.modTemp_startUp (g : Temperature → Temperature) : (s.modTemp g).startUp = s.startUp := rfl
@[simp] theorem State.modTemp_ms (g : Temperature → Temperature) : (s.modTemp g).ms = s.ms := rfl
@[simp] theorem State.modTemp_msOfSecond (g : Temperature → Temperature) : (s.modTemp g).msOfSecond = s.msOfSecond := rfl
@[simp] theorem State.modTemp_draws (g : Temperature → Temperature) : (s.modTemp g).draws = s.draws := rfl
@[simp] theorem State.modTemp_signals (g : Temperature → Temperature) : (s.modTemp g).signals = s.signals := rfl
@[simp] theorem State.modTemp_guard (g : Temperature → Temperature) : (s.modTemp g).guard = s.guard := rfl
@[simp] theorem State.modTemp_cred (g : Temperature → Temperature) : (s.modTemp g).cred = s.cred := rfl
@[simp] theorem State.modTemp_lockout (g : Temperature → Temperature) : (s.modTemp g).lockout = s.lockout := rfl
@[simp] theorem State.modTemp_keypad (g : Temperature → Temperature) : (s.modTemp g).keypad = s.keypad := rfl
@[simp] theorem State.modTemp_sector (g : Temperature → Temperature) : (s.modTemp g).sector = s.sector := rfl
@[simp] theorem State.modTemp_link (g : Temperature → Temperature) : (s.modTemp g).link = s.link := rfl
@[simp] theorem State.modTemp_erase (g : Temperature → Temperature) : (s.modTemp g).erase = s.erase := rfl
@[simp] theorem State.modTemp_temp (g : Temperature → Temperature) : (s.modTemp g).temp = g s.temp := rfl
@[simp] theorem State.modTemp_supply (g : Temperature → Temperature) : (s.modTemp g).supply = s.supply := rfl
@[simp] theorem State.modTemp_store (g : Temperature → Temperature) : (s.modTemp g).store = s.store := rfl
@[simp] theorem State.modTemp_exch (g : Temperature → Temperature) : (s.modTemp g).exch = s.exch := rfl
@[simp] theorem State.modTemp_page (g : Temperature → Temperature) : (s.modTemp g).page = s.page := rfl

@[simp] theorem State.modSupply_pending (g : Supply → Supply) : (s.modSupply g).pending = s.pending := rfl
@[simp] theorem State.modSupply_power (g : Supply → Supply) : (s.modSupply g).power = s.power := rfl
@[simp] theorem State.modSupply_device (g : Supply → Supply) : (s.modSupply g).device = s.device := rfl
@[simp] theorem State.modSupply_startUp (g : Supply → Supply) : (s.modSupply g).startUp = s.startUp := rfl
@[simp] theorem State.modSupply_ms (g : Supply → Supply) : (s.modSupply g).ms = s.ms := rfl
@[simp] theorem State.modSupply_msOfSecond (g : Supply → Supply) : (s.modSupply g).msOfSecond = s.msOfSecond := rfl
@[simp] theorem State.modSupply_draws (g : Supply → Supply) : (s.modSupply g).draws = s.draws := rfl
@[simp] theorem State.modSupply_signals (g : Supply → Supply) : (s.modSupply g).signals = s.signals := rfl
@[simp] theorem State.modSupply_guard (g : Supply → Supply) : (s.modSupply g).guard = s.guard := rfl
@[simp] theorem State.modSupply_cred (g : Supply → Supply) : (s.modSupply g).cred = s.cred := rfl
@[simp] theorem State.modSupply_lockout (g : Supply → Supply) : (s.modSupply g).lockout = s.lockout := rfl
@[simp] theorem State.modSupply_keypad (g : Supply → Supply) : (s.modSupply g).keypad = s.keypad := rfl
@[simp] theorem State.modSupply_sector (g : Supply → Supply) : (s.modSupply g).sector = s.sector := rfl
@[simp] theorem State.modSupply_link (g : Supply → Supply) : (s.modSupply g).link = s.link := rfl
@[simp] theorem State.modSupply_erase (g : Supply → Supply) : (s.modSupply g).erase = s.erase := rfl
@[simp] theorem State.modSupply_temp (g : Supply → Supply) : (s.modSupply g).temp = s.temp := rfl
@[simp] theorem State.modSupply_supply (g : Supply → Supply) : (s.modSupply g).supply = g s.supply := rfl
@[simp] theorem State.modSupply_store (g : Supply → Supply) : (s.modSupply g).store = s.store := rfl
@[simp] theorem State.modSupply_exch (g : Supply → Supply) : (s.modSupply g).exch = s.exch := rfl
@[simp] theorem State.modSupply_page (g : Supply → Supply) : (s.modSupply g).page = s.page := rfl

@[simp] theorem State.modStore_pending (g : Store → Store) : (s.modStore g).pending = s.pending := rfl
@[simp] theorem State.modStore_power (g : Store → Store) : (s.modStore g).power = s.power := rfl
@[simp] theorem State.modStore_device (g : Store → Store) : (s.modStore g).device = s.device := rfl
@[simp] theorem State.modStore_startUp (g : Store → Store) : (s.modStore g).startUp = s.startUp := rfl
@[simp] theorem State.modStore_ms (g : Store → Store) : (s.modStore g).ms = s.ms := rfl
@[simp] theorem State.modStore_msOfSecond (g : Store → Store) : (s.modStore g).msOfSecond = s.msOfSecond := rfl
@[simp] theorem State.modStore_draws (g : Store → Store) : (s.modStore g).draws = s.draws := rfl
@[simp] theorem State.modStore_signals (g : Store → Store) : (s.modStore g).signals = s.signals := rfl
@[simp] theorem State.modStore_guard (g : Store → Store) : (s.modStore g).guard = s.guard := rfl
@[simp] theorem State.modStore_cred (g : Store → Store) : (s.modStore g).cred = s.cred := rfl
@[simp] theorem State.modStore_lockout (g : Store → Store) : (s.modStore g).lockout = s.lockout := rfl
@[simp] theorem State.modStore_keypad (g : Store → Store) : (s.modStore g).keypad = s.keypad := rfl
@[simp] theorem State.modStore_sector (g : Store → Store) : (s.modStore g).sector = s.sector := rfl
@[simp] theorem State.modStore_link (g : Store → Store) : (s.modStore g).link = s.link := rfl
@[simp] theorem State.modStore_erase (g : Store → Store) : (s.modStore g).erase = s.erase := rfl
@[simp] theorem State.modStore_temp (g : Store → Store) : (s.modStore g).temp = s.temp := rfl
@[simp] theorem State.modStore_supply (g : Store → Store) : (s.modStore g).supply = s.supply := rfl
@[simp] theorem State.modStore_store (g : Store → Store) : (s.modStore g).store = g s.store := rfl
@[simp] theorem State.modStore_exch (g : Store → Store) : (s.modStore g).exch = s.exch := rfl
@[simp] theorem State.modStore_page (g : Store → Store) : (s.modStore g).page = s.page := rfl

@[simp] theorem State.modExch_pending (g : Exchange → Exchange) : (s.modExch g).pending = s.pending := rfl
@[simp] theorem State.modExch_power (g : Exchange → Exchange) : (s.modExch g).power = s.power := rfl
@[simp] theorem State.modExch_device (g : Exchange → Exchange) : (s.modExch g).device = s.device := rfl
@[simp] theorem State.modExch_startUp (g : Exchange → Exchange) : (s.modExch g).startUp = s.startUp := rfl
@[simp] theorem State.modExch_ms (g : Exchange → Exchange) : (s.modExch g).ms = s.ms := rfl
@[simp] theorem State.modExch_msOfSecond (g : Exchange → Exchange) : (s.modExch g).msOfSecond = s.msOfSecond := rfl
@[simp] theorem State.modExch_draws (g : Exchange → Exchange) : (s.modExch g).draws = s.draws := rfl
@[simp] theorem State.modExch_signals (g : Exchange → Exchange) : (s.modExch g).signals = s.signals := rfl
@[simp] theorem State.modExch_guard (g : Exchange → Exchange) : (s.modExch g).guard = s.guard := rfl
@[simp] theorem State.modExch_cred (g : Exchange → Exchange) : (s.modExch g).cred = s.cred := rfl
@[simp] theorem State.modExch_lockout (g : Exchange → Exchange) : (s.modExch g).lockout = s.lockout := rfl
@[simp] theorem State.modExch_keypad (g : Exchange → Exchange) : (s.modExch g).keypad = s.keypad := rfl
@[simp] theorem State.modExch_sector (g : Exchange → Exchange) : (s.modExch g).sector = s.sector := rfl
@[simp] theorem State.modExch_link (g : Exchange → Exchange) : (s.modExch g).link = s.link := rfl
@[simp] theorem State.modExch_erase (g : Exchange → Exchange) : (s.modExch g).erase = s.erase := rfl
@[simp] theorem State.modExch_temp (g : Exchange → Exchange) : (s.modExch g).temp = s.temp := rfl
@[simp] theorem State.modExch_supply (g : Exchange → Exchange) : (s.modExch g).supply = s.supply := rfl
@[simp] theorem State.modExch_store (g : Exchange → Exchange) : (s.modExch g).store = s.store := rfl
@[simp] theorem State.modExch_exch (g : Exchange → Exchange) : (s.modExch g).exch = g s.exch := rfl
@[simp] theorem State.modExch_page (g : Exchange → Exchange) : (s.modExch g).page = s.page := rfl

@[simp] theorem State.modPage_pending (g : Page → Page) : (s.modPage g).pending = s.pending := rfl
@[simp] theorem State.modPage_power (g : Page → Page) : (s.modPage g).power = s.power := rfl
@[simp] theorem State.modPage_device (g : Page → Page) : (s.modPage g).device = s.device := rfl
@[simp] theorem State.modPage_startUp (g : Page → Page) : (s.modPage g).startUp = s.startUp := rfl
@[simp] theorem State.modPage_ms (g : Page → Page) : (s.modPage g).ms = s.ms := rfl
@[simp] theorem State.modPage_msOfSecond (g : Page → Page) : (s.modPage g).msOfSecond = s.msOfSecond := rfl
@[simp] theorem State.modPage_draws (g : Page → Page) : (s.modPage g).draws = s.draws := rfl
@[simp] theorem State.modPage_signals (g : Page → Page) : (s.modPage g).signals = s.signals := rfl
@[simp] theorem State.modPage_guard (g : Page → Page) : (s.modPage g).guard = s.guard := rfl
@[simp] theorem State.modPage_cred (g : Page → Page) : (s.modPage g).cred = s.cred := rfl
@[simp] theorem State.modPage_lockout (g : Page → Page) : (s.modPage g).lockout = s.lockout := rfl
@[simp] theorem State.modPage_keypad (g : Page → Page) : (s.modPage g).keypad = s.keypad := rfl
@[simp] theorem State.modPage_sector (g : Page → Page) : (s.modPage g).sector = s.sector := rfl
@[simp] theorem State.modPage_link (g : Page → Page) : (s.modPage g).link = s.link := rfl
@[simp] theorem State.modPage_erase (g : Page → Page) : (s.modPage g).erase = s.erase := rfl
@[simp] theorem State.modPage_temp (g : Page → Page) : (s.modPage g).temp = s.temp := rfl
@[simp] theorem State.modPage_supply (g : Page → Page) : (s.modPage g).supply = s.supply := rfl
@[simp] theorem State.modPage_store (g : Page → Page) : (s.modPage g).store = s.store := rfl
@[simp] theorem State.modPage_exch (g : Page → Page) : (s.modPage g).exch = s.exch := rfl
@[simp] theorem State.modPage_page (g : Page → Page) : (s.modPage g).page = g s.page := rfl

@[simp] theorem State.modStartUp_pending (g : StartUp → StartUp) : (s.modStartUp g).pending = s.pending := rfl
@[simp] theorem State.modStartUp_power (g : StartUp → StartUp) : (s.modStartUp g).power = s.power := rfl
@[simp] theorem State.modStartUp_device (g : StartUp → StartUp) : (s.modStartUp g).device = s.device := rfl
@[simp] theorem State.modStartUp_startUp (g : StartUp → StartUp) : (s.modStartUp g).startUp = g s.startUp := rfl
@[simp] theorem State.modStartUp_ms (g : StartUp → StartUp) : (s.modStartUp g).ms = s.ms := rfl
@[simp] theorem State.modStartUp_msOfSecond (g : StartUp → StartUp) : (s.modStartUp g).msOfSecond = s.msOfSecond := rfl
@[simp] theorem State.modStartUp_draws (g : StartUp → StartUp) : (s.modStartUp g).draws = s.draws := rfl
@[simp] theorem State.modStartUp_signals (g : StartUp → StartUp) : (s.modStartUp g).signals = s.signals := rfl
@[simp] theorem State.modStartUp_guard (g : StartUp → StartUp) : (s.modStartUp g).guard = s.guard := rfl
@[simp] theorem State.modStartUp_cred (g : StartUp → StartUp) : (s.modStartUp g).cred = s.cred := rfl
@[simp] theorem State.modStartUp_lockout (g : StartUp → StartUp) : (s.modStartUp g).lockout = s.lockout := rfl
@[simp] theorem State.modStartUp_keypad (g : StartUp → StartUp) : (s.modStartUp g).keypad = s.keypad := rfl
@[simp] theorem State.modStartUp_sector (g : StartUp → StartUp) : (s.modStartUp g).sector = s.sector := rfl
@[simp] theorem State.modStartUp_link (g : StartUp → StartUp) : (s.modStartUp g).link = s.link := rfl
@[simp] theorem State.modStartUp_erase (g : StartUp → StartUp) : (s.modStartUp g).erase = s.erase := rfl
@[simp] theorem State.modStartUp_temp (g : StartUp → StartUp) : (s.modStartUp g).temp = s.temp := rfl
@[simp] theorem State.modStartUp_supply (g : StartUp → StartUp) : (s.modStartUp g).supply = s.supply := rfl
@[simp] theorem State.modStartUp_store (g : StartUp → StartUp) : (s.modStartUp g).store = s.store := rfl
@[simp] theorem State.modStartUp_exch (g : StartUp → StartUp) : (s.modStartUp g).exch = s.exch := rfl
@[simp] theorem State.modStartUp_page (g : StartUp → StartUp) : (s.modStartUp g).page = s.page := rfl

@[simp] theorem State.modSignals_pending (g : Signals → Signals) : (s.modSignals g).pending = s.pending := rfl
@[simp] theorem State.modSignals_power (g : Signals → Signals) : (s.modSignals g).power = s.power := rfl
@[simp] theorem State.modSignals_device (g : Signals → Signals) : (s.modSignals g).device = s.device := rfl
@[simp] theorem State.modSignals_startUp (g : Signals → Signals) : (s.modSignals g).startUp = s.startUp := rfl
@[simp] theorem State.modSignals_ms (g : Signals → Signals) : (s.modSignals g).ms = s.ms := rfl
@[simp] theorem State.modSignals_msOfSecond (g : Signals → Signals) : (s.modSignals g).msOfSecond = s.msOfSecond := rfl
@[simp] theorem State.modSignals_draws (g : Signals → Signals) : (s.modSignals g).draws = s.draws := rfl
@[simp] theorem State.modSignals_signals (g : Signals → Signals) : (s.modSignals g).signals = g s.signals := rfl
@[simp] theorem State.modSignals_guard (g : Signals → Signals) : (s.modSignals g).guard = s.guard := rfl
@[simp] theorem State.modSignals_cred (g : Signals → Signals) : (s.modSignals g).cred = s.cred := rfl
@[simp] theorem State.modSignals_lockout (g : Signals → Signals) : (s.modSignals g).lockout = s.lockout := rfl
@[simp] theorem State.modSignals_keypad (g : Signals → Signals) : (s.modSignals g).keypad = s.keypad := rfl
@[simp] theorem State.modSignals_sector (g : Signals → Signals) : (s.modSignals g).sector = s.sector := rfl
@[simp] theorem State.modSignals_link (g : Signals → Signals) : (s.modSignals g).link = s.link := rfl
@[simp] theorem State.modSignals_erase (g : Signals → Signals) : (s.modSignals g).erase = s.erase := rfl
@[simp] theorem State.modSignals_temp (g : Signals → Signals) : (s.modSignals g).temp = s.temp := rfl
@[simp] theorem State.modSignals_supply (g : Signals → Signals) : (s.modSignals g).supply = s.supply := rfl
@[simp] theorem State.modSignals_store (g : Signals → Signals) : (s.modSignals g).store = s.store := rfl
@[simp] theorem State.modSignals_exch (g : Signals → Signals) : (s.modSignals g).exch = s.exch := rfl
@[simp] theorem State.modSignals_page (g : Signals → Signals) : (s.modSignals g).page = s.page := rfl

@[simp] theorem State.modVol_guard (v : Vol) (g : Volume → Volume) :
    (s.modVol v g).guard = { s.guard with vols := s.guard.vols.set v (g s.guard.vols[v]) } := rfl

@[simp] theorem State.setSlot_cred (i : CSlot) (c : CredSlot) :
    (s.setSlot i c).cred = { s.cred with slots := s.cred.slots.set i c } := rfl

/-- Changing one volume leaves the others. -/
theorem State.modVol_vol (v w : Vol) (g : Volume → Volume) :
    (s.modVol v g).vol w = if v = w then g (s.vol v) else s.vol w := by
  rcases eq_or_ne v w with rfl | h
  · simp [State.vol]
  · have h' : v.val ≠ w.val := fun e => h (Fin.ext e)
    simp [State.vol, h, h']

/-- Replacing one credential slot leaves the others. -/
theorem State.setSlot_cslot (i j : CSlot) (c : CredSlot) :
    (s.setSlot i c).cslot j = if i = j then c else s.cslot j := by
  rcases eq_or_ne i j with rfl | h
  · simp [State.cslot]
  · have h' : i.val ≠ j.val := fun e => h (Fin.ext e)
    simp [State.cslot, h, h']

end Sys2Proof.Machine
end

