-- ==== Sys2Proof/Laws/Frames.lean ====
section
/-! SUPPORT. What each shared operation can change, once: one `…_sameBut` lemma for each, over the parts of `Part`. -/

namespace Sys2Proof.Machine

-- One theorem at a time: side by side they ask for more threads than the check's memory limit allows.
set_option Elab.async false

variable {s t u : State} {ps qs : List Part}

/-! ### Frames compose -/

/-- Agreement on a part is transitive. -/
theorem State.agree_trans {p : Part} (h : s.agree t p) (k : t.agree u p) : s.agree u p := by
  cases p <;> simp only [State.agree] at h k ⊢ <;> simp_all

/-- A state agrees with itself on every part. -/
theorem State.agree_refl (p : Part) : s.agree s p := by cases p <;> simp [State.agree]

/-- Nothing changes in a state that stays. -/
theorem State.sameBut_refl : s.sameBut ps s := fun p => .inr (State.agree_refl p)

/-- Two changes one after the other. -/
theorem State.sameBut_trans (h : s.sameBut ps t) (k : t.sameBut ps u) : s.sameBut ps u := fun p => by
  rcases h p with h | h
  · exact .inl h
  · exact (k p).imp id (State.agree_trans h)

/-- A frame may be widened. -/
theorem State.sameBut_mono (h : s.sameBut ps t) (w : (ps.all fun p => qs.contains p) = true := by decide) :
    s.sameBut qs t := fun p => by
  rcases h p with h | h
  · exact .inl (by simpa using List.all_eq_true.mp w p h)
  · exact .inr h

/-- Two changes one after the other, each within the frame. -/
theorem State.sameBut_then {rs : List Part} (h : s.sameBut ps t) (k : t.sameBut qs u)
    (w : (ps.all fun p => rs.contains p) = true := by decide) (w' : (qs.all fun p => rs.contains p) = true := by decide) :
    s.sameBut rs u := State.sameBut_trans (State.sameBut_mono h w) (State.sameBut_mono k w')

/-- A part outside the frame is as it was. -/
theorem State.sameBut_agree (h : s.sameBut ps t) (p : Part) (w : ps.contains p = false := by decide) : s.agree t p := by
  rcases h p with h | h
  · simp_all
  · exact h

/-- A chain of changes, each within the frame. -/
theorem foldl_sameBut {α : Type} {f : State → α → State} (h : ∀ (t : State) (x : α), t.sameBut ps (f t x)) (l : List α) :
    s.sameBut ps (l.foldl f s) := by
  induction l generalizing s with
  | nil => exact State.sameBut_refl
  | cons x l ih => exact State.sameBut_trans (h s x) ih

/-! ### Updates of one block -/

/-- `modGuard` changes its block alone. -/
theorem State.modGuard_sameBut (g : Guard → Guard) : s.sameBut [.volumes, .guardInbox, .guardFlags] (s.modGuard g) := by
  intro p; cases p <;> first | exact .inl (by decide) | exact .inr (by repeat' constructor)

/-- `modCred` changes its block alone. -/
theorem State.modCred_sameBut (g : Credential → Credential) :
    s.sameBut [.slots, .window, .credWork, .deriv, .credInbox, .credRest] (s.modCred g) := by
  intro p; cases p <;> first | exact .inl (by decide) | exact .inr (by repeat' constructor)

/-- `modLockout` changes its block alone. -/
theorem State.modLockout_sameBut (g : Lockout → Lockout) : s.sameBut [.domains, .lockoutRest] (s.modLockout g) := by
  intro p; cases p <;> first | exact .inl (by decide) | exact .inr (by repeat' constructor)

/-- `modKeypad` changes its block alone. -/
theorem State.modKeypad_sameBut (g : Keypad → Keypad) :
    s.sameBut [.keyQueue, .keyOrder, .scanner, .indicator, .assembler, .keypadInbox] (s.modKeypad g) := by
  intro p; cases p <;> first | exact .inl (by decide) | exact .inr (by repeat' constructor)

/-- `modSector` changes its block alone. -/
theorem State.modSector_sameBut (g : SectorPath → SectorPath) : s.sameBut [.sector] (s.modSector g) := by
  intro p; cases p <;> first | exact .inl (by decide) | exact .inr (by repeat' constructor)

/-- `modLink` changes its block alone. -/
theorem State.modLink_sameBut (g : Link → Link) : s.sameBut [.link] (s.modLink g) := by
  intro p; cases p <;> first | exact .inl (by decide) | exact .inr (by repeat' constructor)

/-- `modErase` changes its block alone. -/
theorem State.modErase_sameBut (g : Erase → Erase) :
    s.sameBut [.eraseList, .eraseInbox, .eraseRest] (s.modErase g) := by
  intro p; cases p <;> first | exact .inl (by decide) | exact .inr (by repeat' constructor)

/-- `modTemp` changes its block alone. -/
theorem State.modTemp_sameBut (g : Temperature → Temperature) : s.sameBut [.temp] (s.modTemp g) := by
  intro p; cases p <;> first | exact .inl (by decide) | exact .inr (by repeat' constructor)

/-- `modSupply` changes its block alone. -/
theorem State.modSupply_sameBut (g : Supply → Supply) : s.sameBut [.supply] (s.modSupply g) := by
  intro p; cases p <;> first | exact .inl (by decide) | exact .inr (by repeat' constructor)

/-- `modStore` changes its block alone. -/
theorem State.modStore_sameBut (g : Store → Store) : s.sameBut [.array, .commits, .storeRest] (s.modStore g) := by
  intro p; cases p <;> first | exact .inl (by decide) | exact .inr (by repeat' constructor)

/-- `modExch` changes its block alone. -/
theorem State.modExch_sameBut (g : Exchange → Exchange) :
    s.sameBut [.mem, .attn, .queues, .scanRegs] (s.modExch g) := by
  intro p; cases p <;> first | exact .inl (by decide) | exact .inr (by repeat' constructor)

/-- `modStartUp` changes its block alone. -/
theorem State.modStartUp_sameBut (g : StartUp → StartUp) : s.sameBut [.startUp] (s.modStartUp g) := by
  intro p; cases p <;> first | exact .inl (by decide) | exact .inr (by repeat' constructor)

/-- `modSignals` changes its block alone. -/
theorem State.modSignals_sameBut (g : Signals → Signals) : s.sameBut [.signals] (s.modSignals g) := by
  intro p; cases p <;> first | exact .inl (by decide) | exact .inr (by repeat' constructor)

/-! ### Small updates -/

/-- Changing a volume changes the volumes alone. -/
theorem State.modVol_sameBut (v : Vol) (g : Volume → Volume) : s.sameBut [.volumes] (s.modVol v g) := by
  intro p; cases p <;> first | exact .inl (by decide) | exact .inr (by repeat' constructor)

/-- Replacing a slot changes the slots alone. -/
theorem State.setSlot_sameBut (i : CSlot) (c : CredSlot) : s.sameBut [.slots] (s.setSlot i c) := by
  intro p; cases p <;> first | exact .inl (by decide) | exact .inr (by repeat' constructor)

/-- A cause sets its flag alone. -/
theorem State.attend_sameBut (a : Attn) : s.sameBut [.attn] (s.attend a) := by
  intro p; cases p <;> first | exact .inl (by decide) | exact .inr (by repeat' constructor)

/-- A pattern starts at the indicators. -/
theorem State.startPattern_sameBut : s.sameBut [.indicator] (s.startPattern) := by
  intro p; cases p <;> first | exact .inl (by decide) | exact .inr (by repeat' constructor)

/-- An owner byte is a byte of the memory. -/
theorem State.setOwner_sameBut (n : RSlot) (b : Byte) : s.sameBut [.mem] (s.setOwner n b) := by
  intro p; cases p <;> first | exact .inl (by decide) | exact .inr (by repeat' constructor)

/-- A claim writes the owner and the held set. -/
theorem State.claim_sameBut (n : RSlot) : s.sameBut [.mem, .queues] (s.claim n) := by
  intro p; cases p <;> first | exact .inl (by decide) | exact .inr (by repeat' constructor)

/-- A finished slot is written, leaves the held set and sets DONE. -/
theorem State.finishSlot_sameBut (n : RSlot) (st : Status) (c d : Nat) (l : List Byte) :
    s.sameBut [.mem, .queues, .attn] (s.finishSlot n st c d l) := by
  intro p; cases p <;> first | exact .inl (by decide) | exact .inr (by repeat' constructor)

/-- What holds the guard. -/
theorem State.guardWaits_sameBut (w : GuardWait) : s.sameBut [.guardInbox] (s.guardWaits w) := by
  intro p; cases p <;> first | exact .inl (by decide) | exact .inr (by repeat' constructor)

/-- An order leaves the guard's inbox. -/
theorem State.popGuard_sameBut : s.sameBut [.guardInbox] (s.popGuard) := by
  intro p; cases p <;> first | exact .inl (by decide) | exact .inr (by repeat' constructor)

/-- An order reaches the guard's inbox. -/
theorem State.tellGuard_sameBut (o : GuardOrder) : s.sameBut [.guardInbox] (s.tellGuard o) := by
  intro p; cases p <;> first | exact .inl (by decide) | exact .inr (by repeat' constructor)

/-- An event reaches the credential unit's inbox. -/
theorem State.tellCred_sameBut (e : CredEvent) : s.sameBut [.credInbox] (s.tellCred e) := by
  intro p; cases p <;> first | exact .inl (by decide) | exact .inr (by repeat' constructor)

/-- An event leaves the credential unit's inbox. -/
theorem State.popCred_sameBut : s.sameBut [.credInbox] (s.popCred) := by
  intro p; cases p <;> first | exact .inl (by decide) | exact .inr (by repeat' constructor)

/-- What holds the credential unit. -/
theorem State.credWaits_sameBut (w : CredWait) : s.sameBut [.credRest] (s.credWaits w) := by
  intro p; cases p <;> first | exact .inl (by decide) | exact .inr (by repeat' constructor)

/-- An order reaches the keypad unit's inbox. -/
theorem State.tellKeypad_sameBut (o : KeyOrder) : s.sameBut [.keypadInbox, .keyOrder] (s.tellKeypad o) := by
  intro p; cases p <;> first | exact .inl (by decide) | exact .inr (by repeat' constructor)

/-- An event reaches the engine's inbox. -/
theorem State.tellEngine_sameBut (e : EngineEvent) : s.sameBut [.eraseInbox] (s.tellEngine e) := by
  intro p; cases p <;> first | exact .inl (by decide) | exact .inr (by repeat' constructor)

/-- An event leaves the engine's inbox. -/
theorem State.popEngine_sameBut : s.sameBut [.eraseInbox] (s.popEngine) := by
  intro p; cases p <;> first | exact .inl (by decide) | exact .inr (by repeat' constructor)

/-- What holds the engine. -/
theorem State.setJob_sameBut (j : Job) : s.sameBut [.eraseRest] (s.setJob j) := by
  intro p; cases p <;> first | exact .inl (by decide) | exact .inr (by repeat' constructor)

/-- Changing an entry changes the list alone. -/
theorem State.modEntry_sameBut (v : Vol) (g : EraseEntry → EraseEntry) : s.sameBut [.eraseList] (s.modEntry v g) := by
  intro p; cases p <;> first | exact .inl (by decide) | exact .inr (by repeat' constructor)

/-- An event reaches the lockout unit's inbox. -/
theorem State.tellLockout_sameBut (e : LockEvent) : s.sameBut [.lockoutRest] (s.tellLockout e) := by
  intro p; cases p <;> first | exact .inl (by decide) | exact .inr (by repeat' constructor)

/-- An event leaves the lockout unit's inbox. -/
theorem State.popLockout_sameBut : s.sameBut [.lockoutRest] (s.popLockout) := by
  intro p; cases p <;> first | exact .inl (by decide) | exact .inr (by repeat' constructor)

/-- What holds the lockout unit. -/
theorem State.lockoutWaits_sameBut (w : LockWait) : s.sameBut [.lockoutRest] (s.lockoutWaits w) := by
  intro p; cases p <;> first | exact .inl (by decide) | exact .inr (by repeat' constructor)

/-- A derivation starts. -/
theorem State.startDerivation_sameBut (l : List Digit) (h : Half) (w : BitVec 2) :
    s.sameBut [.deriv] (s.startDerivation l h w) := by
  intro p; cases p <;> first | exact .inl (by decide) | exact .inr (by repeat' constructor)

/-- A verification ends with its derivation. -/
theorem State.endVerify_sameBut : s.sameBut [.credWork, .deriv, .credInbox] (s.endVerify) := by
  intro p; cases p <;> first | exact .inl (by decide) | exact .inr (by repeat' constructor)

/-- The entry buffer is cleared. -/
theorem State.clearEntry_sameBut : s.sameBut [.assembler] (s.clearEntry) := by
  intro p; cases p <;> first | exact .inl (by decide) | exact .inr (by repeat' constructor)

/-- The assembler returns to IDLE. -/
theorem State.asmIdle_sameBut : s.sameBut [.assembler] (s.asmIdle) := by
  intro p; cases p <;> first | exact .inl (by decide) | exact .inr (by repeat' constructor)

/-- The assembler enters a state. -/
theorem State.asmTo_sameBut (a : Assembler) (m : Option Nat) : s.sameBut [.assembler] (s.asmTo a m) := by
  intro p; cases p <;> first | exact .inl (by decide) | exact .inr (by repeat' constructor)

/-- A timeout is set. -/
theorem State.reloadTimeout_sameBut (m : Nat) : s.sameBut [.assembler] (s.reloadTimeout m) := by
  intro p; cases p <;> first | exact .inl (by decide) | exact .inr (by repeat' constructor)

/-- A digit is appended. -/
theorem State.appendDigit_sameBut (d : Digit) (m : Nat) : s.sameBut [.assembler] (s.appendDigit d m) := by
  intro p; cases p <;> first | exact .inl (by decide) | exact .inr (by repeat' constructor)

/-- The settings are sampled. -/
theorem State.sampleKeypad_sameBut : s.sameBut [.assembler] (s.sampleKeypad) := by
  intro p; cases p <;> first | exact .inl (by decide) | exact .inr (by repeat' constructor)

/-- An event leaves the key queue. -/
theorem State.popKey_sameBut : s.sameBut [.keyQueue, .keyOrder] (s.popKey) := by
  intro p; cases p <;> first | exact .inl (by decide) | exact .inr (by repeat' constructor)

/-- Start-up goes on. -/
theorem State.toStep_sameBut (n : Nat) : s.sameBut [.startUp] (s.toStep n) := by
  intro p; cases p <;> first | exact .inl (by decide) | exact .inr (by repeat' constructor)

/-- An idle timer is reloaded. -/
theorem State.reloadIdle_sameBut (v : Vol) : s.sameBut [.volumes] (s.reloadIdle v) := by
  intro p; cases p <;> first | exact .inl (by decide) | exact .inr (by repeat' constructor)

/-- A revocation marks the slot that is being tried. -/
theorem State.markRevoked_sameBut (i : CSlot) : s.sameBut [.credWork] (s.markRevoked i) := by
  intro p; cases p <;> first | exact .inl (by decide) | exact .inr (by repeat' constructor)

/-- A slot is emptied. -/
theorem State.emptySlot_sameBut (i : CSlot) : s.sameBut [.slots, .credWork] (s.emptySlot i) := by
  intro p; cases p <;> first | exact .inl (by decide) | exact .inr (by repeat' constructor)

/-! ### The page, the signals and the store -/

/-- The part that a section of the page is. -/
def Section.part : Section → Part
  | .device => .pageDevice
  | .volumes => .pageVolumes
  | .domains => .pageDomains
  | .window => .pageWindow
  | .erase => .pageErase
  | .link => .pageLink
  | .temperature => .pageTemperature
  | .keypad => .pageKeypad

/-- A rewrite changes its section alone. -/
theorem State.refresh_sameBut (x : Section) : s.sameBut [x.part] (s.refresh x) := by
  unfold State.refresh
  split_ifs
  · exact State.sameBut_refl
  · intro p
    cases x <;> cases p <;> first | exact .inl (by decide) | exact .inr (by repeat' constructor)

/-- A rewrite of entries of the domains section changes that section alone. -/
theorem State.refreshEntries_sameBut (on : Domain → Bool) : s.sameBut [.pageDomains] (s.refreshEntries on) := by
  unfold State.refreshEntries
  split_ifs
  · exact State.sameBut_refl
  · intro p; cases p <;> first | exact .inl (by decide) | exact .inr (by repeat' constructor)

/-- What a rewrite of entries does to the section. -/
theorem State.refreshEntries_rewritten (on : Domain → Bool) : s.entriesRewritten (s.refreshEntries on) on := by
  unfold State.refreshEntries
  split_ifs with h
  · exact (if_pos h).symm
  · exact (if_neg h).symm

/-- The pattern shown and the keypad section. -/
theorem State.settle_sameBut : s.sameBut [.indicator, .pageKeypad] (s.settle) := by
  unfold State.settle
  split_ifs
  · exact State.sameBut_mono (State.refresh_sameBut .keypad)
  · refine State.sameBut_then (State.sameBut_trans (ps := [.indicator]) ?_ State.startPattern_sameBut)
      (State.refresh_sameBut .keypad)
    intro p; cases p <;> first | exact .inl (by decide) | exact .inr (by repeat' constructor)
  · exact State.sameBut_refl

/-- The guard's report. -/
theorem State.reportVolumes_sameBut : s.sameBut [.attn, .pageVolumes] (s.reportVolumes) := by
  unfold State.reportVolumes
  split_ifs
  · exact State.sameBut_refl
  · exact State.sameBut_refl
  · exact State.sameBut_then (State.attend_sameBut .volume) (State.refresh_sameBut .volumes)

/-- A signal handed stands among the signals, or in the inbox of its block. -/
theorem State.hand_sameBut (x : Signal) (b : Block) : s.sameBut handing (s.hand x b) := by
  cases b <;> (intro p; cases p <;> first | exact .inl (by decide) | exact .inr (by repeat' constructor))

/-- A signal is handed to every block. -/
theorem State.handAll_sameBut (x : Signal) : s.sameBut handing (s.handAll x) := by
  exact foldl_sameBut (fun t b => t.hand_sameBut x b) allBlocks

/-- A signal taken away leaves all else as it was. -/
theorem State.dropSignal_sameBut (x : Signal) (b : Block) : s.sameBut handing (s.dropSignal x b) := by
  cases b <;> (intro p; cases p <;> first | exact .inl (by decide) | exact .inr (by repeat' constructor))

/-- A signal taken leaves the rest as it was. -/
theorem State.takeSignal_sameBut {b : Block} {x : Signal} (h : s.takeSignal b x = some t) : s.sameBut handing t := by
  unfold State.takeSignal at h
  split_ifs at h
  cases h
  exact State.dropSignal_sameBut x b

/-- A temperature signal goes to the engine and the guard. -/
theorem State.handTemp_sameBut (x : Signal) (c : TempCond) : s.sameBut [.guardInbox, .eraseInbox] (s.handTemp x c) := by
  unfold State.handTemp
  split_ifs
  · exact State.sameBut_then (State.tellEngine_sameBut _) (State.tellGuard_sameBut _)
  · exact State.sameBut_mono (State.tellEngine_sameBut _)

/-- A temperature sample. -/
theorem State.sample_sameBut (x : Int) :
    s.sameBut [.temp, .attn, .guardInbox, .eraseInbox, .pageTemperature] (s.sample x) := by
  unfold State.sample
  refine State.sameBut_then (ps := [.temp, .attn, .guardInbox, .eraseInbox]) ?_ (State.refresh_sameBut .temperature)
  split
  · exact State.sameBut_mono (State.modTemp_sameBut _)
  · exact State.sameBut_then (State.modTemp_sameBut _)
      (State.sameBut_then (rs := [.attn, .guardInbox, .eraseInbox]) (State.attend_sameBut _) (State.handTemp_sameBut _ _))

/-- A commit begins. -/
theorem State.beginCommit_sameBut : s.sameBut [.commits, .storeRest] (s.beginCommit) := by
  unfold State.beginCommit
  split
  · intro p; cases p <;> first | exact .inl (by decide) | exact .inr (by repeat' constructor)
  · exact State.sameBut_refl

/-- A record is queued. -/
theorem State.queueRec_sameBut (r : Rec) (ws : List Waiter) : s.sameBut [.commits, .storeRest] (s.queueRec r ws) := by
  have h (g : Store → List Queued) (k : Store → List Queued) :
      s.sameBut [.commits, .storeRest] (s.modStore fun x => { x with queue := g x, room := k x }) := by
    intro p; cases p <;> first | exact .inl (by decide) | exact .inr (by repeat' constructor)
  unfold State.queueRec
  split_ifs
  · exact h (fun x => replaceIn r ws x.queue) (fun x => x.room)
  · exact h (fun x => x.queue) (fun x => replaceIn r ws x.room)
  · exact State.sameBut_trans (h (fun x => x.queue ++ [⟨r, ws⟩]) (fun x => x.room)) State.beginCommit_sameBut
  · exact h (fun x => x.queue) (fun x => x.room ++ [⟨r, ws⟩])
  · exact State.sameBut_refl

/-- The entry to HALTED. -/
theorem State.enterHalted_sameBut : s.sameBut (.device :: handing) (s.enterHalted) := by
  unfold State.enterHalted
  split_ifs
  · exact State.sameBut_refl
  · refine State.sameBut_then (State.handAll_sameBut .halt) (qs := [.device]) ?_
    generalize s.handAll .halt = t
    intro p; cases p <;> first | exact .inl (by decide) | exact .inr (by repeat' constructor)

/-! ### Requests -/

/-- The next control request goes to its block. -/
theorem State.dispatch_sameBut :
    s.sameBut [.queues, .guardInbox, .credInbox, .eraseInbox, .storeRest] (s.dispatch) := by
  unfold State.dispatch
  split
  · exact State.sameBut_refl
  · split_ifs
    · exact State.sameBut_refl
    · split <;> (intro p; cases p <;> first | exact .inl (by decide) | exact .inr (by repeat' constructor))

/-- A follower moves to its queue. -/
theorem State.promote_sameBut (q : QueueId) : s.sameBut [.queues] (s.promote q) := by
  unfold State.promote
  split_ifs
  · split
    · cases q <;> (intro p; cases p <;> first | exact .inl (by decide) | exact .inr (by repeat' constructor))
    · exact State.sameBut_refl
  · exact State.sameBut_refl

/-- A request is taken. -/
theorem State.takeInto_sameBut (n : RSlot) (k : Kind) : s.sameBut completing (s.takeInto n k) := by
  unfold State.takeInto
  extract_lets -lift r t
  split_ifs
  · refine State.sameBut_then (State.claim_sameBut n) (State.sameBut_then (ps := [.queues]) (rs := completing) ?_
      State.dispatch_sameBut)
    generalize k.queue = q
    cases q <;> (intro p; cases p <;> first | exact .inl (by decide) | exact .inr (by repeat' constructor))
  · refine State.sameBut_then (State.claim_sameBut n) (qs := [.queues]) ?_
    intro p; cases p <;> first | exact .inl (by decide) | exact .inr (by repeat' constructor)

/-- A chain that is settled. -/
theorem State.settleChain_sameBut (fuel : Nat) (n : RSlot) (off : Int) (st : Status) (s : State) :
    s.sameBut completing (State.settleChain fuel n off st s).1 := by
  induction fuel generalizing n off st s with
  | zero => exact State.sameBut_refl
  | succ fuel ih =>
    unfold State.settleChain
    split_ifs
    · exact State.sameBut_refl
    · split
      · exact State.sameBut_refl
      · split_ifs
        · split
          · exact State.sameBut_then (State.claim_sameBut _)
              (State.sameBut_then (rs := completing) (ih _ _ _ _) (State.finishSlot_sameBut _ _ _ _ _))
          · exact State.takeInto_sameBut _ _
        · exact State.sameBut_then (State.setOwner_sameBut _ _)
            (State.sameBut_then (rs := completing) (ih _ _ _ _) (State.finishSlot_sameBut _ _ _ _ _))
        · exact State.sameBut_refl

/-- A slot that stands in no queue is completed. -/
theorem State.finishNow_sameBut (n : RSlot) (off : Int) (st : Status) :
    s.sameBut completing (s.finishNow n off st) := by
  exact State.sameBut_then (State.settleChain_sameBut _ _ _ _ _) (State.finishSlot_sameBut _ _ _ _ _)

/-- A completion. -/
theorem State.complete_sameBut (r : Request) (st : Status) (d : Nat) (l : List Byte) :
    s.sameBut completing (s.complete r st d l) := by
  unfold State.complete
  extract_lets -lift c t u
  have ht : s.sameBut completing t :=
    State.sameBut_then (State.settleChain_sameBut _ _ _ _ _) (State.finishSlot_sameBut _ _ _ _ _)
  refine State.sameBut_trans ht (State.sameBut_then (t := u) (ps := [.queues]) (qs := completing) ?_
    (State.sameBut_then (State.sameBut_then (rs := completing) (State.sameBut_then (rs := completing)
      (State.promote_sameBut _) (State.promote_sameBut _)) (State.promote_sameBut _)) State.dispatch_sameBut))
  intro p; cases p <;> first | exact .inl (by decide) | exact .inr (by repeat' constructor)

/-- One slot of a scan. -/
theorem State.scanSlot_sameBut (n : RSlot) : s.sameBut completing (s.scanSlot n) := by
  have h (t : State) : t.sameBut completing (t.modExch fun x => { x with takePtr := n }) := by
    intro p; cases p <;> first | exact .inl (by decide) | exact .inr (by repeat' constructor)
  unfold State.scanSlot
  split_ifs
  · split
    · exact State.sameBut_then (State.claim_sameBut n)
        (State.sameBut_then (rs := completing) (h _) (State.finishNow_sameBut _ _ _))
    · split_ifs
      · exact State.sameBut_trans (State.takeInto_sameBut _ _) (h _)
      · exact State.sameBut_refl
  · exact State.sameBut_refl

/-- A scan. -/
theorem State.scan_sameBut : s.sameBut completing (s.scan) := by
  exact foldl_sameBut (fun t n => t.scanSlot_sameBut n) _

/-- The pending scan. -/
theorem State.pendingScan_sameBut : s.sameBut (.scanRegs :: completing) (s.pendingScan) := by
  unfold State.pendingScan
  split_ifs
  · refine State.sameBut_then (ps := [.scanRegs]) ?_ State.scan_sameBut
    intro p; cases p <;> first | exact .inl (by decide) | exact .inr (by repeat' constructor)
  · exact State.sameBut_refl

/-- A scan request. -/
theorem State.scanRequest_sameBut : s.sameBut (.scanRegs :: completing) (s.scanRequest) := by
  unfold State.scanRequest
  split_ifs
  · intro p; cases p <;> first | exact .inl (by decide) | exact .inr (by repeat' constructor)
  · exact State.sameBut_mono State.scan_sameBut

/-- The end of a sector request reloads a timer. -/
theorem State.reloadFor_sameBut (r : Request) : s.sameBut [.volumes] (s.reloadFor r) := by
  unfold State.reloadFor
  split_ifs
  · split
    · exact State.reloadIdle_sameBut _
    · exact State.sameBut_refl
  · exact State.sameBut_refl

/-- Waiting requests are completed. -/
theorem State.endWaiting_sameBut (st : Status) (a b : Bool) :
    s.sameBut (.volumes :: completing) (s.endWaiting st a b) := by
  refine State.sameBut_then (ps := completing) (qs := .volumes :: completing) ?_
    (foldl_sameBut (fun t r => State.sameBut_then (t.complete_sameBut r st 0 []) (State.reloadFor_sameBut r)) _)
  intro p; cases p <;> first | exact .inl (by decide) | exact .inr (by repeat' constructor)

/-! ### The link and the sector path -/

/-- A grant. -/
theorem State.grant_sameBut (q : Requester) : s.sameBut granting (s.grant q) := by
  unfold State.grant
  extract_lets t u
  have h : s.sameBut granting u := State.sameBut_then (State.modLink_sameBut _) (State.refresh_sameBut .link)
  split_ifs
  · exact State.sameBut_trans h (State.sameBut_mono (State.tellEngine_sameBut _))
  · exact h

/-- A grant leaves the engine's events. -/
theorem State.dropGrant_sameBut : s.sameBut [.eraseInbox] (s.dropGrant) := by
  intro p; cases p <;> first | exact .inl (by decide) | exact .inr (by repeat' constructor)

/-- A command boundary. -/
theorem State.boundary_sameBut : s.sameBut granting (s.boundary) := by
  unfold State.boundary
  split_ifs
  · exact State.sameBut_then (State.modLink_sameBut _) (State.grant_sameBut _)
  · exact State.grant_sameBut _
  · exact State.grant_sameBut _
  · exact State.sameBut_refl
  · exact State.sameBut_refl

/-- The link returns to READY. -/
theorem State.linkReady_sameBut : s.sameBut [.link, .pageLink] (s.linkReady) := by
  exact State.sameBut_then (State.modLink_sameBut _) (State.refresh_sameBut .link)

/-- A grant is handed back. -/
theorem State.handBack_sameBut (q : Requester) : s.sameBut granting (s.handBack q) := by
  unfold State.handBack
  split_ifs
  · exact State.sameBut_then State.dropGrant_sameBut
      (State.sameBut_then (rs := granting) State.linkReady_sameBut State.boundary_sameBut)
  · exact State.sameBut_then State.linkReady_sameBut State.boundary_sameBut
  · exact State.sameBut_refl

/-- The sector path's withdrawal. -/
theorem State.withdrawSector_sameBut : s.sameBut granting (s.withdrawSector) := by
  exact State.sameBut_then (State.modLink_sameBut _) (State.handBack_sameBut _)

/-- The engine's withdrawal. -/
theorem State.withdrawEngine_sameBut : s.sameBut granting (s.withdrawEngine) := by
  unfold State.withdrawEngine
  split_ifs
  · exact State.sameBut_then (State.modLink_sameBut _) (State.handBack_sameBut _)
  · exact State.sameBut_refl

/-- A sector request ends. -/
theorem State.endSector_sameBut (st : Status) : s.sameBut sectorEnding (s.endSector st) := by
  unfold State.endSector
  split
  · exact State.sameBut_refl
  · extract_lets -lift p s0 s1 s2 s3 s4
    have a (t : State) (g : Guard → List GuardOrder) :
        t.sameBut [.guardInbox] (t.modGuard fun x => { x with inbox := g x }) := by
      intro p; cases p <;> first | exact .inl (by decide) | exact .inr (by repeat' constructor)
    have b (t : State) (g : Exchange → List Host.Cell) :
        t.sameBut [.mem] (t.modExch fun x => { x with mem := g x }) := by
      intro p; cases p <;> first | exact .inl (by decide) | exact .inr (by repeat' constructor)
    have h1 : s.sameBut sectorEnding s1 := State.sameBut_then State.withdrawSector_sameBut (a s0 _)
    have h2 : s1.sameBut sectorEnding s2 := by
      unfold s2
      split_ifs
      · exact State.sameBut_mono (b _ _)
      · exact State.sameBut_refl
    have h4 : s2.sameBut sectorEnding s4 := State.sameBut_then (State.modSector_sameBut _) (State.complete_sameBut _ _ _ _)
    refine State.sameBut_trans (State.sameBut_trans (State.sameBut_trans h1 h2) h4) ?_
    split
    · exact State.sameBut_mono (State.reloadIdle_sameBut _)
    · exact State.sameBut_refl

/-- An order ends the active request. -/
theorem State.stopSector_sameBut (st : Status) : s.sameBut sectorEnding (s.stopSector st) := by
  unfold State.stopSector
  split
  · exact State.sameBut_refl
  · exact State.sameBut_refl
  · split_ifs
    · exact State.sameBut_refl
    · exact State.sameBut_then (State.modSector_sameBut _) (State.modLink_sameBut _)
  all_goals exact State.endSector_sameBut _

/-- A volume leaves OPEN or OPEN_RO. -/
theorem State.volumeLeft_sameBut (v : Vol) : s.sameBut sectorEnding (s.volumeLeft v) := by
  unfold State.volumeLeft
  split_ifs
  · exact State.stopSector_sameBut _
  · exact State.sameBut_refl

/-- The sector path asks for the link. -/
theorem State.askSector_sameBut : s.sameBut sectorEnding (s.askSector) := by
  unfold State.askSector
  split_ifs
  · exact State.endSector_sameBut _
  · exact State.endSector_sameBut _
  · exact State.sameBut_then (State.sameBut_then (rs := [.sector, .link]) (State.modSector_sameBut _)
      (State.modLink_sameBut _)) State.boundary_sameBut

/-- A sector is done. -/
theorem State.advanceSector_sameBut : s.sameBut sectorEnding (s.advanceSector) := by
  unfold State.advanceSector
  extract_lets -lift t
  refine State.sameBut_then (t := t) (State.modSector_sameBut _) (qs := sectorEnding) ?_
  split_ifs
  · exact State.sameBut_then (State.endSector_sameBut _) State.boundary_sameBut
  · exact State.askSector_sameBut

/-- The sector path applies a reply. -/
theorem State.sectorReply_sameBut (r : Reply) : s.sameBut sectorEnding (s.sectorReply r) := by
  have b (t : State) (g : Exchange → List Host.Cell) : t.sameBut [.mem] (t.modExch fun x => { x with mem := g x }) := by
    intro p; cases p <;> first | exact .inl (by decide) | exact .inr (by repeat' constructor)
  unfold State.sectorReply
  extract_lets -lift t
  refine State.sameBut_then (t := t) (State.modLink_sameBut _) (qs := sectorEnding) ?_
  split
  · refine State.sameBut_then (ps := [.sector]) ?_
      (State.sameBut_then (rs := sectorEnding) (State.endSector_sameBut _) State.boundary_sameBut)
    change t.sameBut [.sector] (if _ then _ else t)
    split_ifs
    · exact State.modSector_sameBut _
    · exact State.sameBut_refl
  · split
    · exact State.sameBut_then (State.modSector_sameBut _)
        (State.sameBut_then (rs := sectorEnding) (State.endSector_sameBut _) State.boundary_sameBut)
    · split_ifs
      · exact State.sameBut_then (b _ _) State.advanceSector_sameBut
      · exact State.sameBut_then (State.endSector_sameBut _) State.boundary_sameBut
    · exact State.sameBut_mono State.boundary_sameBut
    · exact State.advanceSector_sameBut
    · exact State.sameBut_mono State.boundary_sameBut

/-- A command is issued. -/
theorem State.issue_sameBut (f : InFlight) : s.sameBut [.link, .pageLink] (s.issue f) := by
  exact State.sameBut_then (State.modLink_sameBut _) (State.refresh_sameBut .link)

/-- A reply goes to the engine. -/
theorem State.stripeReplied_sameBut (o : StripeOutcome) :
    s.sameBut granting (s.stripeReplied o) := by
  unfold State.stripeReplied
  extract_lets -lift t
  split_ifs
  · exact State.sameBut_mono (State.tellEngine_sameBut _)
  · exact State.sameBut_then (State.tellEngine_sameBut _) State.boundary_sameBut

end Sys2Proof.Machine
end

