-- ==== Sys2Proof/Laws/Memory.lean ====
section
/-! SUPPORT. The laws of the exchange memory: every write keeps its canonical form, a byte written reads back, and every
other byte reads as before. -/

namespace Sys2Proof.Machine

-- One theorem at a time: side by side they ask for more threads than the check's memory limit allows.
set_option Elab.async false

/-- A canonical list from a higher address is canonical from a lower one. -/
theorem Memory.wfFrom_mono {lo hi : Nat} (h : lo ≤ hi) {m : List Host.Cell} (w : Memory.wfFrom hi m = true) :
    Memory.wfFrom lo m = true := by
  cases m with
  | nil => rfl
  | cons c t =>
    obtain ⟨k, v⟩ := c
    simp only [Memory.wfFrom, Bool.and_eq_true, decide_eq_true_eq] at w ⊢
    exact ⟨⟨le_trans h w.1.1, w.1.2⟩, w.2⟩

/-- Writing a byte keeps the canonical form. -/
theorem Memory.writeByte_wfFrom {m : List Host.Cell} {lo a : Nat} {b : Byte} (h : Memory.wfFrom lo m = true) (ha : lo ≤ a) :
    Memory.wfFrom lo (writeByte m a b) = true := by
  induction m generalizing lo with
  | nil =>
    unfold writeByte
    split_ifs with hb
    · rfl
    · simp_all [Memory.wfFrom]
  | cons c t ih =>
    obtain ⟨k, v⟩ := c
    simp only [Memory.wfFrom, Bool.and_eq_true, decide_eq_true_eq] at h
    obtain ⟨⟨hk, hv⟩, ht⟩ := h
    unfold writeByte
    split_ifs with h1 h2 h3 h4
    · simp_all [Memory.wfFrom]
    · simp_all [Memory.wfFrom]
    · exact Memory.wfFrom_mono (Nat.le_succ_of_le hk) ht
    · subst h3; simp_all [Memory.wfFrom]
    · simp only [Memory.wfFrom, Bool.and_eq_true, decide_eq_true_eq]
      exact ⟨⟨hk, hv⟩, ih ht (by omega)⟩

/-- Writing a byte keeps the memory canonical. -/
theorem Memory.writeByte_wf {m : List Host.Cell} {a : Nat} {b : Byte} (h : Memory.wf m = true) :
    Memory.wf (writeByte m a b) = true := Memory.writeByte_wfFrom h (Nat.zero_le a)

/-- Writing bytes keeps the memory canonical. -/
theorem Memory.writeBytes_wf {m : List Host.Cell} {a : Nat} {bs : List Byte} (h : Memory.wf m = true) :
    Memory.wf (writeBytes m a bs) = true := by
  induction bs generalizing m a with
  | nil => exact h
  | cons b t ih => exact ih (Memory.writeByte_wf h)

/-- Zeroing the buffers of a request keeps the memory canonical. -/
theorem Memory.zeroBuffers_wf {m : List Host.Cell} {first n : Nat} (h : Memory.wf m = true) :
    Memory.wf (zeroBuffers first n m) = true := by
  induction n with
  | zero => exact h
  | succ n ih => exact Memory.writeBytes_wf ih

/-- The memory after reset is canonical. -/
theorem Memory.reset_wf : Memory.wf State.reset.exch.mem = true := rfl

/-- An address below a canonical list reads zero. -/
theorem readByte_below {m : List Host.Cell} {lo a : Nat} (h : Memory.wfFrom lo m = true) (ha : a < lo) :
    readByte m a = 0 := by
  induction m generalizing lo with
  | nil => rfl
  | cons c t ih =>
    obtain ⟨k, v⟩ := c
    simp only [Memory.wfFrom, Bool.and_eq_true, decide_eq_true_eq] at h
    have hk : k ≠ a := by omega
    simp only [readByte, hk, if_false]
    exact ih h.2 (by omega)

/-- A byte at the head of the cells. -/
theorem readByte_cons (k : Nat) (v : Byte) (t : List Host.Cell) (c : Nat) :
    readByte ((k, v) :: t) c = if k = c then v else readByte t c := rfl

/-- What a byte reads as after a write: the byte written there, the old byte elsewhere. -/
theorem readByte_writeByte {m : List Host.Cell} {lo a c : Nat} {b : Byte} (h : Memory.wfFrom lo m = true) :
    readByte (writeByte m a b) c = if c = a then b else readByte m c := by
  induction m generalizing lo with
  | nil =>
    rw [writeByte]
    split_ifs with hb hc hc
    · exact hb.symm
    · rfl
    · rw [readByte_cons, if_pos hc.symm]
    · rw [readByte_cons, if_neg (Ne.symm hc)]
  | cons d t ih =>
    obtain ⟨k, v⟩ := d
    simp only [Memory.wfFrom, Bool.and_eq_true, decide_eq_true_eq] at h
    have ht := h.2
    rw [writeByte]
    by_cases h1 : a < k
    · rw [if_pos h1]
      split_ifs with hb hc hc
      · rw [readByte_cons, if_neg (by omega), hb]
        exact readByte_below ht (by omega)
      · rfl
      · rw [readByte_cons, if_pos hc.symm]
      · rw [readByte_cons, if_neg (Ne.symm hc)]
    · rw [if_neg h1]
      by_cases h2 : a = k
      · rw [if_pos h2]
        split_ifs with hb hc hc
        · rw [hb]
          exact readByte_below ht (by omega)
        · rw [readByte_cons, if_neg (by omega)]
        · rw [readByte_cons, if_pos hc.symm]
        · rw [readByte_cons, if_neg (Ne.symm hc), readByte_cons, if_neg (by omega)]
      · rw [if_neg h2, readByte_cons, readByte_cons, ih ht]
        split_ifs <;> first | rfl | omega

/-- What a byte reads as after bytes are written from an address on. -/
theorem readByte_writeBytes {m : List Host.Cell} {a c : Nat} {bs : List Byte} (h : Memory.wf m = true) :
    readByte (writeBytes m a bs) c = if a ≤ c ∧ c < a + bs.length then bs.getD (c - a) 0 else readByte m c := by
  induction bs generalizing m a with
  | nil => simp [writeBytes]
  | cons b t ih =>
    rw [writeBytes, ih (Memory.writeByte_wf h), readByte_writeByte h]
    by_cases hc : c = a
    · subst hc; simp
    · by_cases hr : a + 1 ≤ c ∧ c < a + 1 + t.length
      · have h2 : a ≤ c ∧ c < a + (b :: t).length := by simp; omega
        rw [if_pos hr, if_pos h2]
        obtain ⟨k, rfl⟩ : ∃ k, c = a + 1 + k := ⟨c - (a + 1), by omega⟩
        simp [show a + 1 + k - a = k + 1 by omega]
      · have h2 : ¬(a ≤ c ∧ c < a + (b :: t).length) := by simp; omega
        rw [if_neg hr, if_neg h2, if_neg hc]

/-- The length of the bytes of a number. -/
@[simp] theorem leBytes_length (n x : Nat) : (leBytes n x).length = n := by
  induction n generalizing x with
  | zero => rfl
  | succ n ih => simp [leBytes, ih]

/-- The bytes of a number spell it again, as far as they reach (10_formats.md). -/
theorem ofLeBytes_leBytes (n x : Nat) : ofLeBytes (leBytes n x) = x % 256 ^ n := by
  induction n generalizing x with
  | zero => simp [leBytes, ofLeBytes, Nat.mod_one]
  | succ n ih =>
    simp only [leBytes, ofLeBytes, ih, BitVec.toNat_ofNat]
    rw [show (2 : Nat) ^ 8 = 256 from rfl, pow_succ, Nat.mul_comm (256 ^ n) 256, Nat.mod_mul]

end Sys2Proof.Machine
end

