-- ==== Sys2Proof/Laws/PerInstr.lean ====
section
/-! SUPPORT. What holds of each command as syntax, one lemma per constructor of `Instr`. -/

namespace Sys2Proof.Laws

-- One theorem at a time: side by side they ask for more threads than the check's memory limit allows.
set_option Elab.async false

/-! ### No word spells a command: spec/opcode_table.json gives no row any bits -/

/-- The decoder reads the command from no word. -/
def NoWord.Statement (i : Instr) : Prop := ∀ nbits w : Nat, decodeTableWord nbits w ≠ some i

/-- The decoder reads no command at all. -/
theorem decodeTableWord_none (nbits w : Nat) : decodeTableWord nbits w = none := rfl

theorem NoWord.resetAssert (cut : Cut) : NoWord.Statement (.resetAssert cut) := fun _ _ h => nomatch h
theorem NoWord.startUp (supplyGood : Bool) : NoWord.Statement (.startUp supplyGood) := fun _ _ h => nomatch h
theorem NoWord.powerLoss (cut : Cut) : NoWord.Statement (.powerLoss cut) := fun _ _ h => nomatch h
theorem NoWord.loadRecords : NoWord.Statement (.loadRecords) := fun _ _ h => nomatch h
theorem NoWord.orphanCheck : NoWord.Statement (.orphanCheck) := fun _ _ h => nomatch h
theorem NoWord.lockoutExamination : NoWord.Statement (.lockoutExamination) := fun _ _ h => nomatch h
theorem NoWord.startUpIdent : NoWord.Statement (.startUpIdent) := fun _ _ h => nomatch h
theorem NoWord.leaveStarting (sensor : Int) : NoWord.Statement (.leaveStarting sensor) := fun _ _ h => nomatch h
theorem NoWord.supplyWarning : NoWord.Statement (.supplyWarning) := fun _ _ h => nomatch h
theorem NoWord.supplyRise : NoWord.Statement (.supplyRise) := fun _ _ h => nomatch h
theorem NoWord.supplyRecovery : NoWord.Statement (.supplyRecovery) := fun _ _ h => nomatch h
theorem NoWord.warningTaken (b : Block) : NoWord.Statement (.warningTaken b) := fun _ _ h => nomatch h
theorem NoWord.recoveryTaken (b : Block) : NoWord.Statement (.recoveryTaken b) := fun _ _ h => nomatch h
theorem NoWord.haltOrder (b : Block) : NoWord.Statement (.haltOrder b) := fun _ _ h => nomatch h
theorem NoWord.portWordWrite (addr : BitVec 32) (value : Word) : NoWord.Statement (.portWordWrite addr value) := fun _ _ h => nomatch h
theorem NoWord.attnWrite (value : Word) : NoWord.Statement (.attnWrite value) := fun _ _ h => nomatch h
theorem NoWord.attnLvlWrite (value : Word) : NoWord.Statement (.attnLvlWrite value) := fun _ _ h => nomatch h
theorem NoWord.scanWrite (value : Word) : NoWord.Statement (.scanWrite value) := fun _ _ h => nomatch h
theorem NoWord.scanCfgWrite (value : Word) : NoWord.Statement (.scanCfgWrite value) := fun _ _ h => nomatch h
theorem NoWord.registerWriteOther (reg : BitVec 3) (value : Word) : NoWord.Statement (.registerWriteOther reg value) := fun _ _ h => nomatch h
theorem NoWord.scanTimerExpiry : NoWord.Statement (.scanTimerExpiry) := fun _ _ h => nomatch h
theorem NoWord.identify : NoWord.Statement (.identify) := fun _ _ h => nomatch h
theorem NoWord.setPolicy : NoWord.Statement (.setPolicy) := fun _ _ h => nomatch h
theorem NoWord.cancel : NoWord.Statement (.cancel) := fun _ _ h => nomatch h
theorem NoWord.readSectors : NoWord.Statement (.readSectors) := fun _ _ h => nomatch h
theorem NoWord.writeSectors : NoWord.Statement (.writeSectors) := fun _ _ h => nomatch h
theorem NoWord.lock : NoWord.Statement (.lock) := fun _ _ h => nomatch h
theorem NoWord.defineVolume : NoWord.Statement (.defineVolume) := fun _ _ h => nomatch h
theorem NoWord.deleteVolume : NoWord.Statement (.deleteVolume) := fun _ _ h => nomatch h
theorem NoWord.enroll : NoWord.Statement (.enroll) := fun _ _ h => nomatch h
theorem NoWord.revoke : NoWord.Statement (.revoke) := fun _ _ h => nomatch h
theorem NoWord.erase : NoWord.Statement (.erase) := fun _ _ h => nomatch h
theorem NoWord.pause : NoWord.Statement (.pause) := fun _ _ h => nomatch h
theorem NoWord.resume : NoWord.Statement (.resume) := fun _ _ h => nomatch h
theorem NoWord.abort : NoWord.Statement (.abort) := fun _ _ h => nomatch h
theorem NoWord.sectorGrant : NoWord.Statement (.sectorGrant) := fun _ _ h => nomatch h
theorem NoWord.linkReply (frame : Frame) (t : Nat) : NoWord.Statement (.linkReply frame t) := fun _ _ h => nomatch h
theorem NoWord.linkTimeout : NoWord.Statement (.linkTimeout) := fun _ _ h => nomatch h
theorem NoWord.linkReissue : NoWord.Statement (.linkReissue) := fun _ _ h => nomatch h
theorem NoWord.probe : NoWord.Statement (.probe) := fun _ _ h => nomatch h
theorem NoWord.stripeGrant : NoWord.Statement (.stripeGrant) := fun _ _ h => nomatch h
theorem NoWord.stripeReply : NoWord.Statement (.stripeReply) := fun _ _ h => nomatch h
theorem NoWord.wipeTrigger : NoWord.Statement (.wipeTrigger) := fun _ _ h => nomatch h
theorem NoWord.factoryChord : NoWord.Statement (.factoryChord) := fun _ _ h => nomatch h
theorem NoWord.linkFaultReport : NoWord.Statement (.linkFaultReport) := fun _ _ h => nomatch h
theorem NoWord.linkReturn : NoWord.Statement (.linkReturn) := fun _ _ h => nomatch h
theorem NoWord.extentLost : NoWord.Statement (.extentLost) := fun _ _ h => nomatch h
theorem NoWord.temperatureSample (sensor : Int) : NoWord.Statement (.temperatureSample sensor) := fun _ _ h => nomatch h
theorem NoWord.hotSignal : NoWord.Statement (.hotSignal) := fun _ _ h => nomatch h
theorem NoWord.criticalSignal (b : Block) : NoWord.Statement (.criticalSignal b) := fun _ _ h => nomatch h
theorem NoWord.releaseSignal (b : Block) : NoWord.Statement (.releaseSignal b) := fun _ _ h => nomatch h
theorem NoWord.openOrder : NoWord.Statement (.openOrder) := fun _ _ h => nomatch h
theorem NoWord.faultOrder : NoWord.Statement (.faultOrder) := fun _ _ h => nomatch h
theorem NoWord.lockOrder : NoWord.Statement (.lockOrder) := fun _ _ h => nomatch h
theorem NoWord.eraseAcceptance : NoWord.Statement (.eraseAcceptance) := fun _ _ h => nomatch h
theorem NoWord.eraseEnd : NoWord.Statement (.eraseEnd) := fun _ _ h => nomatch h
theorem NoWord.capacityReport : NoWord.Statement (.capacityReport) := fun _ _ h => nomatch h
theorem NoWord.idleTimerExpiry (v : Vol) : NoWord.Statement (.idleTimerExpiry v) := fun _ _ h => nomatch h
theorem NoWord.entryHanded : NoWord.Statement (.entryHanded) := fun _ _ h => nomatch h
theorem NoWord.charge : NoWord.Statement (.charge) := fun _ _ h => nomatch h
theorem NoWord.chargeCommitted : NoWord.Statement (.chargeCommitted) := fun _ _ h => nomatch h
theorem NoWord.derivationDone : NoWord.Statement (.derivationDone) := fun _ _ h => nomatch h
theorem NoWord.matchReport : NoWord.Statement (.matchReport) := fun _ _ h => nomatch h
theorem NoWord.noMatchReport : NoWord.Statement (.noMatchReport) := fun _ _ h => nomatch h
theorem NoWord.acceptanceComplete : NoWord.Statement (.acceptanceComplete) := fun _ _ h => nomatch h
theorem NoWord.lockoutTick : NoWord.Statement (.lockoutTick) := fun _ _ h => nomatch h
theorem NoWord.lockoutEnd (d : Domain) : NoWord.Statement (.lockoutEnd d) := fun _ _ h => nomatch h
theorem NoWord.factoryOrder : NoWord.Statement (.factoryOrder) := fun _ _ h => nomatch h
theorem NoWord.factoryRevocation : NoWord.Statement (.factoryRevocation) := fun _ _ h => nomatch h
theorem NoWord.windowTick : NoWord.Statement (.windowTick) := fun _ _ h => nomatch h
theorem NoWord.windowExpiry : NoWord.Statement (.windowExpiry) := fun _ _ h => nomatch h
theorem NoWord.windowClose : NoWord.Statement (.windowClose) := fun _ _ h => nomatch h
theorem NoWord.wrapAndAdd : NoWord.Statement (.wrapAndAdd) := fun _ _ h => nomatch h
theorem NoWord.removal : NoWord.Statement (.removal) := fun _ _ h => nomatch h
theorem NoWord.enrollEntry : NoWord.Statement (.enrollEntry) := fun _ _ h => nomatch h
theorem NoWord.enrollEarlyEnd : NoWord.Statement (.enrollEarlyEnd) := fun _ _ h => nomatch h
theorem NoWord.commitDone (r : ReadBack) : NoWord.Statement (.commitDone r) := fun _ _ h => nomatch h
theorem NoWord.keyScan (levels : BitVec 12) : NoWord.Statement (.keyScan levels) := fun _ _ h => nomatch h
theorem NoWord.keyAccepted (k : Key) : NoWord.Statement (.keyAccepted k) := fun _ _ h => nomatch h
theorem NoWord.hold (k : Key) : NoWord.Statement (.hold k) := fun _ _ h => nomatch h
theorem NoWord.chord : NoWord.Statement (.chord) := fun _ _ h => nomatch h
theorem NoWord.digitPress : NoWord.Statement (.digitPress) := fun _ _ h => nomatch h
theorem NoWord.enterPress : NoWord.Statement (.enterPress) := fun _ _ h => nomatch h
theorem NoWord.enterHold : NoWord.Statement (.enterHold) := fun _ _ h => nomatch h
theorem NoWord.clearPress : NoWord.Statement (.clearPress) := fun _ _ h => nomatch h
theorem NoWord.clearHold : NoWord.Statement (.clearHold) := fun _ _ h => nomatch h
theorem NoWord.chordTaken : NoWord.Statement (.chordTaken) := fun _ _ h => nomatch h
theorem NoWord.entryTimeout : NoWord.Statement (.entryTimeout) := fun _ _ h => nomatch h
theorem NoWord.stageTimeout : NoWord.Statement (.stageTimeout) := fun _ _ h => nomatch h
theorem NoWord.enrollOrder : NoWord.Statement (.enrollOrder) := fun _ _ h => nomatch h
theorem NoWord.outcomeReport : NoWord.Statement (.outcomeReport) := fun _ _ h => nomatch h
theorem NoWord.returnToIdle : NoWord.Statement (.returnToIdle) := fun _ _ h => nomatch h
theorem NoWord.flashEnd : NoWord.Statement (.flashEnd) := fun _ _ h => nomatch h
theorem NoWord.indicatorPhase : NoWord.Statement (.indicatorPhase) := fun _ _ h => nomatch h

end Sys2Proof.Laws
end

