-- ==== Sys2Proof/Laws/Signals.lean ====
section
/-! SUPPORT. The signals at the blocks: what handing one and taking one away do to the signals that wait, at the block and at
the others, once for all nine. -/

namespace Sys2Proof.Machine

-- One theorem at a time: side by side they ask for more threads than the check's memory limit allows.
set_option Elab.async false

variable {s t : State} {x : Signal} {b c : Block}

@[simp] theorem GuardOrder.signal?_signal (x : Signal) : (GuardOrder.signal x).signal? = some x := rfl
@[simp] theorem CredEvent.signal?_signal (x : Signal) : (CredEvent.signal x).signal? = some x := rfl
@[simp] theorem LockEvent.signal?_signal (x : Signal) : (LockEvent.signal x).signal? = some x := rfl
@[simp] theorem KeyOrder.signal?_signal (x : Signal) : (KeyOrder.signal x).signal? = some x := rfl
@[simp] theorem EngineEvent.signal?_signal (x : Signal) : (EngineEvent.signal x).signal? = some x := rfl

theorem GuardOrder.eq_signal {o : GuardOrder} : o.signal? = some x ↔ o = .signal x := by cases o <;> simp [GuardOrder.signal?]
theorem CredEvent.eq_signal {o : CredEvent} : o.signal? = some x ↔ o = .signal x := by cases o <;> simp [CredEvent.signal?]
theorem LockEvent.eq_signal {o : LockEvent} : o.signal? = some x ↔ o = .signal x := by cases o <;> simp [LockEvent.signal?]
theorem KeyOrder.eq_signal {o : KeyOrder} : o.signal? = some x ↔ o = .signal x := by cases o <;> simp [KeyOrder.signal?]
theorem EngineEvent.eq_signal {o : EngineEvent} : o.signal? = some x ↔ o = .signal x := by
  cases o <;> simp [EngineEvent.signal?]

/-- Taking the first event that carries `x` out of an inbox takes the first `x` out of its signals. -/
theorem filterMap_erase {α : Type} [DecidableEq α] {f : α → Option Signal} {g : Signal → α}
    (h : ∀ {a x}, f a = some x ↔ a = g x) (x : Signal) (l : List α) :
    (l.erase (g x)).filterMap f = (l.filterMap f).erase x := by
  induction l with
  | nil => rfl
  | cons a l ih =>
    rw [List.erase_cons]
    split_ifs with e
    · have e' : a = g x := by simpa using e
      simp [h.2 e']
    · have e' : a ≠ g x := by simpa using e
      rcases k : f a with _ | y
      · simp [k, ih]
      · have n : ¬ y = x := fun z => e' (h.1 (z ▸ k))
        simp [k, ih, n]

/-- Handing a signal puts it behind those that wait at its block, and leaves the others' as they were. -/
theorem State.signalsAt_hand : (s.hand x b).signalsAt c = if b = c then s.signalsAt c ++ [x] else s.signalsAt c := by
  cases b <;> cases c <;>
    simp [State.hand, State.signalsAt, State.tellGuard, State.tellCred, State.tellLockout, State.tellKeypad, State.tellEngine]

/-- Taking a signal away takes the first such away from its block, and leaves the others' as they were. -/
theorem State.signalsAt_dropSignal :
    (s.dropSignal x b).signalsAt c = if b = c then (s.signalsAt c).erase x else s.signalsAt c := by
  cases b <;> cases c <;>
    simp [State.dropSignal, State.signalsAt, filterMap_erase GuardOrder.eq_signal, filterMap_erase CredEvent.eq_signal,
      filterMap_erase LockEvent.eq_signal, filterMap_erase KeyOrder.eq_signal, filterMap_erase EngineEvent.eq_signal]

/-- What taking a signal says: it was the first at its block, and has been taken away. -/
theorem State.takeSignal_eq_some : s.takeSignal b x = some t ↔ (s.signalsAt b).head? = some x ∧ t = s.dropSignal x b := by
  unfold State.takeSignal
  split_ifs with h <;> simp [h, eq_comm]

/-- A signal taken: the rest of its block's signals waits, and every other block's are as they were. -/
theorem State.takeSignal_signalTaken {rest : List Signal} (h : s.takeSignal b x = some t) (r : s.signalsAt b = x :: rest) :
    s.signalTaken t b rest := fun c => by
  obtain ⟨-, rfl⟩ := State.takeSignal_eq_some.1 h
  rw [State.signalsAt_dropSignal]
  rcases eq_or_ne b c with rfl | n
  · simp [r]
  · simp [n, n.symm]

/-- A signal handed to all nine blocks. -/
theorem State.handAll_handed : s.handed (s.handAll x) x := ⟨rfl, rfl, rfl, rfl, rfl, rfl⟩

/-- Nothing of a derivation is left. -/
@[simp] theorem Credential.noDerivation_deriv (c : Credential) : c.noDerivation.deriv = none := rfl
@[simp] theorem Credential.noDerivation_inbox (c : Credential) : c.noDerivation.inbox = c.inbox.filter (· ≠ .derived) := rfl
@[simp] theorem Credential.noDerivation_slots (c : Credential) : c.noDerivation.slots = c.slots := rfl
@[simp] theorem Credential.noDerivation_window (c : Credential) : c.noDerivation.window = c.window := rfl
@[simp] theorem Credential.noDerivation_adminKey (c : Credential) : c.noDerivation.adminKey = c.adminKey := rfl
@[simp] theorem Credential.noDerivation_wait (c : Credential) : c.noDerivation.wait = c.wait := rfl

/-- A grant leaves the engine's events alone. -/
@[simp] theorem State.dropGrant_erase : s.dropGrant.erase = { s.erase with inbox := s.erase.inbox.filter (· ≠ .grant) } := rfl
@[simp] theorem State.dropGrant_link : s.dropGrant.link = s.link := rfl

end Sys2Proof.Machine
end

