-- ==== Sys2Proof/Laws/UnitFrames.lean ====
section
/-! SUPPORT. What the shared operations of the units can change: the link's failures, the volume guard, the keypad unit, the
lockout unit, the credential unit, the erase engine, and the answers of the store. -/

namespace Sys2Proof.Machine

-- One theorem at a time: side by side they ask for more threads than the check's memory limit allows.
set_option Elab.async false

variable {s t u : State} {ps qs : List Part}

/-! ### The link's failures -/

/-- The link enters FAULT. -/
theorem State.enterFault_sameBut : s.sameBut linkEnding (s.enterFault) := by
  unfold State.enterFault
  extract_lets -lift t u w
  have hu : s.sameBut linkEnding u := State.sameBut_then (State.modLink_sameBut _)
    (State.sameBut_then (rs := linkEnding) (State.attend_sameBut _) (State.refresh_sameBut .link))
  have hw : u.sameBut linkEnding w := by
    unfold w
    split <;> first | exact State.sameBut_refl | exact State.sameBut_mono (State.endSector_sameBut _)
  refine State.sameBut_trans (State.sameBut_trans hu hw) ?_
  split_ifs
  · exact State.sameBut_mono (State.modStartUp_sameBut _)
  · exact State.sameBut_mono (State.tellEngine_sameBut _)

/-- A command is given up. -/
theorem State.giveUp_sameBut (f : InFlight) : s.sameBut linkEnding (s.giveUp f) := by
  unfold State.giveUp
  refine State.sameBut_then (State.linkReady_sameBut) (qs := linkEnding) ?_
  split
  · exact State.sameBut_then (State.endSector_sameBut _) State.boundary_sameBut
  · exact State.sameBut_mono (State.stripeReplied_sameBut _)
  · exact State.sameBut_then (State.modStartUp_sameBut _) State.boundary_sameBut

/-- A command fails. -/
theorem State.commandFails_sameBut (f : InFlight) : s.sameBut linkEnding (s.commandFails f) := by
  unfold State.commandFails
  split_ifs
  · exact State.sameBut_then (State.modLink_sameBut _) (State.refresh_sameBut .link)
  · exact State.giveUp_sameBut _
  · exact State.enterFault_sameBut
  · exact State.sameBut_then (State.modLink_sameBut _) (State.refresh_sameBut .link)

/-- The identity is taken. -/
theorem State.identDone_sameBut : s.sameBut linkEnding (s.identDone) := by
  unfold State.identDone
  extract_lets -lift probe t u w
  have ht : s.sameBut linkEnding t :=
    State.sameBut_then (State.refresh_sameBut .link)
      (State.sameBut_then (rs := linkEnding) (State.modLink_sameBut _) State.linkReady_sameBut)
  have hu : t.sameBut linkEnding u := by
    unfold u
    split_ifs
    · exact State.sameBut_mono (State.attend_sameBut _)
    · exact State.sameBut_refl
  have hw : u.sameBut linkEnding w := State.sameBut_mono (State.modStartUp_sameBut _)
  refine State.sameBut_trans (State.sameBut_trans ht hu) (State.sameBut_trans hw ?_)
  split_ifs
  · exact State.sameBut_then (State.tellEngine_sameBut _) State.boundary_sameBut
  · exact State.sameBut_mono State.boundary_sameBut

/-! ### The volume guard -/

/-- A volume is locked. -/
theorem State.lockVolume_sameBut (v : Vol) : s.sameBut sectorEnding (s.lockVolume v) := by
  unfold State.lockVolume
  split_ifs
  · exact State.sameBut_then (State.modVol_sameBut _ _) (State.volumeLeft_sameBut _)
  · exact State.sameBut_refl

/-- A lock order. -/
theorem State.lockSet_sameBut (m : VolSet) : s.sameBut sectorEnding (s.lockSet m) := by
  refine foldl_sameBut (fun t v => ?_) _
  split_ifs
  · exact State.lockVolume_sameBut _
  · exact State.sameBut_refl

/-- An open order. -/
theorem State.openVolume_sameBut (v : Vol) (k : MediaKey) (i : CSlot) (b : Bool) :
    s.sameBut [.volumes] (s.openVolume v k i b) := by
  unfold State.openVolume
  split_ifs
  · exact State.sameBut_refl
  · split <;> first | exact State.modVol_sameBut _ _ | exact State.sameBut_refl

/-- A volume is set to FAULT. -/
theorem State.faultVolume_sameBut (v : Vol) : s.sameBut sectorEnding (s.faultVolume v) := by
  unfold State.faultVolume
  split_ifs
  · exact State.sameBut_then (State.modVol_sameBut _ _) (State.volumeLeft_sameBut _)
  · exact State.sameBut_mono (State.modVol_sameBut _ _)

/-- A commit of the guard has failed. -/
theorem State.guardFailed_sameBut : s.sameBut (.pageVolumes :: completing) (s.guardFailed) := by
  have h (w : GuardWait) (r : Request) :
      s.sameBut (.pageVolumes :: completing) (((s.guardWaits w).complete r .halted 0 []).reportVolumes) :=
    State.sameBut_then (State.sameBut_then (rs := completing) (State.guardWaits_sameBut _) (State.complete_sameBut _ _ _ _))
      State.reportVolumes_sameBut
  have k (w : GuardWait) : s.sameBut (.pageVolumes :: completing) (s.guardWaits w).reportVolumes :=
    State.sameBut_then (State.guardWaits_sameBut _) State.reportVolumes_sameBut
  unfold State.guardFailed
  split
  · exact h _ _
  · exact h _ _
  · exact k _
  · exact k _
  · exact k _
  · exact k _
  all_goals exact State.sameBut_refl

/-- The guard queues records. -/
theorem State.guardCommit_sameBut (l : List Rec) (n : Nat) (k : GuardThen) :
    s.sameBut guardCommitting (s.guardCommit l n k) := by
  unfold State.guardCommit
  extract_lets -lift t
  refine State.sameBut_then (t := t) (State.guardWaits_sameBut _) (qs := guardCommitting) ?_
  split_ifs
  · exact foldl_sameBut (fun u r => State.sameBut_mono (u.queueRec_sameBut r [.guard])) l
  · exact State.sameBut_mono State.guardFailed_sameBut

/-! ### The keypad unit -/

/-- A one-shot is given. -/
theorem State.giveFlash_sameBut (o : OneShot) : s.sameBut [.assembler, .indicator] (s.giveFlash o) := by
  have h : s.sameBut [.assembler, .indicator] (s.modKeypad fun k => { k with flash := some o, flashLeft := o.length }) := by
    intro p; cases p <;> first | exact .inl (by decide) | exact .inr (by repeat' constructor)
  unfold State.giveFlash
  split_ifs
  · exact State.sameBut_refl
  · extract_lets -lift t
    split_ifs
    · exact State.sameBut_trans (t := t) h (State.sameBut_mono State.startPattern_sameBut)
    · exact h

/-- An event joins the key queue. -/
theorem State.pushKey_sameBut (e : KeyEvent) : s.sameBut [.keyQueue] (s.pushKey e) := by
  unfold State.pushKey
  split_ifs <;> (intro p; cases p <;> first | exact .inl (by decide) | exact .inr (by repeat' constructor))

/-- The overrun marker is acted on. -/
theorem State.actOnMarker_sameBut : s.sameBut [.keyQueue, .assembler, .indicator] (s.actOnMarker) := by
  have h (t : State) : t.sameBut [.keyQueue] (t.modKeypad fun k => { k with marker := none }) := by
    intro p; cases p <;> first | exact .inl (by decide) | exact .inr (by repeat' constructor)
  unfold State.actOnMarker
  extract_lets -lift t
  have ht : s.sameBut [.assembler] t := by
    unfold t
    split <;> first | exact State.sameBut_refl | exact State.asmIdle_sameBut |
      exact State.sameBut_trans State.clearEntry_sameBut (State.reloadTimeout_sameBut _)
  exact State.sameBut_then ht (State.sameBut_then (rs := [.keyQueue, .assembler, .indicator]) (State.giveFlash_sameBut _) (h _))

/-- The overrun marker, when it is due. -/
theorem State.markerStep_sameBut : s.sameBut [.keyQueue, .assembler, .indicator] (s.markerStep) := by
  unfold State.markerStep
  split_ifs
  · exact State.actOnMarker_sameBut
  · exact State.sameBut_refl

/-- An entry is handed. -/
theorem State.handEntry_sameBut (d : Domain) : s.sameBut [.assembler, .credInbox] (s.handEntry d) := by
  exact State.sameBut_then (State.tellCred_sameBut _) (State.sameBut_trans State.clearEntry_sameBut (State.asmTo_sameBut _ _))

/-- The assembler leaves VERIFYING. -/
theorem State.leaveVerifying_sameBut (o : Option OneShot) :
    s.sameBut [.keyQueue, .assembler, .indicator] (s.leaveVerifying o) := by
  unfold State.leaveVerifying
  extract_lets -lift t u
  have hu : t.sameBut [.assembler, .indicator] u := by
    unfold u
    split
    · exact State.giveFlash_sameBut _
    · exact State.sameBut_refl
  exact State.sameBut_then (State.asmIdle_sameBut) (State.sameBut_then (rs := [.keyQueue, .assembler, .indicator]) hu
    State.markerStep_sameBut)

/-! ### The lockout unit -/

/-- A domain is replaced. -/
theorem State.setDomain_sameBut (d : Domain) (x : DomainState) : s.sameBut [.domains] (s.setDomain d x) := by
  unfold State.setDomain
  cases d <;> (intro p; cases p <;> first | exact .inl (by decide) | exact .inr (by repeat' constructor))

/-- A domain is changed. -/
theorem State.modDomain_sameBut (d : Domain) (g : DomainState → DomainState) :
    s.sameBut [.domains] (s.modDomain d g) := by
  exact State.setDomain_sameBut _ _

/-- A domain's inputs are sampled. -/
theorem State.sampleDomain_sameBut (d : Domain) : s.sameBut [.domains] (s.sampleDomain d) := by
  exact State.modDomain_sameBut _ _

/-- A DOMAIN record is queued. -/
theorem State.queueDomain_sameBut (d : Domain) : s.sameBut [.commits, .storeRest] (s.queueDomain d) := by
  exact State.queueRec_sameBut _ _

/-- A lockout starts. -/
theorem State.startLockout_sameBut (d : Domain) :
    s.sameBut [.domains, .commits, .storeRest, .attn] (s.startLockout d) := by
  exact State.sameBut_then (State.sameBut_then (rs := [.domains, .commits, .storeRest]) (State.modDomain_sameBut _ _)
    (State.queueDomain_sameBut _)) (State.attend_sameBut _)

/-- The brute-force trigger. -/
theorem State.bruteForce_sameBut (d : Domain) : s.sameBut [.eraseInbox, .lockoutRest] (s.bruteForce d) := by
  exact State.sameBut_then (State.tellEngine_sameBut _) (State.lockoutWaits_sameBut _)

/-- The count is reset after a wipe. -/
theorem State.wipeDone_sameBut (d : Domain) : s.sameBut [.domains, .commits, .storeRest, .attn] (s.wipeDone d) := by
  exact State.sameBut_then (State.sameBut_then (rs := [.domains, .commits, .storeRest]) (State.modDomain_sameBut _ _)
    (State.queueDomain_sameBut _)) (State.attend_sameBut _)

/-- A tick for one domain. -/
theorem State.tickDomain_sameBut (d : Domain) :
    s.sameBut [.domains, .commits, .storeRest, .attn] (s.tickDomain d) := by
  unfold State.tickDomain
  split_ifs
  · exact State.sameBut_then (State.sameBut_then (rs := [.domains, .commits, .storeRest]) (State.modDomain_sameBut _ _)
      (State.queueDomain_sameBut _)) (State.attend_sameBut _)
  · exact State.sameBut_mono (State.modDomain_sameBut _ _)
  · exact State.sameBut_refl

/-- A tick that finds no domain LOCKED_OUT changes nothing (R57). -/
theorem State.lockoutTick_ready (h : ∀ d, (s.domain d).lockedOut = false) : s.lockoutTick = s := by
  simp [State.lockoutTick, h]

/-- A tick at the lockout unit. -/
theorem State.lockoutTick_sameBut : s.sameBut lockoutTicking (s.lockoutTick) := by
  unfold State.lockoutTick
  extract_lets -lift locked t
  split_ifs
  · exact State.sameBut_refl
  · have ht : s.sameBut [.domains, .commits, .storeRest, .attn] t :=
      State.sameBut_trans (State.tickDomain_sameBut _) (State.tickDomain_sameBut _)
    exact State.sameBut_then ht (State.refreshEntries_sameBut _)
  · exact State.sameBut_mono (State.sameBut_trans (State.tickDomain_sameBut _) (State.tickDomain_sameBut _))

/-- Ticks at the lockout unit. -/
theorem State.lockoutTicks_sameBut (n : Nat) (s : State) :
    s.sameBut (.lockoutRest :: (lockoutTicking ++ showing)) (State.lockoutTicks n s) := by
  induction n generalizing s with
  | zero => exact State.sameBut_refl
  | succ n ih =>
    unfold State.lockoutTicks
    split_ifs
    · exact State.sameBut_trans (State.sameBut_then State.popLockout_sameBut (State.sameBut_then (rs := lockoutTicking ++ showing)
        State.lockoutTick_sameBut State.settle_sameBut)) (ih _)
    · exact State.sameBut_refl

/-- Without a tick at the head of its inbox the lockout unit takes none. -/
theorem State.takeTicks_of_head (h : s.lockout.inbox.head? ≠ some .tick) : s.takeTicks = s := by
  unfold State.takeTicks
  cases s.lockout.inbox.length <;> simp [State.lockoutTicks, h]

/-- The lockout unit that is held takes no tick. -/
theorem State.takeTicks_of_held (h : s.lockoutFree = false) : s.takeTicks = s := by
  unfold State.takeTicks
  cases s.lockout.inbox.length <;> simp [State.lockoutTicks, h]

/-- The ticks whose turn it is. -/
theorem State.takeTicks_sameBut : s.sameBut (.lockoutRest :: (lockoutTicking ++ showing)) (s.takeTicks) := by
  exact State.lockoutTicks_sameBut _ _

/-- The lockout unit is free again. -/
theorem State.lockoutRelease_sameBut : s.sameBut [.lockoutRest] (s.lockoutRelease) := by
  exact State.lockoutWaits_sameBut _

/-- The examination of one domain. -/
theorem State.examine_sameBut (d : Domain) :
    s.sameBut ([.lockoutRest, .eraseInbox] ++ lockoutTicking) ((s.examine d).1) := by
  unfold State.examine
  extract_lets -lift t x
  refine State.sameBut_then (t := t) (State.sampleDomain_sameBut _) (qs := [.lockoutRest, .eraseInbox] ++ lockoutTicking) ?_
  split_ifs
  · exact State.sameBut_then (State.bruteForce_sameBut _) (State.attend_sameBut _)
  · exact State.sameBut_mono (State.startLockout_sameBut _)
  · exact State.sameBut_then (State.modDomain_sameBut _ _) (State.queueDomain_sameBut _)
  · exact State.sameBut_refl

/-! ### The credential unit -/

/-- The window opens. -/
theorem State.openWindow_sameBut (i : CSlot) (k : Kek) :
    s.sameBut [.window, .pageWindow, .credRest] (s.openWindow i k) := by
  refine State.sameBut_then (ps := [.window, .credRest]) ?_ (State.refresh_sameBut .window)
  intro p; cases p <;> first | exact .inl (by decide) | exact .inr (by repeat' constructor)

/-- The window closes. -/
theorem State.shutWindow_sameBut : s.sameBut [.window, .pageWindow] (s.shutWindow) := by
  unfold State.shutWindow
  split_ifs
  · refine State.sameBut_then (ps := [.window]) ?_ (State.refresh_sameBut .window)
    intro p; cases p <;> first | exact .inl (by decide) | exact .inr (by repeat' constructor)
  · exact State.sameBut_refl

/-- The window's timer starts again. -/
theorem State.rearmWindow_sameBut (g : Bool → Bool) : s.sameBut [.window, .pageWindow] (s.rearmWindow g) := by
  refine State.sameBut_then (ps := [.window]) ?_ (State.refresh_sameBut .window)
  intro p; cases p <;> first | exact .inl (by decide) | exact .inr (by repeat' constructor)

/-- An authorized answer. -/
theorem State.authorize_sameBut (h : s.authorize = some t) : s.sameBut [.window, .pageWindow] t := by
  unfold State.authorize at h
  split_ifs at h
  cases h
  exact State.rearmWindow_sameBut _

/-- The keypad unit is told. -/
theorem State.endKeypad_sameBut (k : KeypadEnd) : s.sameBut [.keypadInbox, .keyOrder] (s.endKeypad k) := by
  cases k with
  | leave => exact State.sameBut_refl
  | outcome a => exact State.tellKeypad_sameBut _
  | toIdle f => exact State.tellKeypad_sameBut _

/-- An enrollment ends. -/
theorem State.endEnroll_sameBut (st : Status) (l : List Byte) (k : KeypadEnd) :
    s.sameBut enrollEnding (s.endEnroll st l k) := by
  unfold State.endEnroll
  split
  · exact State.sameBut_refl
  · extract_lets -lift t
    refine State.sameBut_then (t := t) (ps := [.credWork, .deriv, .credInbox]) ?_ (State.sameBut_then (rs := enrollEnding)
      (State.sameBut_then (rs := [.window, .pageWindow, .keypadInbox, .keyOrder]) (State.rearmWindow_sameBut _)
        (State.endKeypad_sameBut _)) (State.complete_sameBut _ _ _ _))
    intro p; cases p <;> first | exact .inl (by decide) | exact .inr (by repeat' constructor)

/-- An early end. -/
theorem State.stopEnroll_sameBut (st : Status) (k : KeypadEnd) : s.sameBut enrollEnding (s.stopEnroll st k) := by
  unfold State.stopEnroll
  split
  · exact State.sameBut_refl
  · split_ifs
    · exact State.sameBut_refl
    · exact State.endEnroll_sameBut _ _ _

/-- A close cause is taken. -/
theorem State.closeWindow_sameBut : s.sameBut enrollEnding (s.closeWindow) := by
  unfold State.closeWindow
  split_ifs
  · split
    · exact State.sameBut_mono State.shutWindow_sameBut
    · split_ifs
      · exact State.sameBut_mono State.shutWindow_sameBut
      · exact State.sameBut_then State.shutWindow_sameBut (State.stopEnroll_sameBut _ _)
  · exact State.sameBut_refl

/-- A tick at the window. -/
theorem State.windowTick_sameBut : s.sameBut enrollEnding (s.windowTick) := by
  unfold State.windowTick
  split
  · exact State.sameBut_refl
  · split_ifs
    · exact State.sameBut_refl
    · exact State.closeWindow_sameBut
    · refine State.sameBut_then (ps := [.window]) ?_ (State.refresh_sameBut .window)
      intro p; cases p <;> first | exact .inl (by decide) | exact .inr (by repeat' constructor)

/-- Ticks at the window. -/
theorem State.windowTicks_sameBut (n : Nat) (s : State) : s.sameBut (enrollEnding ++ showing) (State.windowTicks n s) := by
  induction n generalizing s with
  | zero => exact State.sameBut_refl
  | succ n ih =>
    unfold State.windowTicks
    split_ifs
    · exact State.sameBut_trans (State.sameBut_then State.popCred_sameBut (State.sameBut_then (rs := enrollEnding ++ showing)
        State.windowTick_sameBut State.settle_sameBut)) (ih _)
    · exact State.sameBut_refl

/-- Without a tick at the head of its inbox the credential unit takes none. -/
theorem State.takeWindowTicks_of_head (h : s.cred.inbox.head? ≠ some .tick) : s.takeWindowTicks = s := by
  unfold State.takeWindowTicks
  cases s.cred.inbox.length <;> simp [State.windowTicks, h]

/-- The credential unit that is held takes no tick. -/
theorem State.takeWindowTicks_of_held (h : s.credFree = false) : s.takeWindowTicks = s := by
  unfold State.takeWindowTicks
  cases s.cred.inbox.length <;> simp [State.windowTicks, h]

/-- The ticks whose turn it is. -/
theorem State.takeWindowTicks_sameBut : s.sameBut (enrollEnding ++ showing) (s.takeWindowTicks) := by
  exact State.windowTicks_sameBut _ _

/-- The ticks before a query. -/
theorem State.beforeQuery_sameBut (b : Bool) : s.sameBut (enrollEnding ++ showing) (s.beforeQuery b) := by
  unfold State.beforeQuery
  split_ifs
  · exact State.takeWindowTicks_sameBut
  · exact State.sameBut_refl

/-- A query that finds no tick waiting. -/
theorem State.beforeQuery_of_head (b : Bool) (h : s.cred.inbox.head? ≠ some .tick) : s.beforeQuery b = s := by
  unfold State.beforeQuery
  split_ifs
  · exact State.takeWindowTicks_of_head h
  · rfl

/-- The credential unit is free again. -/
theorem State.credRelease_sameBut : s.sameBut [.credRest] (s.credRelease) := by
  exact State.credWaits_sameBut _

/-- The verification is replaced. -/
theorem State.setVerify_sameBut (o : Option Verification) :
    s.sameBut [.credWork] (s.modCred fun c => { c with verify := o }) := by
  intro p; cases p <;> first | exact .inl (by decide) | exact .inr (by repeat' constructor)

/-- The enrollment is replaced. -/
theorem State.setEnroll_sameBut (o : Option Enrollment) :
    s.sameBut [.credWork] (s.modCred fun c => { c with enroll := o }) := by
  intro p; cases p <;> first | exact .inl (by decide) | exact .inr (by repeat' constructor)

/-- A no-match. -/
theorem State.noMatch_sameBut (d : Domain) :
    s.sameBut [.credWork, .deriv, .credInbox, .lockoutRest, .keypadInbox, .keyOrder] (s.noMatch d) := by
  exact State.sameBut_then (State.sameBut_then (rs := [.credWork, .deriv, .credInbox, .lockoutRest]) State.endVerify_sameBut
    (State.tellLockout_sameBut _)) (State.tellKeypad_sameBut _)

/-- The search goes on. -/
theorem State.searchFrom_sameBut (v : Verification) (i : Nat) :
    s.sameBut [.credWork, .deriv, .credInbox, .lockoutRest, .keypadInbox, .keyOrder] (s.searchFrom v i) := by
  unfold State.searchFrom
  split
  · exact State.noMatch_sameBut _
  · exact State.sameBut_then (State.startDerivation_sameBut _ _ _) (State.setVerify_sameBut _)

/-- The orders of a match. -/
theorem State.sendOrders_sameBut (i : CSlot) (k : Kek) (b : Bool) : s.sameBut [.guardInbox] (s.sendOrders i k b) := by
  refine foldl_sameBut (fun t e => ?_) _
  split <;> exact State.tellGuard_sameBut _

/-- The match of a USER, ADMIN or RECOVERY slot. -/
theorem State.matched_sameBut (d : Domain) (i : CSlot) (k : Kek) :
    s.sameBut [.credWork, .deriv, .credInbox, .lockoutRest, .guardInbox, .window, .pageWindow, .credRest, .keypadInbox, .keyOrder]
      (s.matched d i k) := by
  unfold State.matched
  extract_lets -lift c t u
  have ht : s.sameBut [.credWork, .deriv, .credInbox, .lockoutRest, .guardInbox] t :=
    State.sameBut_then (State.sameBut_then (rs := [.credWork, .deriv, .credInbox, .lockoutRest]) State.endVerify_sameBut
      (State.tellLockout_sameBut _)) (State.sendOrders_sameBut _ _ _)
  have hu : t.sameBut [.window, .pageWindow, .credRest] u := by
    unfold u
    split_ifs
    · exact State.sameBut_refl
    · exact State.openWindow_sameBut _ _
  exact State.sameBut_then ht (State.sameBut_then (rs := [.window, .pageWindow, .credRest, .keypadInbox, .keyOrder]) hu
    (State.tellKeypad_sameBut _))

/-- The match of a WIPE slot. -/
theorem State.wipeMatched_sameBut (d : Domain) (i : CSlot) :
    s.sameBut [.credWork, .deriv, .credInbox, .lockoutRest, .eraseInbox, .keypadInbox, .keyOrder] (s.wipeMatched d i) := by
  unfold State.wipeMatched
  extract_lets -lift t u
  have ht : s.sameBut [.credWork, .deriv, .credInbox, .lockoutRest] t :=
    State.sameBut_then State.endVerify_sameBut (State.tellLockout_sameBut _)
  have hu : t.sameBut [.eraseInbox] u := by
    unfold u
    split_ifs
    · exact State.sameBut_refl
    · exact State.tellEngine_sameBut _
  exact State.sameBut_then ht (State.sameBut_then (rs := [.eraseInbox, .keypadInbox, .keyOrder]) hu
    (State.tellKeypad_sameBut _))

/-- The duplicate search goes on. -/
theorem State.duplicateFrom_sameBut (e : Enrollment) (d : Domain) (i : Nat) :
    s.sameBut [.credWork, .deriv, .draws] (s.duplicateFrom e d i) := by
  unfold State.duplicateFrom
  split
  · exact State.sameBut_then (State.startDerivation_sameBut _ _ _) (State.setEnroll_sameBut _)
  · intro p; cases p <;> first | exact .inl (by decide) | exact .inr (by repeat' constructor)

/-- A volume leaves the wrap lists. -/
theorem State.removeWraps_sameBut (v : Vol) (ws : List Waiter) :
    s.sameBut [.slots, .commits, .storeRest] (s.removeWraps v ws) := by
  refine foldl_sameBut (fun t i => ?_) _
  exact State.sameBut_then (State.setSlot_sameBut _ _) (State.queueRec_sameBut _ _)

/-- A removal ends an enrollment. -/
theorem State.removalEndsEnroll_sameBut (v : Vol) : s.sameBut enrollEnding (s.removalEndsEnroll v) := by
  unfold State.removalEndsEnroll
  split
  · exact State.sameBut_refl
  · split_ifs
    · exact State.stopEnroll_sameBut _ _
    · exact State.sameBut_refl

/-- A commit of the credential unit has failed. -/
theorem State.credFailed_sameBut : s.sameBut (.credRest :: enrollEnding) (s.credFailed) := by
  unfold State.credFailed
  split
  · exact State.sameBut_refl
  · exact State.sameBut_mono State.credRelease_sameBut
  · exact State.sameBut_mono State.credRelease_sameBut
  · exact State.sameBut_then State.credRelease_sameBut (State.complete_sameBut _ _ _ _)
  · exact State.sameBut_then State.credRelease_sameBut (State.endEnroll_sameBut _ _ _)

/-! ### The erase engine -/

/-- A checkpoint is queued. -/
theorem State.checkpointOf_sameBut (e : EraseEntry) : s.sameBut [.commits, .storeRest] (s.checkpointOf e) := by
  exact State.queueRec_sameBut _ _

/-- The head's checkpoint is queued. -/
theorem State.checkpointHead_sameBut : s.sameBut [.commits, .storeRest] (s.checkpointHead) := by
  unfold State.checkpointHead
  split
  · exact State.checkpointOf_sameBut _
  · exact State.sameBut_refl

/-- An entry ends with a result. -/
theorem State.endEntryAs_sameBut (e : EraseEntry) (x : EraseResult) :
    s.sameBut [.guardInbox, .eraseRest] (s.endEntryAs e x) := by
  exact State.sameBut_then (State.tellGuard_sameBut _) (State.setJob_sameBut _)

/-- An entry ends. -/
theorem State.endEntry_sameBut (e : EraseEntry) : s.sameBut [.guardInbox, .eraseRest] (s.endEntry e) := by
  exact State.endEntryAs_sameBut _ _

/-- The engine asks for the link. -/
theorem State.engineAsk_sameBut : s.sameBut granting (s.engineAsk) := by
  unfold State.engineAsk
  split_ifs
  · exact State.sameBut_refl
  · exact State.sameBut_then (State.modLink_sameBut _) State.boundary_sameBut

/-- The engine runs. -/
theorem State.engineRun_sameBut : s.sameBut ([.guardInbox, .eraseRest] ++ granting) (s.engineRun) := by
  unfold State.engineRun
  split
  · exact State.sameBut_refl
  · split_ifs
    · exact State.sameBut_then State.withdrawEngine_sameBut (State.endEntry_sameBut _)
    · exact State.sameBut_mono (State.endEntry_sameBut _)
    · exact State.sameBut_mono State.engineAsk_sameBut
    · exact State.sameBut_refl

/-- Whether a checkpoint waits. -/
theorem State.setDue_sameBut (b : Bool) : s.sameBut [.eraseRest] (s.modErase fun e => { e with due := b }) := by
  intro p; cases p <;> first | exact .inl (by decide) | exact .inr (by repeat' constructor)

/-- Whether a stripe was measured. -/
theorem State.setPace_sameBut (b : Bool) : s.sameBut [.eraseRest] (s.modErase fun e => { e with pace := b }) := by
  intro p; cases p <;> first | exact .inl (by decide) | exact .inr (by repeat' constructor)

/-- The pause flag. -/
theorem State.setPause_sameBut (b : Bool) : s.sameBut [.eraseRest] (s.modErase fun e => { e with pause := b }) := by
  intro p; cases p <;> first | exact .inl (by decide) | exact .inr (by repeat' constructor)

/-- No command is in flight. -/
theorem State.landed_sameBut (b : Bool) :
    s.sameBut [.eraseRest] (s.modErase fun e => { e with flying := none, pace := b }) := by
  intro p; cases p <;> first | exact .inl (by decide) | exact .inr (by repeat' constructor)

/-- The engine takes a pause or a hold. -/
theorem State.engineStops_sameBut : s.sameBut engineStopping (s.engineStops) := by
  unfold State.engineStops
  split_ifs
  · exact State.sameBut_then (State.setDue_sameBut _) (State.refresh_sameBut .erase)
  · exact State.sameBut_then (State.sameBut_then (rs := engineStopping) (State.setPace_sameBut _)
      (State.sameBut_then (rs := engineStopping) State.withdrawEngine_sameBut State.checkpointHead_sameBut))
      (State.refresh_sameBut .erase)

/-- The post-completion action. -/
theorem State.postAction_sameBut (a : Action) :
    s.sameBut ([.storeRest, .device, .pageDevice] ++ handing) (s.postAction a) := by
  have h (t : State) : t.sameBut [.storeRest] (t.modStore fun x => { x with mode := .finishing }) := by
    intro p; cases p <;> first | exact .inl (by decide) | exact .inr (by repeat' constructor)
  unfold State.postAction
  split
  · split
    · exact State.sameBut_refl
    · exact State.sameBut_mono (State.tellGuard_sameBut _)
    · split
      · exact State.sameBut_then (h s) (State.sameBut_then (rs := [.device, .pageDevice] ++ handing) State.enterHalted_sameBut
          (State.refresh_sameBut .device))
      · exact State.sameBut_refl
  · exact State.sameBut_refl

/-- The checkpoint after a removal. -/
theorem State.afterRemoval_sameBut (b : Bool) : s.sameBut [.eraseRest, .commits, .storeRest] (s.afterRemoval b) := by
  unfold State.afterRemoval
  split_ifs
  · exact State.sameBut_then (State.setPause_sameBut _) (State.queueRec_sameBut _ _)
  · exact State.sameBut_mono State.checkpointHead_sameBut
  · exact State.sameBut_refl

/-- The list is replaced. -/
theorem State.setList_sameBut (l : List EraseEntry) :
    s.sameBut [.eraseList] (s.modErase fun e => { e with list := l }) := by
  intro p; cases p <;> first | exact .inl (by decide) | exact .inr (by repeat' constructor)

/-- An entry is removed. -/
theorem State.removeEntry_sameBut (v : Vol) :
    s.sameBut [.eraseList, .eraseRest, .commits, .storeRest] (s.removeEntry v) := by
  unfold State.removeEntry
  extract_lets -lift a wasHead t
  exact State.sameBut_then (t := t) (State.sameBut_then (rs := [.eraseList, .eraseRest]) (State.setList_sameBut _)
    (State.setJob_sameBut _)) (State.queueRec_sameBut _ _)

/-- The list without an entry has committed. -/
theorem State.entryEnded_sameBut (a : Action) (b : Bool) : s.sameBut entryEnding (s.entryEnded a b) := by
  unfold State.entryEnded
  extract_lets -lift t
  refine State.sameBut_then (t := t) (rs := entryEnding) (State.sameBut_then (rs := entryEnding)
    (State.sameBut_then (rs := entryEnding) (State.setJob_sameBut _) (State.attend_sameBut _))
      (State.afterRemoval_sameBut _)) (qs := entryEnding) ?_
  exact State.sameBut_then (State.sameBut_then (rs := entryEnding) (State.refresh_sameBut .erase)
    (State.postAction_sameBut _)) State.engineRun_sameBut

/-- A reply is applied to its entry. -/
theorem State.applyReply_sameBut (v : Vol) (b : Bool) (o : StripeOutcome) :
    s.sameBut [.eraseRest, .eraseList, .commits, .storeRest] (s.applyReply v b o) := by
  unfold State.applyReply
  extract_lets -lift t
  refine State.sameBut_then (t := t) (State.landed_sameBut _)
    (qs := [.eraseRest, .eraseList, .commits, .storeRest]) ?_
  split
  · exact State.sameBut_refl
  · split
    · extract_lets -lift u
      have hu : t.sameBut [.eraseList] u := State.modEntry_sameBut _ _
      split_ifs
      · exact State.sameBut_mono hu
      · exact State.sameBut_then hu (State.checkpointOf_sameBut _)
      · exact State.sameBut_mono hu
    · exact State.sameBut_mono (State.setPace_sameBut _)
    · exact State.sameBut_refl

/-- The checkpoint that waited for a reply. -/
theorem State.dueCheckpoint_sameBut (v : Vol) : s.sameBut [.eraseRest, .commits, .storeRest] (s.dueCheckpoint v) := by
  unfold State.dueCheckpoint
  split_ifs
  · extract_lets -lift t
    refine State.sameBut_then (t := t) (State.setDue_sameBut _) (qs := [.commits, .storeRest]) ?_
    split
    · exact State.checkpointOf_sameBut _
    · exact State.sameBut_refl
  · exact State.sameBut_refl

/-- The list is replaced, a suspended head's cursor committed. -/
theorem State.relist_sameBut (l : List EraseEntry) :
    s.sameBut ([.eraseList, .eraseRest, .commits, .storeRest] ++ granting) (s.relist l) := by
  unfold State.relist
  extract_lets -lift t
  refine State.sameBut_then (t := t) (State.setList_sameBut _)
    (qs := ([.eraseList, .eraseRest, .commits, .storeRest] ++ granting)) ?_
  split
  · exact State.sameBut_refl
  · split_ifs
    · exact State.sameBut_mono State.withdrawEngine_sameBut
    · exact State.sameBut_then State.withdrawEngine_sameBut (State.sameBut_then (rs := [.eraseRest, .commits, .storeRest])
        (State.setPace_sameBut _) (State.checkpointOf_sameBut _))

/-- An acceptance is complete. -/
theorem State.acceptDone_sameBut (a : Acceptance) : s.sameBut accepting (s.acceptDone a) := by
  unfold State.acceptDone
  extract_lets -lift t u
  have hu : t.sameBut accepting u := by
    unfold u
    split
    · exact State.sameBut_mono (State.complete_sameBut _ _ _ _)
    · exact State.sameBut_mono (State.tellLockout_sameBut _)
    all_goals exact State.sameBut_refl
  exact State.sameBut_then (State.setJob_sameBut _) (State.sameBut_then (rs := accepting) hu State.engineRun_sameBut)

/-- The walk through the volumes of a trigger. -/
theorem State.acceptFrom_sameBut (a : Acceptance) (l : List Vol) : s.sameBut accepting (s.acceptFrom a l) := by
  induction l generalizing s a with
  | nil => exact State.acceptDone_sameBut _
  | cons v l ih =>
    unfold State.acceptFrom
    split
    · exact ih a
    · exact State.sameBut_then (State.sameBut_then (rs := [.guardInbox, .credInbox]) (State.tellGuard_sameBut _)
        (State.tellCred_sameBut _)) (State.setJob_sameBut _)
    · extract_lets -lift m b
      split_ifs
      · exact ih _
      · exact State.sameBut_then (State.sameBut_then (rs := accepting) (State.relist_sameBut _) (State.setJob_sameBut _))
          (State.queueRec_sameBut _ _)

/-- A trigger is taken. -/
theorem State.accept_sameBut (x : AcceptSource) (w : Bool) (p : Plan) (l : List Vol) :
    s.sameBut accepting (s.accept x w p l) := by
  exact State.acceptFrom_sameBut _ _

/-- An acceptance goes on. -/
theorem State.acceptNext_sameBut (a : Acceptance) (b : Bool) : s.sameBut accepting (s.acceptNext a b) := by
  unfold State.acceptNext
  extract_lets -lift t
  refine State.sameBut_then (t := t) (State.refresh_sameBut .erase) (qs := accepting) ?_
  split_ifs
  · exact State.sameBut_mono (State.setJob_sameBut _)
  · exact State.sameBut_then State.checkpointHead_sameBut (State.acceptFrom_sameBut _ _)
  · exact State.acceptFrom_sameBut _ _

/-- The removal is done. -/
theorem State.removalDone_sameBut : s.sameBut [.guardInbox, .eraseRest] (s.removalDone) := by
  unfold State.removalDone
  split
  · split
    · exact State.sameBut_then (State.tellGuard_sameBut _) (State.setJob_sameBut _)
    · exact State.sameBut_refl
  · exact State.sameBut_refl

/-- The accepted volume is entered in the list. -/
theorem State.enterVolume_sameBut (v : Vol) :
    s.sameBut ([.eraseList, .eraseRest, .commits, .storeRest] ++ granting) (s.enterVolume v) := by
  unfold State.enterVolume
  split
  · exact State.sameBut_then (State.relist_sameBut _) (State.queueRec_sameBut _ _)
  · exact State.sameBut_refl

/-- The guard's acceptance has ended. -/
theorem State.volumeAccepted_sameBut (v : Vol) : s.sameBut accepting (s.volumeAccepted v) := by
  unfold State.volumeAccepted
  split
  · split_ifs
    · exact State.acceptNext_sameBut _ _
    · exact State.sameBut_refl
  · exact State.sameBut_refl

/-- The guard has retired the volume. -/
theorem State.volumeRetired_sameBut (v : Vol) (b : Bool) : s.sameBut accepting (s.volumeRetired v b) := by
  unfold State.volumeRetired
  split
  · split_ifs <;> first | exact State.acceptFrom_sameBut _ _ | exact State.sameBut_refl
  · exact State.sameBut_refl

/-- A suspended entry's reply has been applied. -/
theorem State.suspensionDone_sameBut (a : Acceptance) (v : Vol) : s.sameBut accepting (s.suspensionDone a v) := by
  unfold State.suspensionDone
  extract_lets -lift t u
  have ht : s.sameBut [.commits, .storeRest] t := by
    unfold t
    split
    · exact State.checkpointOf_sameBut _
    · exact State.sameBut_refl
  have hu : t.sameBut [.commits, .storeRest] u :=
    State.sameBut_trans (State.queueRec_sameBut _ _) State.checkpointHead_sameBut
  exact State.sameBut_then (State.sameBut_trans ht hu) (State.sameBut_then (rs := accepting) (State.refresh_sameBut .erase)
    (State.acceptFrom_sameBut _ _))

/-- An ABORT in progress. -/
theorem State.abortFrom_sameBut (r : Request) (n : Nat) (a : Action) (l : List Vol) :
    s.sameBut [.guardInbox, .eraseList, .eraseRest, .commits, .storeRest] (s.abortFrom r n a l) := by
  cases l with
  | cons v l => exact State.sameBut_then (State.tellGuard_sameBut _) (State.setJob_sameBut _)
  | nil =>
    exact State.sameBut_then (State.sameBut_then (rs := [.eraseList, .eraseRest]) (State.setList_sameBut _)
      (State.setJob_sameBut _)) (State.queueRec_sameBut _ _)

/-- The list without the aborted entries has committed. -/
theorem State.aborted_sameBut (r : Request) (n : Nat) (a : Action) : s.sameBut abortEnding (s.aborted r n a) := by
  unfold State.aborted
  extract_lets -lift t
  refine State.sameBut_then (t := t) (rs := abortEnding) (State.sameBut_then (rs := entryEnding)
    (State.sameBut_then (rs := entryEnding) (State.setJob_sameBut _) (State.attend_sameBut _))
      (State.afterRemoval_sameBut _)) (qs := abortEnding) ?_
  exact State.sameBut_then (State.sameBut_then (rs := abortEnding) (State.sameBut_then (rs := abortEnding)
    (State.refresh_sameBut .erase) (State.complete_sameBut _ _ _ _)) (State.postAction_sameBut _)) State.engineRun_sameBut

/-- The guard has ended an erase end order. -/
theorem State.volumeEnded_sameBut (v : Vol) : s.sameBut engineAnswering (s.volumeEnded v) := by
  unfold State.volumeEnded
  split
  · split_ifs
    · exact State.sameBut_mono (State.removeEntry_sameBut _)
    · exact State.sameBut_refl
  · exact State.sameBut_mono (State.abortFrom_sameBut _ _ _ _)
  · exact State.sameBut_refl

/-- A commit of the engine is complete. -/
theorem State.engineCommitted_sameBut : s.sameBut engineAnswering (s.engineCommitted) := by
  unfold State.engineCommitted
  split
  · exact State.sameBut_mono (State.entryEnded_sameBut _ _)
  · exact State.sameBut_mono (State.aborted_sameBut _ _ _)
  · split
    · exact State.sameBut_mono (State.acceptNext_sameBut _ _)
    · exact State.sameBut_refl
  · exact State.sameBut_refl

/-- What the taking of an event of the engine can do: nothing, or the act on the event at the head and the arbiter's grant. -/
theorem State.takeEvent_cases (act : EngineEvent → Option (State → State)) :
    s.takeEvent act = s ∨
      ∃ e rest g, s.alive = true ∧ s.engineFree = true ∧ s.erase.inbox = e :: rest ∧ act e = some g ∧
        s.takeEvent act = (g s.popEngine).boundary.settle := by
  unfold State.takeEvent
  split_ifs with h
  · simp only [Bool.and_eq_true] at h
    cases hi : s.erase.inbox with
    | nil => exact .inl rfl
    | cons e rest =>
      cases hg : act e with
      | none => exact .inl (by simp only [hg])
      | some g => exact .inr ⟨e, rest, g, h.1, h.2, rfl, hg, by simp only [hg]⟩
  · exact .inl rfl

/-- The orphans are handed to the engine. -/
theorem State.handOrphans_sameBut : s.sameBut [.startUp, .eraseInbox] s.handOrphans := by
  unfold State.handOrphans State.toStep
  split_ifs
  · exact State.sameBut_mono (State.modStartUp_sameBut _)
  · exact State.sameBut_then (State.modStartUp_sameBut _) (State.tellEngine_sameBut _)

/-- In HALTED what waited for a reply stops where it stands (R132). -/
theorem State.replyTaken_halted (v : Vol) (h : s.device = .halted) : s.replyTaken v = s := by simp [State.replyTaken, h]

/-- The reply that a held engine waits for. -/
theorem State.replyTaken_sameBut (v : Vol) : s.sameBut engineAnswering (s.replyTaken v) := by
  unfold State.replyTaken
  split
  · exact State.sameBut_refl
  · split
    · split_ifs
      · exact State.sameBut_mono (State.suspensionDone_sameBut _ _)
      · exact State.sameBut_refl
    · exact State.sameBut_mono (State.abortFrom_sameBut _ _ _ _)
    · exact State.sameBut_refl

/-- A hold is set. -/
theorem State.setHold_sameBut (b : Bool) (g : Erase → Erase) :
    s.sameBut ([.eraseList, .eraseInbox] ++ engineStopping) (s.setHold b g) := by
  unfold State.setHold
  split_ifs
  · exact State.sameBut_refl
  · exact State.sameBut_then (State.modErase_sameBut _) State.withdrawEngine_sameBut
  · exact State.sameBut_then (State.modErase_sameBut _) State.engineStops_sameBut

/-- In HALTED a hold that is set, with nothing asked of the link, changes the hold alone (R132, R137). -/
theorem State.setHold_halted (g : Erase → Erase) (h : s.device = .halted) (a : s.link.engineAsks = false)
    (b : s.link.granted ≠ some .engine) : s.setHold false g = s.modErase g := by
  simp [State.setHold, h, State.withdrawEngine, State.modErase, a, b]

/-- In HALTED a hold that is cleared changes the hold alone (R132, R137). -/
theorem State.clearHold_halted (g : Erase → Erase) (h : s.device = .halted) : s.clearHold g = s.modErase g := by
  simp [State.clearHold, h]

/-- A hold is cleared. -/
theorem State.clearHold_sameBut (g : Erase → Erase) :
    s.sameBut ([.eraseList, .eraseInbox, .guardInbox] ++ engineStopping) (s.clearHold g) := by
  unfold State.clearHold
  split_ifs
  · exact State.sameBut_mono (State.modErase_sameBut _)
  · exact State.sameBut_then (State.sameBut_then (rs := [.eraseList, .eraseInbox] ++ engineStopping) (State.modErase_sameBut _)
      (State.refresh_sameBut .erase)) State.engineRun_sameBut

/-- The link's FAULT is taken. -/
theorem State.linkFaulted_sameBut : s.sameBut ([.eraseList, .eraseInbox] ++ engineStopping) s.linkFaulted := by
  unfold State.linkFaulted
  extract_lets -lift t
  have ht : s.sameBut ([.eraseList, .eraseInbox, .eraseRest] ++ granting) t :=
    State.sameBut_then (State.modErase_sameBut _) State.withdrawEngine_sameBut
  split_ifs
  · exact State.sameBut_mono ht
  · exact State.sameBut_then ht (State.sameBut_then (rs := [.pageErase] ++ engineStopping) State.checkpointHead_sameBut
      (State.refresh_sameBut .erase))

/-- An extent is lost. -/
theorem State.extentLost_sameBut (v : Vol) :
    s.sameBut ([.eraseList, .eraseRest, .pageErase, .guardInbox] ++ granting) (s.extentLost v) := by
  unfold State.extentLost
  split
  · exact State.sameBut_refl
  · extract_lets -lift n t
    have ht : s.sameBut (.eraseRest :: granting) t := by
      unfold t
      split_ifs
      · exact State.sameBut_then (State.setPace_sameBut _) State.withdrawEngine_sameBut
      · exact State.sameBut_refl
    exact State.sameBut_then ht (State.sameBut_then (rs := [.eraseList, .eraseRest, .pageErase, .guardInbox])
      (State.sameBut_then (rs := [.eraseList, .pageErase]) (State.modEntry_sameBut _ _) (State.refresh_sameBut .erase))
      (State.endEntryAs_sameBut _ _))

end Sys2Proof.Machine
end

