-- ==== Sys2Proof/WellFormed.lean ====
section
/-! DEFINITION. The checks that make a command's operands ones its row can carry. The meanings are total and do
not need them. -/

namespace Sys2Proof

/-- The operands are ones the row can carry.
* REGISTER_WRITE_OTHER names IDENT or a number from 5 to 7 (R175); the other registers have rows of their own.
* Only ENTER and CLEAR give a HOLD (R68, R69).
* The critical and release signals go to the guard and the erase engine alone (R137).
* No link command reads more than 256 sectors (R96). -/
def Instr.wellFormed : Instr → Bool
  | .registerWriteOther reg _ => reg = 0 || 5 ≤ reg.toNat
  | .hold k => k = .enter || k = .clear
  | .criticalSignal b => b = .guard || b = .engine
  | .releaseSignal b => b = .guard || b = .engine
  | .linkReply f _ =>
    match f.reply with
    | .data sectors => sectors.length ≤ 256
    | _ => true
  | _ => true

end Sys2Proof
end

