-- ==== Sys2Proof/Tests/Slice0.lean ====
section
/-! SUPPORT. The writer's own tests: ill-formed operands refused, cases worked in the data book, and for every statement with
hypotheses a concrete state that meets them. -/

namespace Sys2Proof.Tests

open Sys2Proof.Machine

-- One theorem at a time: side by side they ask for more threads than the check's memory limit allows.
set_option Elab.async false

/-! ### Ill-formed operands -/

/-- REGISTER_WRITE_OTHER does not name ATTN, which has a row of its own (R175). -/
theorem test_wf_register : (Instr.registerWriteOther 1 0).wellFormed = false := by decide

/-- A digit gives no HOLD (R68). -/
theorem test_wf_hold : (Instr.hold (.digit 3)).wellFormed = false := by decide

/-- The critical signal goes to no keypad unit (R137). -/
theorem test_wf_critical : (Instr.criticalSignal .keypad).wellFormed = false := by decide

/-- The release signal goes to no store (R137). -/
theorem test_wf_release : (Instr.releaseSignal .store).wellFormed = false := by decide

/-- No reply carries more than 256 sectors (R96). -/
theorem test_wf_reply : (Instr.linkReply ⟨true, .data (List.replicate 257 0)⟩ 0).wellFormed = false := by decide +kernel

/-- A register write that the row admits. -/
theorem test_wf_ok : (Instr.registerWriteOther 7 0).wellFormed = true := by decide

/-! ### States to test with -/

/-- The part in READY, nothing defined. -/
def ready : State := { State.reset with device := .ready, startUp := { next := 0 } }

/-- The record of a volume of 1000 sectors from sector 0. -/
def rec1000 (st : VState) : VolRec :=
  { state := st, first := 0, count := 1000, idleCode := 2, writeProtect := false, lastResult := .none, suspects := 0 }

/-- A state with volume 1 in a state, its key held when it is open. -/
def withVolume (s : State) (st : VState) : State :=
  s.modVol 0 fun v =>
    { v with
      data := rec1000 st, extentKnown := true, key := if st = .opened then 11 else 0, keyHeld := st = .opened
      idle := if st = .opened then some 120 else none }

/-- A request in slot 3 with parameters. -/
def req (k : Kind) (params : List Byte) : Request := { slot := 3, kind := k, offset := 0, params := params }

/-- The guard's inbox. -/
def withOrder (s : State) (o : GuardOrder) : State := s.modGuard fun g => { g with inbox := [o] }

/-- The credential unit's inbox. -/
def withEvent (s : State) (e : CredEvent) : State := s.modCred fun c => { c with inbox := [e] }

/-- The engine's inbox. -/
def withEngine (s : State) (e : EngineEvent) : State := s.modErase fun x => { x with inbox := [e] }

/-- The lockout unit's inbox. -/
def withLock (s : State) (e : LockEvent) : State := s.modLockout fun l => { l with inbox := [e] }

/-- The key queue. -/
def withKey (s : State) (e : KeyEvent) : State := s.modKeypad fun k => { k with queue := [e] }

/-- The assembler. -/
def withAsm (s : State) (a : Assembler) (n : Nat) : State :=
  s.modKeypad fun k => { k with asm := a, buffer := List.replicate n 1, timeout := some 0 }

/-- The admin window OPEN for slot 0. -/
def windowed (s : State) (held : Bool) (left : Nat) : State :=
  s.modCred fun c => { c with window := some ⟨0, left, held⟩, adminKey := 7 }

/-- A slot of a role, its verifier 0. -/
def withSlot (s : State) (i : CSlot) (r : Role) : State := s.setSlot i { role := r, bind := 1 }

/-- An enrollment of a USER slot. -/
def enrolling (s : State) (st : EnrollStage) (first : Bool) : State :=
  s.modCred fun c =>
    { c with
      enroll := some ({ req := req .enroll [1, 1, 0, 1, 0], slot := 1, role := .user, readOnly := false, bind := 1, work := 0,
                        firstAdmin := first, pin := [1, 2, 3, 4, 5, 6], stage := st }) }

/-- An entry of volume 1 for the erase list. -/
def entry (wipe : Bool) (index next : Nat) : EraseEntry :=
  { vol := 0, plan := .full, wipe := wipe, stopOnFault := false, share := 4, action := .none
    passes := [.key, .fill, .verify, .discard], passIndex := index, nextStripe := next, begun := true }

/-- A state with volume 1 ERASING and its entry at the head. -/
def erasing (e : EraseEntry) : State := (withVolume ready .erasing).modErase fun x => { x with list := [e] }

/-- A link command in flight. -/
def flight (cmd : LinkCmd) (owner : Requester) (count : Nat) : InFlight :=
  { cmd := cmd, first := 0, count := count, owner := owner, expect := 100, left := 5 }

/-- A state with a command in flight. -/
def flying (s : State) (f : InFlight) : State := s.modLink fun l => { l with state := .busy, inFlight := some f }

/-- An active sector request for volume 1 in a phase. -/
def serving (s : State) (write : Bool) (p : Phase) (count : Nat) : State :=
  (s.modExch fun x =>
    { x with sectorQ := [req (if write then .writeSectors else .readSectors) [1, 0, 1, 0, 0, 0, 0, 0]] }).modSector fun q =>
    { q with phase := p, slot := 3, write := write, count := count }

/-- The record of a domain locked out. -/
def locked (left : Nat) : DomainState := { f := 6, flag := true, lockedOut := true, left := left, step := 1, inputs := ⟨5, 30, 3600, 20⟩ }

/-- A commit in progress with its waiters. -/
def committing (s : State) (r : Rec) (ws : List Waiter) (retrying : Bool) : State :=
  s.modStore fun x => { x with current := some ⟨r, ws⟩, retrying := retrying }

/-! ### Cases worked in the data book -/

/-- The table of R60. -/
theorem test_remaining_report :
    [36000, 1800, 901, 900, 636, 635, 6, 5, 1].map (fun n => remainingReport (locked n)) =
      [(true, 120), (true, 6), (true, 4), (true, 3), (true, 3), (false, 127), (false, 2), (false, 1), (false, 1)] := by
  decide +kernel

/-- The steps under the RECOVERY defaults last 60, 120, 240, 480, 960 and 1920 s (R55). -/
theorem test_lockout_steps :
    [1, 2, 3, 4, 5, 6].map (lockoutSeconds (sampleInputs Policy.defaults.recovery)) = [60, 120, 240, 480, 960, 1920] := by
  decide +kernel

/-- With A = 15, a W of 10 is used as 16; with A = 1, a W of 1 is used as 2 (R50). -/
theorem test_wipe_clamp : clampW 15 10 = 16 ∧ clampW 1 1 = 2 ∧ clampW 5 200 = 63 ∧ clampW 5 0 = 0 := by decide

/-- A volume of 1,000 sectors has four stripes, the last of 232 sectors (R107). -/
theorem test_stripes : stripes 1000 = 4 ∧ stripeLength 1000 3 = 232 ∧ stripeLength 1000 2 = 256 ∧ stripes 512 = 2 := by
  decide

/-- A CLEAR entry not yet begun, merged with FULL, has the sequence of a new FULL entry (R113). -/
theorem test_merge_unbegun :
    (EraseEntry.merge { entry false 1 0 with plan := .clear, passes := [.key, .discard], begun := false } .full false).passes =
      [.key, .fill, .verify, .discard] := by decide

/-- A CLEAR head at DISCARD stripe 5, merged with FULL, goes on from stripe 5 and has FILL and VERIFY after it (R113). -/
theorem test_merge_begun :
    let e := EraseEntry.merge { entry false 1 5 with plan := .clear, passes := [.key, .discard] } .full false
    e.passes = [.key, .discard, .fill, .verify] ∧ e.passIndex = 1 ∧ e.nextStripe = 5 := by decide

/-- A FULL entry merged with QUICK keeps its sequence (R113). -/
theorem test_merge_weaker : (EraseEntry.merge (entry false 2 3) .quick false) = entry false 2 3 := by decide

/-- A QUICK entry whose KEY pass is done, merged with CLEAR by a wipe, goes on at DISCARD as a WIPE entry (R113). -/
theorem test_merge_grows :
    let e := EraseEntry.merge { entry false 1 0 with plan := .quick, passes := [.key], begun := false } .clear true
    e.passes = [.key, .discard] ∧ e.passIndex = 1 ∧ e.nextStripe = 0 ∧ e.wipe = true ∧ e.plan = .clear := by decide

/-- A REQUEST head with share 4 loses four decisions in a row and wins the fifth; a WIPE head wins each (R103). -/
theorem test_share :
    arbitrate [entry false 1 0] 3 = (.sector, 4) ∧ arbitrate [entry false 1 0] 4 = (.engine, 0) ∧
      arbitrate [entry true 1 0] 0 = (.engine, 0) := by decide

/-- A reading that falls from 115 to 105 leaves the condition CRITICAL (R136). -/
theorem test_stays_critical : classify .critical 105 80 70 = (.critical, none) := by decide

/-- A jump to 110 moves NORMAL straight to CRITICAL with the one critical signal (R136). -/
theorem test_jump_critical : classify .normal 110 80 70 = (.critical, some .critical) := by decide

/-- A count of 0 inside the extent passes check 9 and fails check 10; so does a count of 17 that fits (R15). -/
theorem test_guard_counts :
    (withVolume ready .opened).guardDecision (req .readSectors [1, 0, 0, 0, 0, 0, 0, 0]) = some .badParam ∧
      (withVolume ready .opened).guardDecision (req .readSectors [1, 0, 17, 0, 0, 0, 0, 0]) = some .badParam ∧
      (withVolume ready .opened).guardDecision (req .readSectors [1, 0, 1, 0, 0xE8, 3, 0, 0]) = some .range := by decide +kernel

/-- The five registers right after start-up (R175). -/
theorem test_registers :
    State.reset.regRead 0 = some 0x0C474601 ∧ State.reset.regRead 4 = some 0 ∧ State.reset.regRead 3 = some 0 := by decide +kernel

/-- SCAN_CFG: RUN with code 0 is stored as 0; with code 3 the timer starts at 5 ms (R163). -/
theorem test_scan_cfg :
    (ready.after (exec (.scanCfgWrite 0x10) ready)).exch.run = false ∧
      (ready.after (exec (.scanCfgWrite 0x33) ready)).exch.scanLeft = 5 ∧
      (ready.after (exec (.scanCfgWrite 0x33) ready)).scanCfg = 0x33 := by decide +kernel

/-- A word's least significant byte lies lowest, and the two lowest address bits are ignored (R159). -/
theorem test_word_order :
    readByte (ready.after (exec (.portWordWrite 0x1006 0x44332211) ready)).exch.mem 0x1004 = 0x11 := by decide +kernel

/-- The owner of a held slot keeps TAKEN under a port write, whose other bytes are written (R161). -/
theorem test_held_owner :
    let s := (ready.setOwner 1 2).modExch fun x => { x with held := 2 }
    (s.after (exec (.portWordWrite 0x40 0x44332201) s)).slotByte 1 0 = 2 ∧
      (s.after (exec (.portWordWrite 0x40 0x44332201) s)).slotByte 1 1 = 0x22 := by decide +kernel

/-- A write of ATTN clears the flags written 1 (R174). -/
theorem test_attn_clear :
    ((ready.attend .done).attend .link).after (exec (.attnWrite 1) ((ready.attend .done).attend .link)) =
      ready.attend .link := by decide +kernel

/-- With all eight keys of the queue taken, a ninth event is dropped and the marker stands at the tail (R71). -/
theorem test_overrun :
    let s := (List.range 9).foldl (fun t _ => t.pushKey .chord) ready
    s.keypad.queue.length = 8 ∧ s.keypad.marker = some 8 := by decide +kernel

/-- 2t ≥ E and t ≤ 2E are accepted, one unit outside either is not (R120). -/
theorem test_pace : paceAccepts 100 50 = true ∧ paceAccepts 100 49 = false ∧ paceAccepts 100 200 = true ∧
    paceAccepts 100 201 = false := by decide

/-- HALTED shows before every other pattern (R85). -/
theorem test_pattern_halted : ({ ready with device := .halted } : State).patternNow = 1 := by decide +kernel

/-- Nine POSTED commands in one scan: four are taken into the control queue, the others stay POSTED (R164, R165). -/
theorem test_scan_room :
    let s := (List.finRange 9).foldl (fun (t : State) (n : Fin 9) =>
      t.modExch fun x => { x with mem := writeBytes x.mem (64 * n.val) [1, 0x20] }) ready
    let t := s.after (exec (.scanWrite 0) s)
    t.exch.controlQ.length = 4 ∧ t.slotByte 3 0 = 2 ∧ t.slotByte 4 0 = 1 ∧ t.exch.takePtr = 3 := by decide +kernel

/-- A LOCKED volume opens to OPEN for a READ_WRITE slot (R5). -/
theorem test_open :
    let s := withOrder (withVolume ready .locked) (.openVolume 0 11 2 true)
    ((s.after (exec .openOrder s)).vol 0).data.state = .opened ∧
      ((s.after (exec .openOrder s)).vol 0).idle = some 120 := by decide +kernel

/-- A lock zeroes the key register (R7). -/
theorem test_lock :
    let s := withOrder (withVolume ready .opened) (.lock 1)
    ((s.after (exec .lockOrder s)).vol 0).key = 0 ∧ ((s.after (exec .lockOrder s)).vol 0).data.state = .locked := by
  decide +kernel

/-- The table gives no row any bits, so no word spells a command. -/
theorem test_no_word : decodeTableWord 32 0 = none := by decide

/-! ### Witnesses: for each statement a state that meets the hypotheses of each of its clauses -/

/-- An outcome is a next state. -/
def isNext : Host.Outcome State Fault Refusal → Bool
  | .next _ => true
  | _ => false

theorem next_of {o : Host.Outcome State Fault Refusal} (h : isNext o = true) : ∃ t, o = .next t := by
  cases o with
  | next t => exact ⟨t, rfl⟩
  | _ => cases h

/-- A block's signals. -/
def signalled (s : State) (b : Block) (x : Signal) : State := s.hand x b

/-- A part that has just become HALTED, no block having taken it yet. -/
def halting (s : State) : State := { s with device := .halted }

/-- A part in HALTED, every block having taken it. -/
def halted (s : State) : State :=
  (((halting s).modCred fun c => { c with halted := true }).modLockout fun l => { l with halted := true }).modKeypad fun k =>
    { k with halted := true }

/-- A part whose start-up has come to a step. -/
def startingAt (n : Nat) : State := { State.reset with startUp := { next := n } }

/-- A request at the guard. -/
def guardReq (s : State) (k : Kind) (params : List Byte) : State := withOrder s (.request (req k params))

/-- A request at the erase engine. -/
def engineReq (k : Kind) (params : List Byte) : State := withEngine (windowed ready false 9) (.request (req k params))

/-- A domain record at the NORMAL domain. -/
def normalAt (d : DomainState) : State := ready.modLockout fun l => { l with normal := d }

/-- A search of a verification at slot 1. -/
def trying (s : State) (digits : List Digit) : State :=
  s.modCred fun c =>
    { c with
      verify := some { digits := digits, domain := .normal, cadence := false, phase := .trying 1 false }
      deriv := some ⟨digits, 0, 0, 1⟩ }

/-- A READY link that nobody holds, with what asks for it. -/
def linkOpen (s : State) (sector engine : Bool) : State :=
  s.modLink fun l => { l with state := .ready, inFlight := none, granted := none, sectorAsks := sector, engineAsks := engine }

/-- A RUNNING engine with a head, nothing in flight and nothing that holds it, at a link that decides on its request at once. -/
def runs (u : State) : Bool :=
  u.erase.state = .running && u.erase.job = .none && u.erase.flying.isNone && u.device ≠ .starting && u.device ≠ .halted &&
    u.eraseHead.isSome && u.linkServes && u.link.open_ && !u.link.engineAsks

/-- A keypad order. -/
def ordered (s : State) (o : KeyOrder) : State := s.modKeypad fun k => { k with inbox := [o] }

/-- A part without power, and one held in RESET. -/
theorem witness_StoppedPartDoesNothing :
    ∀ p ∈ [PowerState.off, .inReset], ({ ready with power := p } : State).alive = false ∧
      ({ ready with power := p } : State).pending = [] ∧ resets .identify = false ∧ tellsOutside .identify = false := by decide +kernel

/-- A HALTED part with a command in front, and one with none. -/
theorem witness_HaltedIsLeftByResetAlone :
    (∀ q ∈ [[], [Instr.identify]], ({ halted ready with pending := q } : State).device = .halted ∧ (q.all fun c => !resets c) = true) ∧
      (∃ t, step (halted ready) = .next t) ∧ ∃ t, step { halted ready with pending := [.identify] } = .next t := ⟨by decide, next_of (by decide +kernel), next_of (by decide +kernel)⟩

/-- Every law holds in a state with an open volume, an open window, a lockout and an entry, and its step answers a next state. -/
theorem witness_laws :
    let s : State :=
      { (((withVolume (windowed ready true 300) .opened).modErase fun x => { x with list := [entry false 1 0] }).modLockout fun l =>
          { l with normal := locked 36000 }) with pending := [.lockoutTick] }
    (s.memOk && s.keysOk && s.windowOk && s.workOk && s.domainsOk && s.keyQueueOk && s.queuesOk && s.commitsOk && s.supplyOk &&
      s.listOk) = true ∧ ∃ t, step s = .next t := ⟨by decide +kernel, next_of (by decide +kernel)⟩

/-- With power on; with a commit in progress and another record; with none; without power. -/
theorem witness_ResetAndStartUp :
    ready.power ≠ .off ∧ ready.store.current = none ∧
      (committing ready (.domain .normal ⟨1, false⟩) [] false).store.current = some ⟨.domain .normal ⟨1, false⟩, []⟩ ∧
      (Rec.domain .normal ⟨1, false⟩).id ≠ .device ∧ ({ ready with power := .off } : State).alive = false := by decide +kernel

/-- Step 2 is due after reset, with intact records; with each record that is written back damaged; with a stored entry whose
cursor is at a stripe and with its volume's entry missing. -/
theorem witness_LoadingTheRecords :
    let with_ (nv : NvArray) : State := { State.reset with store := { State.reset.store with nv := nv } }
    let f := NvArray.factory
    let vols := f.volumes.set 0 ⟨true, rec1000 .erasing⟩
    (∀ s ∈ [State.reset, with_ { f with normal := { f.normal with ok := false } }, with_ { f with recovery := { f.recovery with ok := false } },
        with_ { f with policy := { f.policy with ok := false } }, with_ { f with device := { f.device with ok := false } },
        with_ { f with volumes := vols, eraseList := ⟨true, [entry false 1 5]⟩ }, with_ { f with volumes := vols }], s.stepDue 2 = true) ∧
      State.reset.store.nv.device.ok = true ∧ (with_ { f with normal := { f.normal with ok := false } }).store.nv.damage ≠ 0 ∧
      listSound [entry false 1 5] = true := by decide +kernel

/-- Wrap healing at a slot; a stored entry whose volume is BLANK, one whose volume is LOCKED, alone and before one that goes on; a
damaged list. -/
theorem witness_LoadingTheRecords_repairs :
    let with_ (nv : NvArray) : State := { State.reset with store := { State.reset.store with nv := nv } }
    let f := NvArray.factory
    let e : EraseEntry := entry true 1 5
    let vol (st : VState) : NvArray := { f with volumes := f.volumes.set 0 ⟨true, rec1000 st⟩, eraseList := ⟨true, [e]⟩ }
    let healed := with_ { f with slots := f.slots.set 1 ⟨true, { role := .user, bind := 1, wraps := [⟨0, 1, 2⟩] }⟩ }
    let two := with_ { vol .locked with volumes := (vol .locked).volumes.set 1 ⟨true, rec1000 .erasing⟩,
                                        eraseList := ⟨true, [e, { e with vol := 1 }]⟩ }
    let lost := with_ { vol .erasing with eraseList := ⟨false, []⟩ }
    let t (s : State) : State := s.after (exec .loadRecords s)
    (∀ s ∈ [healed, with_ (vol .blank), with_ (vol .locked), two, lost], s.stepDue 2 = true) ∧
      ((t healed).cslot 1).wraps = [] ∧ ((t healed).cslot 1).bind = 0 ∧ loadSlot healed.store.nv.slots[1] ≠ (t healed).cslot 1 ∧
      (∀ st ∈ [VState.blank, .locked], listSound (with_ (vol st)).store.nv.eraseList.val = true ∧ (t (with_ (vol st))).erase.list = []) ∧
      (t (with_ (vol .blank))).attending .erase = false ∧ (t (with_ (vol .locked))).attending .erase = true ∧
      ((t two).eraseHead.map EraseEntry.vol) = some 1 ∧ lost.store.nv.eraseList.intact listSound = false ∧
      ((t lost).eraseHead.map EraseEntry.vol) = some 0 := by decide +kernel

/-- Step 3 is due: without orphans, and with one. -/
theorem witness_OrphansAreWiped :
    (startingAt 3).stepDue 3 = true ∧ (startingAt 3).engineFree = true ∧ (startingAt 3).orphans = [] ∧
      (withVolume (startingAt 3) .locked).stepDue 3 = true ∧ (withVolume (startingAt 3) .locked).orphans = [0] := by decide +kernel

/-- An event older than the orphans' trigger at the engine, the engine held, and the trigger at the front when its turn has come, at
work and in HALTED. -/
theorem witness_OrphansAreWiped_turn :
    let s : State := withVolume (startingAt 3) .locked
    let w : State := withEngine s (.signal .warning)
    let h : State := s.modErase fun e => { e with job := .endGuard 1 }
    let x : State := withEngine (withVolume (startingAt 4) .locked) (.orphans [0])
    w.stepDue 3 = true ∧ w.orphans = [0] ∧ w.erase.inbox = [.signal .warning] ∧ (EngineEvent.signal .warning).isOrphans = false ∧
      s.erase.inbox = [] ∧ s.engineFree = true ∧ s.alive = true ∧ h.stepDue 3 = true ∧ h.orphans = [0] ∧ h.engineFree = false ∧
      (startingAt 3).orphansTaken = true ∧ (startingAt 4).stepDue 3 = false ∧ (startingAt 4).erase.inbox = [] ∧
      x.stepDue 3 = false ∧ x.engineFree = true ∧ x.erase.inbox = [.orphans [0]] ∧ x.device ≠ .halted ∧ x.walk .orphan 0 = .accept ∧
      (halting x).device = .halted ∧ (halting x).stepDue 3 = false ∧ (halting x).engineFree = true := by decide +kernel

/-- The trigger of the orphan check waits behind a supply warning at the engine, and step 4 waits for it (R110, R154). -/
theorem test_orphans_behind_warning :
    let s : State := withEngine (withVolume (startingAt 3) .locked) (.signal .warning)
    let t := s.after (exec .orphanCheck s)
    let u := t.after (exec (.warningTaken .engine) t)
    t.erase.inbox = [.signal .warning, .orphans [0]] ∧ t.after (exec .lockoutExamination t) = t ∧ t.after (exec .orphanCheck t) = t ∧
      (u.after (exec .orphanCheck u)).erase.inbox = [] ∧ (u.after (exec .orphanCheck u)).guard.inbox = [.lock 1] := by decide +kernel

/-- A BLANK volume is erased again by a request and a WIPE slot alone; a listed one is merged but by a brute force (R111). -/
theorem test_walk :
    let b := withVolume ready .blank
    let e := erasing (entry false 1 0)
    [AcceptSource.request (req .erase []), .wipeSlot, .brute, .chord].map (fun x => b.walk x 0) = [.accept, .accept, .pass, .pass] ∧
      [AcceptSource.request (req .erase []), .wipeSlot, .brute, .chord].map (fun x => e.walk x 0) = [.merge, .merge, .pass, .merge] := by
  decide +kernel

/-- Step 4 is due: no domain at its threshold; NORMAL at it (W = 20); RECOVERY at it (W = 10). -/
theorem witness_LockoutExamination :
    let due (s : State) : Prop :=
      s.stepDue 4 = true ∧ s.startUp.examining = none ∧ s.lockoutFree = true ∧ s.engineFree = true ∧ s.orphansTaken = true
    let n := (startingAt 4).modLockout fun l => { l with normal := { l.normal with f := 20 } }
    let r := (startingAt 4).modLockout fun l => { l with recovery := { l.recovery with f := 10 } }
    due (startingAt 4) ∧ due n ∧ due r ∧ (withEngine (startingAt 4) (.orphans [0])).orphansTaken = false ∧ (sampleInputs (n.store.policy.domain .normal)).w = 20 ∧
      (sampleInputs (r.store.policy.domain .recovery)).w = 10 := by decide +kernel

/-- Step 6: with no ADMIN slot, with one and an unprovisioned part, with a scan pending; begun and then warned; with work left. -/
theorem witness_LeavingStarting :
    let at6 (s : State) : Prop :=
      s.alive = true ∧ s.device = .starting ∧ s.startUp.next = 6 ∧ (s.supply.cond = .good ∨ s.startUp.sixBegun = true)
    let due (s : State) : Prop := at6 s ∧ s.workDone = true ∧ s.startUp.deviceCommit = false
    let a := withSlot (startingAt 6) 0 .admin
    let warned : State := { startingAt 6 with supply := { cond := .warning, count := 0 }, startUp := { next := 6, sixBegun := true } }
    let pending := (startingAt 6).modExch fun x => { x with scanPending := true }
    due (startingAt 6) ∧ (startingAt 6).adminSlot = false ∧ due a ∧ (a.adminSlot && !a.store.device.provisioned) = true ∧ due warned ∧
      due pending ∧ pending.exch.warned = false ∧
      at6 (committing (startingAt 6) (.domain .normal ⟨1, false⟩) [] false) ∧
      (committing (startingAt 6) (.domain .normal ⟨1, false⟩) [] false).workDone = false := by decide +kernel

/-- Step 6 with an entry at the head, its pass left and its passes run, and the link open: the engine runs (R127, R118). -/
theorem witness_LeavingStarting_run :
    let s (i : Nat) : State := (linkOpen (withVolume (withSlot (startingAt 6) 0 .admin) .erasing) false false).modErase fun x =>
      { x with list := [entry false i 0] }
    let p (i : Nat) : State := (s i).modStore fun x => { x with device := { x.device with provisioned := true } }
    let t (i : Nat) : State := (p i).after (exec (.leaveStarting 20) (p i))
    (∀ i ∈ [1, 4], (p i).workDone = true ∧ (p i).startUp.deviceCommit = false ∧ (p i).device = .starting ∧
      runs { p i with device := .ready } = true) ∧ (t 1).link.granted = some .engine ∧ (t 4).erase.job = .endGuard 0 := by decide +kernel

/-- Each condition of a part at work; the recovery count at 99 and at 100. -/
theorem witness_SupplyConditionChanges :
    (∀ c ∈ [SupplyCond.good, .warning, .recovering],
      ({ ready with supply := { cond := c, count := 0 } } : State).alive = true ∧
        ({ ready with supply := { cond := c, count := 0 } } : State).supply.cond = c) ∧
      ({ ready with supply := { cond := .recovering, count := 99 } } : State).supply.count < 100 ∧
      100 ≤ ({ ready with supply := { cond := .recovering, count := 100 } } : State).supply.count := by decide +kernel

/-- At a count of 99 the supply does not recover (R141). -/
theorem test_recovery_count :
    let s (n : Nat) : State := { ready with supply := { cond := .recovering, count := n } }
    (s 99).after (exec .supplyRecovery (s 99)) = s 99 ∧ ((s 100).after (exec .supplyRecovery (s 100))).supply.cond = .good := by
  decide +kernel

/-- Every block takes a warning; one held, or at which an older order or event waits, does not take it yet. -/
theorem witness_WarningAtEachBlock :
    (∀ b ∈ allBlocks, (signalled ready b .warning).alive = true ∧ (signalled ready b .warning).memOk = true ∧
      (signalled ready b .warning).takes b = true ∧ (signalled ready b .warning).signalsAt b = [.warning]) ∧
      (signalled (ready.tellGuard (.lock 1)) .guard .warning).takes .guard = false ∧
      (signalled (ready.tellCred .tick) .credential .warning).takes .credential = false ∧
      (signalled (ready.tellLockout (.charge .normal)) .lockout .warning).takes .lockout = false ∧
      (signalled (ready.tellKeypad .enroll) .keypad .warning).takes .keypad = false ∧
      (signalled (ready.tellEngine .brute) .engine .warning).takes .engine = false := by decide +kernel

/-- A LOCK order that stood at the guard before a supply warning is taken before it (R4, R140). -/
theorem test_order_before_warning :
    let s := signalled (ready.tellGuard (.lock 1)) .guard .warning
    s.after (exec (.warningTaken .guard) s) = s ∧
      ((s.after (exec .lockOrder s)).after (exec (.warningTaken .guard) (s.after (exec .lockOrder s)))).guard.warned = true := by
  decide +kernel

/-- An open window, an enrollment before its commit, a search, an entry, a sector command in flight, a request that waits
for a grant, and an entry with none of its commands in flight. -/
theorem witness_WarningAtEachBlock_work :
    (windowed ready false 1).cred.window.isSome = true ∧ (enrolling ready .first false).cred.enroll.any (fun e => !e.committed) = true ∧
      (trying ready [1]).cred.verify.any (fun v => v.phase = .trying 1 false) = true ∧ (withAsm ready .digits 1).keypad.asm.entering = true ∧
      (serving ready false .inFlight 1).sector.phase = .inFlight ∧ (serving ready false .waitingGrant 1).sectorHead.isSome = true ∧
      (erasing (entry false 1 0)).erase.supplyHold = false ∧ (erasing (entry false 1 0)).eraseHead.isSome = true := by decide +kernel

/-- Every block takes a recovery; the link in FAULT with nothing in flight; READY and free with either, both or none of its
requesters asking, and with an engine that wants a stripe; a scan pending. -/
theorem witness_RecoveryAtEachBlock :
    (∀ b ∈ allBlocks, (signalled ready b .recovery).alive = true ∧ (signalled ready b .recovery).takes b = true ∧
      (signalled ready b .recovery).signalsAt b = [.recovery]) ∧
      (ready.modLink fun l => { l with state := .fault }).link.inFlight = none ∧
      (∀ a ∈ [true, false], ∀ b ∈ [true, false],
        (ready.modLink fun l => { l with state := .ready, sectorAsks := a, engineAsks := b }).link.open_ = true) ∧
      ready.engineWants = false ∧ (erasing (entry false 1 0)).engineWants = true ∧
      (signalled (ready.modExch fun x => { x with scanPending := true, warned := true }) .exchange .recovery).exch.scanPending = true ∧
      (signalled ((flying ready (identCommand true)).modLink fun l => { l with state := .fault }) .link .recovery).link.inFlight ≠ none := by
  decide +kernel

/-- The engine's recovery at work, with the link open, and in HALTED, where the hold is cleared and nothing asked for (R125, R132). -/
theorem witness_RecoveryAtEachBlock_run :
    let s (u : State) : State := signalled ((linkOpen u false false).modErase fun x => { x with supplyHold := true }) .engine .recovery
    let t (u : State) : State := (s u).after (exec (.recoveryTaken .engine) (s u))
    let e := erasing (entry false 1 0)
    runs { s e with erase := { (s e).erase with supplyHold := false } } = true ∧ (t e).link.granted = some .engine ∧
      (s (halted e)).takes .engine = true ∧ (t (halted e)).erase.supplyHold = false ∧ (t (halted e)).link.granted = none := by
  decide +kernel

/-- Every block takes a HALT order; the lockout unit also while it waits for an acceptance, the engine with a request. -/
theorem witness_HaltAtEachBlock :
    (∀ b ∈ allBlocks, (signalled (halting ready) b .halt).alive = true ∧ (signalled (halting ready) b .halt).memOk = true ∧
      (signalled (halting ready) b .halt).takes b = true ∧ (signalled (halting ready) b .halt).signalsAt b = [.halt]) ∧
      (Job.abortReply (req .eraseControl [3])).request.isSome = true := by decide +kernel

/-- A lockout unit and an engine that are held, a warning before their HALT order; a request taken before HALTED and one after. -/
theorem witness_HaltAtEachBlock_held :
    let l : State := (halting ready).modLockout fun l => { l with wait := .wipe .normal }
    let e : State := (halting ready).modErase fun x => { x with job := .abortReply (req .eraseControl [3]) }
    let both (s : State) (b : Block) : State := signalled (signalled s b .warning) b .halt
    let q := (halting ready).modExch fun x => { x with controlQ := [req .lock [1], { req .identify [] with slot := 9, late := true }] }
    (∀ p ∈ [(l, Block.lockout), (e, .engine)], (both p.1 p.2).takes p.2 = false ∧ (both p.1 p.2).haltsHeld p.2 = true ∧
      (both p.1 p.2).signalsAt p.2 = [.warning, .halt]) ∧
      q.waitingRequests .halted = [req .lock [1]] ∧ q.exch.controlQ.length = 2 := by decide +kernel

/-- A HALT order ends the wait of a lockout unit that a warning has reached first (R58), but not the wait of one whose acceptance
was reported before it (R49). -/
theorem test_halt_passes_warning :
    let l : State := (halting ready).modLockout fun l => { l with wait := .wipe .normal }
    let s := signalled (signalled l .lockout .warning) .lockout .halt
    let u := signalled (l.tellLockout .accepted) .lockout .halt
    (s.after (exec (.haltOrder .lockout) s)).lockout.wait = .free ∧ u.after (exec (.haltOrder .lockout) u) = u := by
  decide +kernel

/-- A charge that reached the lockout unit before the entry to HALTED is counted, one after it is not (R49, R63). -/
theorem test_charge_before_halt :
    let s := signalled ((halting ready).tellLockout (.charge .normal)) .lockout .halt
    let u := signalled (halting ready) .lockout .halt
    let v := (u.after (exec (.haltOrder .lockout) u)).tellLockout (.charge .normal)
    (s.after (exec .charge s)).lockout.normal.f = 1 ∧ (v.after (exec .charge v)).lockout.normal.f = 0 ∧
      (v.after (exec .charge v)).lockout.inbox = [] := by
  decide +kernel

/-- A part at work in READY, one in STARTING; a reading that changes the condition and one that does not. -/
theorem witness_TemperatureSamples :
    ready.alive = true ∧ ready.device ≠ .starting ∧ State.reset.alive = true ∧ State.reset.device = .starting ∧
      classify .normal 80 80 70 = (.hot, some .hot) ∧ classify .normal 79 80 70 = (.normal, none) := by decide +kernel

/-- The engine and the guard take each of the signals handed to them, the engine in HALTED too. -/
theorem witness_TemperatureSignals :
    (∀ x ∈ [Signal.hot, .critical, .release], (signalled ready .engine x).alive = true ∧ (signalled ready .engine x).takes .engine = true ∧
      (signalled ready .engine x).signalsAt .engine = [x]) ∧
      (∀ x ∈ [Signal.hot, .critical, .release], (signalled (halted ready) .engine x).device = .halted ∧
        (signalled (halted ready) .engine x).takes .engine = true ∧ (signalled (halted ready) .engine x).signalsAt .engine = [x]) ∧
      ∀ x ∈ [Signal.critical, .release], (signalled ready .guard x).takes .guard = true ∧ (signalled ready .guard x).signalsAt .guard = [x] := by decide +kernel

/-- The release with the link open, the sector path asking for it or not; a command in flight; in HALTED the holds follow the signals,
and no checkpoint is queued (R125, R126, R137, R132). -/
theorem witness_TemperatureSignals_run :
    let s (u : State) (hold : Bool) (x : Signal) : State := signalled (u.modErase fun e => { e with thermalHold := hold }) .engine x
    let e := erasing (entry false 1 0)
    let r (a : Bool) : State := s (linkOpen e a false) true .release
    let f := s (e.modErase fun x => { x with flying := some 0 }) false .hot
    let h := s (halted e) false .hot
    let k := s (halted e) true .release
    (∀ a ∈ [true, false], (r a).takes .engine = true ∧ runs { r a with erase := { (r a).erase with thermalHold := false } } = true ∧
      ((r a).after (exec (.releaseSignal .engine) (r a))).link.granted = some (if a then .sector else .engine)) ∧
      f.takes .engine = true ∧ f.erase.flying ≠ none ∧ (f.after (exec .hotSignal f)).erase.due = true ∧
      (h.after (exec .hotSignal h)).erase.thermalHold = true ∧ (h.after (exec .hotSignal h)).store.current = none ∧
      (k.after (exec (.releaseSignal .engine) k)).erase.thermalHold = false := by decide +kernel

/-- A part at work; its last word, the first beyond the buffers, and those of the page's ends. -/
theorem witness_PortWrites :
    ready.alive = true ∧ ready.memOk = true ∧
      [0x2FFC, 0x3000, 0x7FC, 0x800, 0xFFC, 0x1000].map (fun a => decide (a < 0x3000 ∧ ¬(0x800 ≤ a ∧ a < 0x1000))) =
        [true, false, true, false, false, true] := by decide +kernel

/-- A part at work, its timer running; a POSTED slot of a bad kind, of a bad chain, of a good kind, in HALTED, and a follower. -/
theorem witness_ScansTakePostedSlots :
    let posted (s : State) (n : RSlot) (bytes : List Byte) : State := s.modExch fun x => { x with mem := writeBytes x.mem (slotAddr n) bytes }
    let ok (s : State) : Prop := s.memOk = true ∧ s.exch.warned = false ∧ s.posted 31 = true ∧ s.isFollower 31 = false
    ready.alive = true ∧ (ready.modExch fun x => { x with run := true }).exch.run = true ∧
      ok (posted ready 31 [1, 0xFF]) ∧ (posted ready 31 [1, 0xFF]).slotKind 31 = none ∧
      ok (posted ready 31 [1, 1, 1]) ∧ (posted ready 31 [1, 1, 1]).slotOffset 31 = 1 ∧
      ok (posted ready 31 [1, 0x20]) ∧ (posted ready 31 [1, 0x20]).slotKind 31 = some .lock ∧
      ok (posted (halted ready) 31 [1, 0x20]) ∧ (posted ready 31 [1, 1, 0, 1]).isFollower 31 = true := by decide +kernel

/-- Requests whose chains go one slot up to a follower that is posted, one slot down, and the furthest each way. -/
theorem witness_CompletionSettlesTheChain :
    let r : Request := { req .identify [] with offset := 1 }
    let s := ready.modExch fun x => { x with mem := writeBytes x.mem (slotAddr 4) [1, 1, 0, 1] }
    s.memOk = true ∧ ((4 : RSlot).val : Int) = r.slot.val + r.offset ∧ s.posted 4 = true ∧ s.isFollower 4 = true ∧
      ((2 : RSlot).val : Int) = r.slot.val + -1 ∧ ready.posted 2 = false ∧
      ((0 : RSlot).val : Int) = (16 : RSlot).val + -16 ∧ ((31 : RSlot).val : Int) = (16 : RSlot).val + 15 := by decide +kernel

/-- A target that is taken: of a bad kind, with its chain out of range, under a warning, in HALTED, and queued with room and behind
a follower that waits. -/
theorem witness_CompletionSettlesTheChain_taken :
    let at_ (u : State) (bytes : List Byte) : State := u.modExch fun x => { x with mem := writeBytes x.mem (slotAddr 4) bytes }
    let ok (s : State) : Prop := s.memOk = true ∧ s.posted 4 = true ∧ s.isFollower 4 = true ∧ s.slotCond 4 = 0
    let w (u : State) : State := u.modExch fun x => { x with warned := true }
    let full : State := ready.modExch fun x => { x with followers := [{ req .lock [1] with slot := 9 }] }
    (∀ s ∈ [at_ ready [1, 0xFF, 0, 1], at_ ready [1, 1, 28, 1], at_ (w ready) [1, 0x20, 0, 1], at_ (halted ready) [1, 0x20, 0, 1],
        at_ ready [1, 0x20, 0, 1], at_ full [1, 0x20, 0, 1]], ok s) ∧
      kindOfCode 0xFF = none ∧ kindOfCode 0x20 = some .lock ∧ 31 < ((4 : RSlot).val : Int) + 28 ∧
      (full.exch.followers.any fun x => x.kind.queue = .control) = true ∧ ready.exch.controlQ.length < QueueId.control.room := by
  decide +kernel

/-- A target skipped by its condition, whose own chain names a POSTED follower, a slot that is none, or nothing. -/
theorem witness_CompletionSettlesTheChain_skipped :
    let two (u : State) (off owner : Byte) : State := u.modExch fun x =>
      { x with mem := writeBytes (writeBytes x.mem (slotAddr 4) [1, 1, off, 3]) (slotAddr 6) [owner, 1, 0, 1] }
    let r : Request := { req .identify [] with offset := 1 }
    let t (s : State) : State := s.complete r .badParam 0 []
    (∀ s ∈ [two ready 2 1, two ready 2 3, two ready 0 1], s.memOk = true ∧ s.posted 4 = true ∧ s.isFollower 4 = true ∧
      s.slotCond 4 = 1) ∧ (two ready 2 1).posted 6 = true ∧ (two ready 2 3).posted 6 = false ∧ ((6 : RSlot).val : Int) = (4 : RSlot).val + 2 ∧
      (t (two ready 2 1)).slotByte 6 32 = Status.skipped.code ∧ (t (two ready 2 1)).slotByte 4 33 = 2 ∧
      (t (two ready 2 3)).slotByte 4 33 = 3 := by decide +kernel

/-- The end of a control request with four others of its queue waiting: each kind that a block serves comes to the head, and the
oldest follower of the queue takes the room. -/
theorem witness_CompletionSettlesTheChain_room :
    let r : Request := { req .identify [] with begun := true }
    let q (k : Kind) : List Request := [r, { req k [1] with slot := 5 }, { req .lock [2] with slot := 6 }, { req .lock [4] with slot := 7 }]
    let s (k : Kind) : State := ready.modExch fun x =>
      { x with controlQ := q k, followers := [{ req .enroll [] with slot := 8 }, { req .lock [8] with slot := 9 }, { req .lock [9] with slot := 10 }] }
    let t (k : Kind) : State := (s k).complete r .ok 0 []
    (∀ k ∈ [Kind.setPolicy, .lock, .defineVolume, .deleteVolume, .revoke, .erase, .eraseControl, .identify], (s k).memOk = true ∧
      (t k).exch.controlQ.map Request.slot = [5, 6, 7, 9] ∧ (t k).exch.enrollQ.map Request.slot = [8] ∧
      (t k).exch.followers.map Request.slot = [10] ∧ ((t k).exch.controlQ.map Request.begun).head? = some (decide (k ≠ .identify))) ∧
      (t .erase).erase.inbox = [.request { req .erase [1] with slot := 5, begun := true }] ∧ (t .erase).guard.inbox = [] := by decide +kernel

/-- IDENTIFY at the head of the control queue. -/
theorem witness_ExchangeUnitRequests_identify :
    let s := ready.modExch fun x => { x with controlQ := [req .identify []] }
    s.alive = true ∧ s.memOk = true ∧ s.exch.controlQ = [req .identify []] := by decide +kernel

/-- CANCEL at the head of the control queue: of slot 32, and of slots POSTED, enrolling, waiting, and none of these. -/
theorem witness_ExchangeUnitRequests_cancel :
    let s (n : Byte) := ready.modExch fun x => { x with controlQ := [req .cancel [n], { req .lock [1] with slot := 5 }] }
    let e := (enrolling ready .first false).modExch fun x => { x with controlQ := [{ req .cancel [3] with slot := 7 }] }
    let p := (s 4).modExch fun x => { x with mem := writeBytes x.mem (slotAddr 4) [1] }
    (s 32).alive = true ∧ (s 32).memOk = true ∧ rslotOfNumber ((req .cancel [32]).byte 4).toNat = none ∧
      rslotOfNumber ((req .cancel [31]).byte 4).toNat = some 31 ∧ p.posted 4 = true ∧ p.memOk = true ∧
      e.posted 3 = false ∧ e.enrolling 3 = true ∧ e.credFree = true ∧
      (s 9).posted 9 = false ∧ (s 9).enrolling 9 = false ∧ ((s 9).cancellable.all fun x => x.slot ≠ 9) = true := by decide +kernel

/-- CANCEL of a request that enrolls: with the unit held, behind an older event, and behind two ticks. -/
theorem witness_ExchangeUnitRequests_turn :
    let e := (enrolling ready .first false).modExch fun x => { x with controlQ := [{ req .cancel [3] with slot := 7 }] }
    let h := e.modCred fun c => { c with wait := .removal 1 }
    let o := withEvent e (.removal 0)
    let k := e.modCred fun c => { c with inbox := [.tick, .tick] }
    e.enrolling 3 = true ∧ e.credReady = true ∧ h.enrolling 3 = true ∧ h.credFree = false ∧ o.enrolling 3 = true ∧
      o.cred.inbox = [.removal 0] ∧ (3 : RSlot) ≠ { req .cancel [3] with slot := 7 }.slot ∧ k.enrolling 3 = true ∧
      k.credFree = true ∧ k.cred.inbox = List.replicate 2 .tick := by decide +kernel

/-- A request behind the sector queue's head can be cancelled. -/
theorem witness_ExchangeUnitRequests_waiting :
    let s := (serving ready false .inFlight 1).modExch fun x => { x with sectorQ := x.sectorQ ++ [{ req .readSectors [1] with slot := 9 }] }
    s.posted 9 = false ∧ s.enrolling 9 = false ∧ (s.cancellable.any fun x => x.slot = 9) = true := by decide +kernel

/-- SET_POLICY with the store: HALTED, warned, the window CLOSED, the window OPEN. -/
theorem witness_SetPolicyIsChecked :
    let s (u : State) : State := u.modStore fun x => { x with settings := some (req .setPolicy []) }
    (s ready).alive = true ∧ (s ready).memOk = true ∧ (s (halted ready)).device = .halted ∧
      ((s ready).modStore fun x => { x with warned := true }).store.warned = true ∧ (s ready).credReady = true ∧
      (s ready).cred.window = none ∧ (s (windowed ready false 1)).credReady = true ∧
      (s (windowed ready false 1)).cred.window.isSome = true ∧ (s (windowed ready false 1)).storeTakes = true := by decide +kernel

/-- An open order for a LOCKED volume, an open one, and an ABSENT one. -/
theorem witness_OpenOrders :
    ∀ st ∈ [VState.locked, .openRo, .absent],
      let s := withOrder (withVolume ready st) (.openVolume 0 11 2 true)
      s.alive = true ∧ s.guardFree = true ∧ s.guard.inbox = [.openVolume 0 11 2 true] ∧ (s.vol 0).data.state = st := by decide +kernel

/-- A refused open order, the section as shown: nothing is reported (R4). -/
theorem witness_OpenOrders_refused :
    let s := withOrder ((halted (withVolume ready .locked)).reportVolumes.modExch fun x => { x with attn := 0 }) (.openVolume 0 11 2 true)
    let t := s.after (exec .openOrder s)
    s.alive = true ∧ s.guardFree = true ∧ t.page.volumes = s.page.volumes ∧ t.exch.attn = 0 := by decide +kernel

/-- An idle timer that runs out with an order waiting, or with the guard held, leaves its lock behind them (R4). -/
theorem witness_LocksAreOrdered_waiting :
    let s := withOrder (withVolume ready .opened) (.lock 0)
    let h := (withVolume ready .opened).modGuard fun g => { g with wait := .commits 1 .faulted }
    s.alive = true ∧ s.guardReady = false ∧ (s.vol 0).idle.isSome = true ∧ h.guardReady = false ∧ (h.vol 0).idle.isSome = true ∧
      (s.after (exec (.idleTimerExpiry 0) s)).guard.inbox = [.lock 0, .lock 1] := by decide +kernel

/-- A queue that is empty with no step due, a millisecond and a second of the timebase, a volume whose timer has 120 s and 1 s left,
the guard free and held; a signal at the head of the guard's inbox. -/
theorem witness_LocksAreOrdered_ticks :
    let s (n ms : Nat) : State := { (withVolume ready .opened).settle.modVol 0 fun v => { v with idle := some n } with msOfSecond := ms }
    (s 120 0).pending = [] ∧ (s 120 0).autoNext = none ∧ (s 120 0).alive = true ∧ (s 120 0).scanDue = false ∧
      (s 120 0).msOfSecond + 1 < 1000 ∧ (∀ n ∈ [120, 1], (s n 999).alive = true ∧ 1000 ≤ (s n 999).msOfSecond + 1 ∧
        ((s n 999).vol 0).idle = some n ∧ ((s n 999).vol 0).isOpen = true ∧ ((s n 999).vol 1).idle = none) ∧
      ((s 1 999).tick.vol 0).data.state = .locked ∧
      ((signalled (s 1 999) .guard .warning).tick.vol 0).idle = none ∧
      (signalled (s 1 999) .guard .warning).tick.guard.inbox = [.signal .warning, .lock 1] := by decide +kernel

/-- A step of its own due on an empty queue; a lock of a volume whose request holds a grant that it has not used, the engine asking or
not: the engine's grant stands ahead of the ERASE that the request's chain brings it (R91). -/
theorem witness_LocksAreOrdered_due :
    let d := (withOrder (withVolume ready .opened) (.lock 1)).settle
    let s (asks : Bool) : State :=
      ((serving (withVolume ready .opened) false .waitingGrant 1).modLink fun l =>
        { l with state := .ready, granted := some .sector, engineAsks := asks }).modExch fun x =>
        { x with sectorQ := x.sectorQ.map fun r => { r with offset := 1 }, mem := writeBytes x.mem (slotAddr 4) [1, 0x40, 0, 1] }
    let u (asks : Bool) : State := (s asks).lockVolume 0
    d.pending = [] ∧ d.autoNext = some .lockOrder ∧ (s true).memOk = true ∧ ((s true).vol 0).isOpen = true ∧ (s true).sectorHead.isSome = true ∧
      (s true).linkServes = true ∧ (u false).link.granted = none ∧
      (u true).erase.inbox = [.grant, .request { (s true).requestAt 4 .erase with begun := true }] := by decide +kernel

/-- A lock order, an idle timer, and an open volume with its request waiting, being checked and in flight. -/
theorem witness_LocksAreOrdered :
    (withOrder ready (.lock 0xFF)).alive = true ∧ (withOrder ready (.lock 0xFF)).guardFree = true ∧
      (withOrder ready (.lock 0xFF)).guard.inbox = [.lock 0xFF] ∧ ((withVolume ready .opened).vol 0).idle.isSome = true ∧
      ∀ p ∈ [Phase.waitingGrant, .checking, .inFlight],
        let s := serving (withVolume ready .opened) false p 1
        s.memOk = true ∧ (s.vol 0).isOpen = true ∧ s.sector.vol = 0 ∧ s.sectorHead.isSome = true ∧ s.sector.phase = p ∧ s.sector.ended = none := by decide +kernel

/-- A fault order for an open volume and for a BLANK one; an erase end order for an ERASING volume and for another. -/
theorem witness_FaultAndEraseEndOrders :
    (∀ st ∈ [VState.opened, .blank],
      let s := withOrder (withVolume ready st) (.fault 0)
      s.alive = true ∧ s.guardFree = true ∧ s.storeTakes = true ∧ s.guard.inbox = [.fault 0] ∧ (s.vol 0).data.state = st) ∧
      ∀ st ∈ [VState.erasing, .locked],
        let s := withOrder (withVolume ready st) (.eraseEnd 0 .complete 65536)
        s.guardFree = true ∧ s.storeTakes = true ∧ s.guard.inbox = [.eraseEnd 0 .complete 65536] ∧ (s.vol 0).data.state = st := by decide +kernel

/-- A fault order, an erase acceptance and a capacity report for a volume whose request waits for a grant, holds one, is being checked
and has its command in flight. -/
theorem witness_FaultAndEraseEndOrders_serving :
    let s (p : Phase) (g : Option Requester) : State :=
      (serving (withVolume ready .opened) false p 1).modLink fun l => { l with state := .busy, granted := g }
    let f := withOrder (s .waitingGrant (some .sector)) (.fault 0)
    let a := withOrder (s .checking none) (.eraseAccept 0)
    let c := withOrder (flying (s .inFlight none) (flight .read .sector 1)) (.capacity 999 1 1)
    (∀ u ∈ [f, a, c], u.memOk = true ∧ u.guardFree = true ∧ u.storeTakes = true ∧ (u.vol 0).isOpen = true ∧ u.sector.vol = 0 ∧
      u.sectorHead.isSome = true) ∧
      (f.after (exec .faultOrder f)).slotByte 3 32 = Status.lockedDuring.code ∧
      (a.after (exec .eraseAcceptance a)).slotByte 3 32 = Status.lockedDuring.code ∧ c.link.ident ≠ .guard ∧
      (c.after (exec .capacityReport c)).sector.ended = some .lockedDuring ∧
      (c.after (exec .capacityReport c)).store.current = some ⟨.volume 0 (rec1000 .fault), []⟩ := by decide +kernel

/-- An acceptance for an open volume, a FAULT one with its extent known and one without, and an ABSENT one. -/
theorem witness_EraseAcceptances :
    let a : Acceptance := { source := .chord, wipe := true, plan := .full, todo := [], stage := .guard 0 }
    let s (st : VState) : State := (withOrder (withVolume ready st) (.eraseAccept 0)).modErase fun x => { x with job := .accept a }
    let u : State := (s .fault).modVol 0 fun v => { v with extentKnown := false }
    (∀ st ∈ [VState.opened, .fault, .absent], (s st).alive = true ∧ (s st).guardFree = true ∧ (s st).storeTakes = true ∧
      (s st).device ≠ .halted ∧ (s st).guard.inbox = [.eraseAccept 0] ∧ ((s st).vol 0).data.state = st ∧ (s st).erase.job = .accept a) ∧
      u.extentClear 0 = false ∧ u.guardFree = true := by decide +kernel

/-- Reports of a capacity that the volume just fits and that it just does not fit; an ERASING volume lost; an identity being taken. -/
theorem witness_CapacityReports :
    let s (cap : BitVec 32) : State := (withOrder (withVolume ready .erasing) (.capacity cap 1 1)).modLink fun l => { l with ident := .guard }
    (s 1000).alive = true ∧ (s 1000).guardFree = true ∧ (s 1000).guard.inbox = [.capacity 1000 1 1] ∧
      decide ((1000 : BitVec 32).toNat < ((s 1000).vol 0).data.first + ((s 1000).vol 0).data.count) = false ∧
      decide ((999 : BitVec 32).toNat < ((s 999).vol 0).data.first + ((s 999).vol 0).data.count) = true ∧
      ((s 999).vol 0).data.state = .erasing ∧ (s 999).link.ident = .guard ∧ ready.link.ident ≠ .guard := by decide +kernel

/-- An identity being taken with nobody asking for the link, its capacity that of the DEVICE record and another one, with a store
that takes the record and with one that has stopped. -/
theorem witness_CapacityReports_identity :
    let s : State := (withOrder ready (.capacity 0 1 1)).modLink fun l => { l with state := .busy, ident := .guard }
    let c (m : StoreMode) : State := s.modStore fun x => { x with device := ⟨true, 9⟩, mode := m }
    (∀ u ∈ [s, c .running, c .stopped], u.alive = true ∧ u.guardFree = true ∧ u.guard.inbox = [.capacity 0 1 1] ∧
      u.link.ident = .guard ∧ u.link.granted = none ∧ u.link.sectorAsks = false ∧ u.link.engineAsks = false) ∧
      s.store.device.capacity = 0 ∧ (c .running).store.device.capacity ≠ 0 ∧ (c .running).storeTakes = true ∧
      (c .stopped).storeTakes = false := by decide +kernel

/-- The identity of a probe in FAULT, at work and in STARTING, where step 5 waits for it or not. -/
theorem witness_CapacityReports_return :
    let s (u : State) : State := (withOrder u (.capacity 0 1 1)).modLink fun l => { l with state := .fault, ident := .guard }
    let asked : State := { startingAt 5 with startUp := { next := 5, identAsked := true } }
    (∀ u ∈ [ready, startingAt 6, asked], (s u).alive = true ∧ (s u).guardFree = true ∧ (s u).link.ident = .guard ∧
      (s u).link.granted = none ∧ (s u).store.device.capacity = 0) ∧ ready.device ≠ .starting ∧ asked.startUp.identAsked = true ∧
      ((s ready).after (exec .capacityReport (s ready))).erase.inbox = [.linkReturn] ∧
      ((s asked).after (exec .capacityReport (s asked))).startUp.next = 6 := by decide +kernel

/-- The link section is rewritten with the identity taken, and once more at READY: twice in all (R101 step 4, R105). -/
theorem test_identity_rewrites :
    let l : State := (withOrder ready (.capacity 0 5 6)).modLink fun l => { l with state := .busy, ident := .guard }
    let s := l.refresh .link
    let t := s.after (exec .capacityReport s)
    t.page.link.counter = s.page.link.counter + 2 ∧ t.link.state = .ready ∧ t.page.link.body.take 2 = [1, 1] := by decide +kernel

/-- LOCK at the guard: in HALTED, warned, and otherwise with and without its close flag. -/
theorem witness_LockRequests :
    (∀ p ∈ [[(0xFF : Byte)], [0xFF, 1]],
      let s := guardReq ready .lock p
      s.alive = true ∧ s.memOk = true ∧ s.guardFree = true ∧ s.guard.inbox = [.request (req .lock p)] ∧ s.device ≠ .halted ∧
        s.guard.warned = false) ∧
      (guardReq (halted ready) .lock []).device = .halted ∧
      ((guardReq ready .lock []).modGuard fun g => { g with warned := true }).guard.warned = true := by decide +kernel

/-- DEFINE_VOLUME with the window CLOSED, and OPEN with a request that passes every check. -/
theorem witness_DefineVolumeRequests :
    let p : List Byte := [2, 0, 0, 0, 0, 0, 0, 0, 1, 0, 0, 0]
    let s := guardReq (windowed ready false 1) .defineVolume p
    let u := s.modLink fun l => { l with capacity := 1 }
    let r := req .defineVolume p
    s.alive = true ∧ s.memOk = true ∧ s.guardFree = true ∧ s.guard.inbox = [.request r] ∧ s.credReady = true ∧
      (guardReq ready .defineVolume p).credReady = true ∧ (guardReq ready .defineVolume p).cred.window = none ∧
      volOfIndex (r.byte 4).toNat = some 1 ∧ (u.vol 1).data.state = .absent ∧ r.field 12 4 = 1 ∧ r.field 8 4 + r.field 12 4 ≤ u.link.capacity.toNat ∧
      (allVols.all fun w => (u.vol w).data.state = .absent) = true := by decide +kernel

/-- A wrapping awaited by the guard, the window CLOSED and OPEN. -/
theorem witness_WrapAndAddOrders :
    let s (u : State) : State := (withEvent u (.wrapAdd 0 5)).modGuard fun g => { g with wait := .wrapAdd (req .defineVolume [1]) 0 5 }
    (s ready).alive = true ∧ (s ready).memOk = true ∧ (s ready).credFree = true ∧ (s ready).cred.inbox = [.wrapAdd 0 5] ∧
      (s ready).guard.wait = .wrapAdd (req .defineVolume [1]) 0 5 ∧ (s ready).cred.window = none ∧
      (s (ready.modCred fun c => { c with warned := true, shutByWarning := true })).cred.window = none ∧
      (s (windowed ready false 1)).credFree = true ∧ (s (windowed ready false 1)).cred.window = some ⟨0, 1, false⟩ ∧
      (s (windowed ready false 1)).storeTakes = true := by decide +kernel

/-- DELETE_VOLUME of a BLANK volume, of another, with the window CLOSED, and of a volume 9. -/
theorem witness_DeleteVolumeRequests :
    let s (u : State) (p : Byte) : State := guardReq u .deleteVolume [p]
    (∀ st ∈ [VState.blank, .locked],
      let t := s (withVolume (windowed ready false 1) st) 1
      t.alive = true ∧ t.memOk = true ∧ t.guardFree = true ∧ t.storeTakes = true ∧ t.credReady = true ∧
        t.guard.inbox = [.request (req .deleteVolume [1])] ∧ t.cred.window.isSome = true ∧ (t.vol 0).data.state = st ∧ t.eraseEntry 0 = none) ∧
      (s ready 1).credReady = true ∧ (s ready 1).cred.window = none ∧ volOfIndex ((req .deleteVolume [9]).byte 4).toNat = none ∧
      volOfIndex ((req .deleteVolume [8]).byte 4).toNat = some 7 := by decide +kernel

/-- A READ and a WRITE at the head: the guard free and passing it, failing it, and with an order before it. -/
theorem witness_SectorRequestsBegin :
    ∀ write ∈ [false, true],
      let s (st : VState) : State := serving (withVolume ready st) write .idle 0
      let r := req (if write then .writeSectors else .readSectors) [1, 0, 1, 0, 0, 0, 0, 0]
      (s .opened).alive = true ∧ (s .opened).memOk = true ∧ (s .opened).sectorHead = some r ∧ (s .opened).sector.phase = .idle ∧
        (s .opened).sector.done = 0 ∧ (s .opened).sector.warned = false ∧ (s .opened).link.state ≠ .fault ∧ (s .opened).link.warned = false ∧
        (∀ l ∈ [({ state := .fault } : Link), { state := .ready, warned := true }],
          let u := (s .opened).modLink fun _ => l
          u.guardReady = true ∧ u.guardDecision r = none ∧ u.device ≠ .halted) ∧
        (s .opened).guardReady = true ∧ (s .opened).guardDecision r = none ∧ volOfIndex (r.byte 4).toNat = some 0 ∧
        (s .locked).guardReady = true ∧ (s .locked).guardDecision r = some .locked ∧
        (withOrder (s .opened) (.lock 0)).guardReady = false := by decide +kernel

/-- A request begun at an open link, the engine asking or not and its head WIPE or REQUEST, and at one that is BUSY (R102, R103). -/
theorem witness_SectorRequestsBegin_link :
    let s (asks wipe : Bool) : State :=
      (linkOpen (serving (withVolume ready .opened) false .idle 0) false asks).modErase fun x => { x with list := [entry wipe 1 0] }
    let t (u : State) : State := u.after (exec .readSectors u)
    let b := flying (s false false) (flight .write .engine 1)
    (s false false).link.open_ = true ∧ (t (s false false)).link.granted = some .sector ∧
      (t (s true false)).link.granted = some .sector ∧ (t (s true false)).link.losses = 1 ∧
      (t (s true true)).link.granted = some .engine ∧ b.link.open_ = false ∧ (t b).link = { b.link with sectorAsks := true } := by
  decide +kernel

/-- A request for a volume that a DEFINE_VOLUME is defining, at its two waits; while CRITICAL stands too (R21). -/
theorem witness_SectorRequestsBegin_defining :
    let r := req .readSectors [1, 0, 1, 0, 0, 0, 0, 0]
    ∀ w ∈ [GuardWait.wrapAdd (req .defineVolume [1]) 0 5, .commits 2 (.define (req .defineVolume [1]) 0 5 2)], ∀ c ∈ [true, false],
      let s := (serving ready false .idle 0).modGuard fun g => { g with wait := w, critical := c }
      s.alive = true ∧ s.memOk = true ∧ s.sectorHead = some r ∧ s.guardReady = false ∧ s.definesFor r = true ∧
        s.guardDecision r = some (if c then .hot else .absent) := by decide +kernel

/-- A grant to the sector path, its volume open and locked. -/
theorem witness_GrantsAreUsed_sector :
    ∀ st ∈ [VState.opened, .locked],
      let s := (serving (withVolume ready st) true .waitingGrant 16).modLink fun l => { l with granted := some .sector }
      s.alive = true ∧ s.memOk = true ∧ s.link.granted = some .sector ∧ s.sector.phase = .waitingGrant ∧ s.guardReady = true ∧
        ((s.vol s.sector.vol).isOpen && (s.vol s.sector.vol).keyHeld) = decide (st = .opened) := by decide +kernel

/-- A grant to the sector path with the guard held, with an order waiting there, with its check in turn and behind another order. -/
theorem witness_GrantsAreUsed_guard :
    let g (p : Phase) (l : List GuardOrder) (w : GuardWait) : State :=
      ((serving (withVolume ready .opened) true p 16).modLink fun l => { l with granted := some .sector }).modGuard fun g =>
        { g with inbox := l, wait := w }
    let held := g .waitingGrant [] (.commits 1 .faulted)
    (∀ s ∈ [held, g .waitingGrant [.fault 1] .free], s.alive = true ∧ s.memOk = true ∧ s.link.granted = some .sector ∧
      s.sector.phase = .waitingGrant ∧ s.guardReady = false) ∧
      (g .checking [.sectorCheck] .free).guardFree = true ∧ (g .checking [.sectorCheck] .free).sector.phase = .checking ∧
      (g .checking [.sectorCheck] .free).guard.inbox.head? = some .sectorCheck ∧
      (g .checking [.sectorCheck] (.commits 1 .faulted)).guardFree = false ∧
      (g .checking [.fault 1, .sectorCheck] .free).guard.inbox.head? ≠ some .sectorCheck ∧ ready.link.granted ≠ some .sector := by
  decide +kernel

/-- A grant that meets a held guard has its check made when its turn has come (R4, R16). -/
theorem test_check_in_turn :
    let s : State := ((serving (withVolume ready .opened) false .waitingGrant 1).modLink fun l => { l with granted := some .sector }).modGuard
      fun g => { g with wait := .commits 1 .faulted }
    let t := s.after (exec .sectorGrant s)
    let u := t.modGuard fun g => { g with wait := .free }
    t.link.inFlight = none ∧ t.guard.inbox = [.sectorCheck] ∧ t.after (exec .sectorGrant t) = t ∧
      (u.after (exec .sectorGrant u)).link.inFlight.isSome = true ∧ (u.after (exec .sectorGrant u)).guard.inbox = [] := by decide +kernel

/-- A check that waits while a warning, or HALTED, takes its grant back at the link: the volume open, with the link serving again, warned,
in HALTED and in FAULT, and the volume locked. -/
theorem witness_GrantsAreUsed_takenBack :
    let s (st : VState) (l : Link) : State :=
      (withOrder (serving (withVolume ready st) false .checking 1) .sectorCheck).modLink fun _ => l
    let ok (u : State) : Prop := u.alive = true ∧ u.memOk = true ∧ u.sectorHead.isSome = true ∧ u.sector.phase = .checking ∧
      u.guardFree = true ∧ u.guard.inbox.head? = some .sectorCheck ∧ u.link.granted ≠ some .sector
    let r : Link := { state := .ready }
    (∀ u ∈ [s .opened r, s .opened { r with warned := true }, halting (s .opened r), s .opened { state := .fault }, s .locked r], ok u) ∧
      (s .opened r).linkServes = true ∧ (s .opened { r with warned := true }).linkServes = false ∧ (halting (s .opened r)).linkServes = false ∧
      ((s .opened r).vol 0).isOpen = true ∧ ((s .opened r).vol 0).keyHeld = true ∧ ((s .locked r).vol 0).isOpen = false := by decide +kernel

/-- A warning that the link takes while a check waits leaves the check its turn, and the orders behind it theirs (R4, R16, R106). -/
theorem test_check_without_grant :
    let s : State := (((withOrder (serving (withVolume ready .opened) false .checking 1) .sectorCheck).tellGuard (.lock 1)).modLink fun l =>
      { l with state := .ready, granted := some .sector })
    let w := signalled s .link .warning
    let t := w.after (exec (.warningTaken .link) w)
    let u := t.after (exec .sectorGrant t)
    t.link.granted = none ∧ u.guard.inbox.head? = some (.lock 1) ∧ u.sector.phase = .idle ∧ u.slotByte 3 32 = Status.power.code := by
  decide +kernel

/-- A grant to the engine: running at the FILL, VERIFY and DISCARD pass, and paused. -/
theorem witness_GrantsAreUsed_engine :
    let s (e : EraseEntry) : State := (withEngine (erasing e) .grant).modLink fun l => { l with state := .busy, granted := some .engine }
    (∀ i ∈ [1, 2, 3],
      let e := entry false i 3
      (s e).alive = true ∧ (s e).engineFree = true ∧ (s e).link.granted = some .engine ∧ (s e).erase.inbox = [.grant] ∧ (s e).eraseHead = some e ∧
        e.pass = some ([Pass.key, .fill, .verify, .discard].getD i .key) ∧ (s e).engineRuns = true) ∧
      ((s (entry false 1 0)).modErase fun x => { x with pause := true }).engineRuns = false ∧
      (∀ a ∈ [true, false],
        let u := ((s (entry false 1 0)).modErase fun x => { x with pause := true }).modLink fun l => { l with sectorAsks := a }
        u.engineFree = true ∧ u.linkServes = true ∧ u.link.engineAsks = false ∧
          (u.after (exec .stripeGrant u)).link.granted = if a then some .sector else none) ∧
      (∀ n ∈ [3, 4],
        let u := ((s (entry false 1 0)).modErase fun x => { x with pause := true }).modLink fun l =>
          { l with sectorAsks := true, engineAsks := true, losses := n }
        u.engineRuns = false ∧ (u.after (exec .stripeGrant u)).link.granted = some (if n = 3 then .sector else .engine)) := by
  decide +kernel

/-- A grant that an older report of the link overtakes, and one at an engine that is held (R110). -/
theorem witness_GrantsAreUsed_turn :
    (withEngine (erasing (entry false 1 0)) .linkFault).erase.inbox.head? ≠ some .grant ∧
      ((withEngine (erasing (entry false 1 0)) .grant).modErase fun x => { x with job := .endGuard 0 }).engineFree = false := by
  decide +kernel

/-- A grant behind a FAULT report is not used before it: the report takes the engine's work away first (R110, R122). -/
theorem test_fault_before_grant :
    let s := ((withEngine (erasing (entry false 1 0)) .linkFault).tellEngine .grant).modLink fun l =>
      { l with state := .busy, granted := some .engine }
    s.after (exec .stripeGrant s) = s ∧ (s.after (exec .linkFaultReport s)).erase.linkHold = true := by decide +kernel

/-- Replies to a READ's and a WRITE's command: its data, its OK, and MEDIA_ERROR; the last sector and one before it. -/
theorem witness_SectorReplies :
    let f (c : LinkCmd) : InFlight := { cmd := c, first := 0, count := 1, owner := .sector, left := 1 }
    let s (write : Bool) (n : Nat) : State :=
      flying (serving (withVolume ready .opened) write .inFlight n) (f (if write then .write else .read))
    (∀ n ∈ [1, 2], (s false n).alive = true ∧ (s false n).memOk = true ∧ (s false n).linkServes = true ∧
      ((s false n).modLink fun l => { l with warned := true }).linkServes = false ∧ (s false n).link.inFlight = some (f .read) ∧
      (s false n).sector.ended = none ∧ (s false n).sector.phase = .inFlight ∧ (s false n).sectorHead.isSome = true ∧
      ((s false n).vol 0).keyHeld = true) ∧
      frameFits (f .read) ⟨true, .data [0]⟩ = true ∧ frameFits (f .write) ⟨true, .ok⟩ = true ∧
      frameFits (f .read) ⟨true, .mediaError 0⟩ = true ∧ (s true 1).link.inFlight = some (f .write) := by decide +kernel

/-- The boundary after a sector's reply, the engine asking as well: with a REQUEST head and with a WIPE one, with a sector left and with
none; and a READ whose key register is empty when its sector arrives (R102, R103, R90). -/
theorem witness_SectorReplies_boundary :
    let s (n : Nat) (wipe : Bool) : State :=
      ((flying (serving (withVolume ready .opened) true .inFlight n) (flight .write .sector 1)).modLink fun l =>
        { l with engineAsks := true }).modErase fun x => { x with list := [entry wipe 1 0] }
    let t (u : State) : State := u.after (exec (.linkReply ⟨true, .ok⟩ 0) u)
    let k := flying (serving (withVolume ready .locked) false .inFlight 1) (flight .read .sector 1)
    (s 2 false).linkServes = true ∧ (t (s 2 false)).link.granted = some .sector ∧ (t (s 2 false)).link.losses = 1 ∧
      (t (s 2 true)).link.granted = some .engine ∧ (t (s 1 false)).link.granted = some .engine ∧ (k.vol 0).keyHeld = false ∧
      (k.after (exec (.linkReply ⟨true, .data [0]⟩ 0) k)).slotByte 3 32 = Status.lockedDuring.code := by decide +kernel

/-- The end of a READ's and of a WRITE's request already decided by a lock, a warning and HALTED, with each reply. -/
theorem witness_SectorReplies_decided :
    let f (c : LinkCmd) : InFlight := { cmd := c, first := 0, count := 1, owner := .sector, withdrawn := true, left := 1 }
    let s (write : Bool) (st : Status) : State :=
      (flying (serving (withVolume ready .locked) write .inFlight 2) (f (if write then .write else .read))).modSector fun p =>
        { p with ended := some st, done := 1, k := 1 }
    (∀ st ∈ [Status.lockedDuring, .power, .halted], ∀ w ∈ [true, false],
      (s w st).alive = true ∧ (s w st).memOk = true ∧ (s w st).link.inFlight = some (f (if w then .write else .read)) ∧
        (s w st).sector.phase = .inFlight ∧ (s w st).sectorHead.isSome = true ∧ (s w st).sector.ended = some st ∧ st ≠ .flashError ∧
        frameFits (f (if w then .write else .read)) ⟨true, .mediaError 0⟩ = true) ∧
      frameFits (f .read) ⟨true, .data [0]⟩ = true ∧ frameFits (f .write) ⟨true, .ok⟩ = true := by decide +kernel

/-- A WRITE's OK under a lock counts as done, and its slot shows LOCKED_DURING (R17). -/
theorem test_locked_during_write :
    let s := (flying (serving (withVolume ready .locked) true .inFlight 2)
      { cmd := .write, first := 0, count := 1, owner := .sector, withdrawn := true, left := 1 }).modSector fun p =>
        { p with ended := some .lockedDuring }
    let t := s.after (exec (.linkReply ⟨true, .ok⟩ 0) s)
    t.slotByte 3 32 = Status.lockedDuring.code ∧ t.slotByte 3 34 = 1 := by decide +kernel

/-- No command in flight; an IDENT with its reply; a stripe command with each reply. -/
theorem witness_IdentitiesAndRepliesToTheEngine :
    ready.alive = true ∧ ready.link.inFlight = none ∧
      frameFits { cmd := .ident, first := 0, count := 0, owner := .controller, left := 1 } ⟨true, .ident 1 0 0⟩ = true ∧
      (flying ready (flight .write .engine 256)).link.inFlight = some (flight .write .engine 256) ∧
      frameFits (flight .write .engine 256) ⟨true, .ok⟩ = true ∧ frameFits (flight .discard .engine 256) ⟨true, .mediaError 255⟩ = true ∧
      frameFits (flight .read .engine 2) ⟨true, .data [0, 0]⟩ = true := by decide +kernel

/-- Step 5 with its IDENT not asked for; a link in FAULT with its probe timer running. -/
theorem witness_IdentitiesAndRepliesToTheEngine_ident :
    let s := startingAt 5
    let u := ready.modLink fun l => { l with state := .fault, probeLeft := some 0 }
    s.stepDue 5 = true ∧ s.startUp.identAsked = false ∧ s.link.inFlight = none ∧ s.link.ident = .none ∧ s.linkServes = true ∧
      u.alive = true ∧ u.link.state = .fault ∧ u.link.probeLeft.isSome = true ∧ u.link.inFlight = none ∧ u.link.ident = .none ∧
      u.linkServes = true := by decide +kernel

/-- A command that has not failed, one that has failed once, one that is being reset, and one withdrawn; a malformed reply. -/
theorem witness_LinkFailures :
    let f (once resetting withdrawn : Bool) : InFlight :=
      { cmd := .read, first := 0, count := 1, owner := .engine, failedOnce := once, resetting := resetting, withdrawn := withdrawn, left := 0 }
    (∀ a ∈ [f false false false, f true false false, f true true false, f true true true],
      (flying ready a).alive = true ∧ (flying ready a).memOk = true ∧ (flying ready a).link.inFlight = some a ∧ a.probe = false ∧
        (flying ready a).linkServes = true) ∧
      frameFits (f false false false) ⟨false, .data [0]⟩ = false ∧ frameFits (f false false false) ⟨true, .data []⟩ = false := by decide +kernel

/-- A second failure of IDENT in STARTING, and of the engine's command with a sector request of two sectors done that waits for a grant. -/
theorem witness_LinkFailures_fault :
    let i : InFlight := { identCommand false with failedOnce := true }
    let s : State := flying { startingAt 5 with startUp := { next := 5, identAsked := true } } i
    let u : State := (flying (serving (withVolume ready .opened) true .waitingGrant 5) { flight .write .engine 256 with failedOnce := true }).modSector
      fun p => { p with done := 2 }
    let t := u.after (exec .linkTimeout u)
    (∀ x ∈ [s, u], x.alive = true ∧ x.memOk = true ∧ x.linkServes = true) ∧ s.link.inFlight = some i ∧ s.device = .starting ∧
      (s.after (exec .linkTimeout s)).startUp.next = 6 ∧ u.sectorHead.isSome = true ∧ t.slotByte 3 32 = Status.linkFault.code ∧
      t.slotByte 3 34 = 2 := by decide +kernel

/-- A probe; a command of each owner given up, by its withdrawal and by a warning, the sector path waiting for it. -/
theorem witness_LinkFailures_givenUp :
    let f (o : Requester) (w : Bool) : InFlight := { cmd := .read, first := 0, count := 1, owner := o, withdrawn := w, left := 0 }
    let s (o : Requester) (w : Bool) : State :=
      (flying (serving (withVolume ready .opened) false .inFlight 1) (f o w)).modLink fun l => { l with warned := !w }
    (flying ready (identCommand true)).link.inFlight = some (identCommand true) ∧ (identCommand true).probe = true ∧
      ∀ o ∈ [Requester.sector, .engine, .controller], ∀ w ∈ [true, false],
        (s o w).alive = true ∧ (s o w).memOk = true ∧ (s o w).link.inFlight = some (f o w) ∧ (s o w).linkServes = w ∧
          (s o w).sectorHead.isSome = true ∧ (f o w).resetting = false ∧ (f o w).probe = false := by decide +kernel

/-- ENROLL at the head of its queue: unprovisioned and authorized, not authorized, warned, HALTED, and with the window OPEN. -/
theorem witness_EnrollmentsBegin :
    let p : List Byte := [0, 2, 0, 0, 0]
    let s (u : State) : State := u.modExch fun x => { x with enrollQ := [req .enroll p] }
    let first : State := { s ready with device := .unprovisioned }
    (∀ u ∈ [first, s ready, s (halted ready), s (windowed ready false 1), (s ready).modCred fun c => { c with warned := true }],
      u.alive = true ∧ u.memOk = true ∧ u.credReady = true ∧ u.cred.verify = none ∧ u.cred.enroll = none ∧ u.exch.enrollQ = [req .enroll p]) ∧
      roleOfCode ((req .enroll p).byte 5) = some .admin ∧ (req .enroll p).byte 7 = 0 ∧ slotOfNumber ((req .enroll p).byte 4).toNat = some 0 ∧
      (s ready).cred.window.isSome = false ∧ (s (windowed ready false 1)).cred.window.isSome = true := by decide +kernel

/-- A report of a stage with no enrollment in progress. -/
theorem witness_EnrollmentStages_stale :
    ∀ x ∈ [CredEvent.enrollEntry [1], .enrollEnd .chord], (withEvent ready x).alive = true ∧ (withEvent ready x).credFree = true ∧
      (withEvent ready x).cred.enroll = none ∧ (withEvent ready x).cred.inbox = [x] := by decide +kernel

/-- The first typing; a second that differs, one that agrees, and one too short; an early end before the commit and after it. -/
theorem witness_EnrollmentStages_entry :
    let s (st : EnrollStage) (x : CredEvent) : State := withEvent (enrolling ready st false) x
    let ok (u : State) : Prop :=
      u.alive = true ∧ u.memOk = true ∧ u.credFree = true ∧ u.storeTakes = true ∧ u.cred.enroll.isSome = true ∧ u.cred.verify = none
    ok (s .first (.enrollEntry [1])) ∧ ok (s .second (.enrollEntry [1, 2, 3, 4, 5, 7])) ∧ ok (s .second (.enrollEntry [1, 2, 3, 4, 5, 6])) ∧
      Role.domain .user = some .normal ∧ (s .second (.enrollEntry [1])).cred.enroll.all (fun e => e.pin ≠ [1]) = true ∧
      ready.store.policy.minPin = 6 ∧ ok (s .first (.enrollEnd .timeout)) ∧ (s .first (.enrollEnd .timeout)).cred.enroll.all (fun e => !e.committed) = true ∧
      ok (s .slotCommit (.enrollEnd .chord)) ∧ (s .slotCommit (.enrollEnd .chord)).cred.enroll.all (fun e => e.committed) = true := by decide +kernel

/-- A derivation done for the search, and for the new slot, its volume open and locked. -/
theorem witness_EnrollmentStages_derivation :
    let d : Derivation := ⟨[1, 2, 3, 4, 5, 6], 0, 0, 1⟩
    let s (v : VState) (st : EnrollStage) : State := (enrolling (withVolume ready v) st false).modCred fun c => { c with deriv := some d }
    let ok (u : State) : Prop :=
      u.alive = true ∧ u.memOk = true ∧ u.credFree = true ∧ u.storeTakes = true ∧ u.cred.enroll.isSome = true ∧ u.cred.verify = none ∧ u.cred.deriv = some d
    ok (s .opened (.duplicate 15 false)) ∧ ok (s .opened .final) ∧ ok (s .locked .final) ∧ ((s .locked .final).vol 0).isOpen = false ∧
      ((s .opened .final).vol 0).isOpen = true ∧ inSet 1 (0 : Vol) = true := by decide +kernel

/-- A slot whose verifier the typed digits give. -/
theorem witness_EnrollmentStages_same :
    let c : CredSlot := { role := .user, verifier := (Config.derive [1, 2, 3, 4, 5, 6] 0 0).extractLsb' 0 128 }
    let s := ready.setSlot 15 c
    (s.cslot 15).role.domain.isSome = true ∧
      (Config.derive [1, 2, 3, 4, 5, 6] 0 0).extractLsb' 0 128 = (s.cslot 15).verifier := ⟨rfl, rfl⟩

/-- REVOKE with the window CLOSED and OPEN, of a USER slot, the last ADMIN slot and an empty one; the factory order; a removal
with an entry to take out and with none. -/
theorem witness_SlotsAreRevoked :
    let u := withSlot (withSlot (windowed ready false 1) 0 .admin) 1 .user
    let named := (withSlot ready 1 .user).setSlot 2 { role := .user, bind := 1, wraps := [⟨0, 0, 0⟩] }
    let ok (s : State) : Prop := s.alive = true ∧ s.memOk = true ∧ s.credFree = true ∧ s.storeTakes = true ∧ s.device ≠ .halted
    (∀ n ∈ [(0 : Byte), 1, 2, 16], ok (withEvent u (.revoke (req .revoke [n])))) ∧ ok (withEvent ready (.revoke (req .revoke [1]))) ∧
      (u.cslot 1).role = .user ∧ (u.cslot 2).role = .empty ∧ (allSlots.any fun j => j ≠ 0 && (u.cslot j).role = .admin) = false ∧
      slotOfNumber ((req .revoke [16]).byte 4).toNat = none ∧ ok (withEvent u .factory) ∧ (u.cslot 0).occupied = true ∧
      ok (withEvent named (.removal 0)) ∧ (named.cslot 2).names 0 = true ∧ (allSlots.countP fun i => (ready.cslot i).names 0) = 0 := by decide +kernel

/-- Each of the three in HALTED, the store taking no record any more. -/
theorem witness_SlotsAreRevoked_halted :
    let named := (withSlot ready 1 .user).setSlot 2 { role := .user, bind := 1, wraps := [⟨0, 0, 0⟩] }
    let h (x : CredEvent) : State := (halted (withEvent named x)).modStore fun y => { y with mode := .stopped }
    ∀ x ∈ [CredEvent.revoke (req .revoke [1]), .factory, .removal 0],
      (h x).alive = true ∧ (h x).memOk = true ∧ (h x).credFree = true ∧ (h x).storeTakes = false ∧ (h x).device = .halted ∧
        (h x).cred.inbox = [x] := by decide +kernel

/-- A completion that finds the unit held, and one that stands among its events while it is held. -/
theorem witness_VerificationRuns_held :
    let s (l : List CredEvent) : State := (trying ready [1]).modCred fun c => { c with wait := .removal 1, inbox := l }
    (∀ l ∈ [[], [CredEvent.tick], [.derived], [.tick, .derived]], (s l).alive = true ∧ (s l).credFree = false ∧
      (s l).cred.deriv = some ⟨[1], 0, 0, 1⟩) ∧ .derived ∉ (s [.tick]).cred.inbox ∧ .derived ∈ (s [.tick, .derived]).cred.inbox := by
  decide +kernel

/-- An entry handed, in HALTED and during an enrollment too; a charge committed; a derivation done. -/
theorem witness_VerificationRuns :
    let x : CredEvent := .entry [1] .normal false
    let v (cadence : Bool) : Verification := { digits := [1], domain := .normal, cadence := cadence, phase := .charging }
    let c (b : Bool) : State := (withEvent ready .chargeCommitted).modCred fun c => { c with verify := some (v b) }
    (withEvent ready x).alive = true ∧ (withEvent ready x).credFree = true ∧ (withEvent ready x).cred.inbox = [x] ∧
      (withEvent (halted ready) x).device = .halted ∧ (withEvent (enrolling ready .first false) x).cred.enroll.isSome = true ∧
      (c false).cred.inbox = [.chargeCommitted] ∧ (c true).cred.verify = some (v true) ∧ (c false).credFree = true ∧
      (trying ready [1]).credFree = true ∧ (trying ready [1]).cred.deriv.isSome = true ∧
      (trying ready [1]).cred.verify.any (fun v => v.phase = .trying 1 false) = true := by decide +kernel

/-- A completion behind two ticks, behind an older event, standing behind one already, and at the head (R29, R37). -/
theorem witness_VerificationRuns_turn :
    let s (l : List CredEvent) : State := (trying ready [1]).modCred fun c => { c with inbox := l }
    (s [.tick, .tick]).cred.inbox = List.replicate 2 .tick ∧ (s [.tick, .tick]).cred.deriv.isSome = true ∧
      (s [.removal 0]).credFree = true ∧ CredEvent.derived ∉ (s [.removal 0]).cred.inbox ∧ CredEvent.removal 0 ≠ .tick ∧
      (s [.removal 0, .derived]).cred.inbox = .removal 0 :: [.derived] ∧ (s [.derived]).cred.inbox.head? = some .derived ∧
      (withEvent (halted ready) (.entry [1] .normal false)).cred.halted = true := by decide +kernel

/-- A completion behind a removal waits for it (R29). -/
theorem test_completion_in_turn :
    let s := (trying ready [1]).modCred fun c => { c with inbox := [.removal 0] }
    (s.after (exec .derivationDone s)).cred.inbox = [.removal 0, .derived] ∧
      (s.after (exec .derivationDone s)).cred.verify = s.cred.verify := by decide +kernel

/-- A USER, a WIPE and an ADMIN slot that the digits in the search match. -/
theorem witness_VerificationRuns_hit :
    ∀ r ∈ [Role.user, .wipe, .admin],
      let s := (trying ready [1]).setSlot 1 { role := r, verifier := (Config.derive [1] 0 0).extractLsb' 0 128 }
      (s.cslot 1).role.domain.isSome = true ∧ (Config.derive [1] 0 0).extractLsb' 0 128 = (s.cslot 1).verifier ∧
        (s.cslot 1).role = r ∧ s.credFree = true := by
  intro r hr
  simp only [List.mem_cons, List.not_mem_nil, or_false] at hr
  rcases hr with rfl | rfl | rfl <;> exact ⟨rfl, rfl, rfl, rfl⟩

/-- A window held, one with 2 s and one with 1 s left; the unit held; an order to close it for a LOCK and not for one. -/
theorem witness_WindowCloses :
    let h : State := (windowed ready false 2).modCred fun c => { c with wait := .enroll }
    let l : State := (withEvent (windowed ready false 1) (.windowClose true)).modGuard fun g => { g with wait := .windowClose (req .lock [1, 1]) 1 }
    (∀ w ∈ [(⟨0, 300, true⟩ : Window), ⟨0, 2, false⟩, ⟨0, 1, false⟩],
      (windowed ready w.held w.left).alive = true ∧ (windowed ready w.held w.left).memOk = true ∧
        (windowed ready w.held w.left).cred.window = some w ∧ (windowed ready w.held w.left).credReady = true) ∧
      h.credFree = false ∧ h.cred.window = some ⟨0, 2, false⟩ ∧ l.credFree = true ∧ l.cred.inbox = [.windowClose true] ∧
      l.guard.wait = .windowClose (req .lock [1, 1]) 1 ∧
      (withEvent (windowed ready false 1) (.windowClose false)).cred.inbox = [.windowClose false] := by decide +kernel

/-- A close for a LOCK while an enrollment of another slot is in progress (R44). -/
theorem witness_WindowCloses_enrolling :
    let s := ((enrolling (windowed ready false 1) .first false).modCred fun c => { c with inbox := [.windowClose true] }).modGuard fun g =>
      { g with wait := .windowClose { req .lock [1, 1] with slot := 9 } 1 }
    let t := s.after (exec .windowClose s)
    s.alive = true ∧ s.memOk = true ∧ s.credFree = true ∧ s.cred.window = some ⟨0, 1, false⟩ ∧
      s.cred.enroll.any (fun e => !e.committed && !e.firstAdmin && e.req.slot ≠ 9) = true ∧
      t.slotByte 3 32 = Status.notAuthorized.code ∧ t.slotByte 9 32 = Status.ok.code := by decide +kernel

/-- The window CLOSED: a close order, for a LOCK that waits, for one that does not, and for none (R38, R19). -/
theorem witness_WindowCloses_closed :
    let s (b : Bool) : State := withEvent ready (.windowClose b)
    let l : State := (s true).modGuard fun g => { g with wait := .windowClose (req .lock [1, 1]) 1 }
    (∀ b ∈ [true, false], (s b).alive = true ∧ (s b).memOk = true ∧ (s b).cred.window = none ∧ (s b).credFree = true ∧
      (s b).cred.inbox = [.windowClose b] ∧ (s b).guard.wait = .free) ∧ ready.credReady = true ∧ ready.cred.window = none ∧
      l.guard.wait = .windowClose (req .lock [1, 1]) 1 ∧ (l.after (exec .windowClose l)).slotByte 3 32 = Status.ok.code := by decide +kernel

/-- Ticks that waited, 2 of them, before one more; an event that is none before it. -/
theorem witness_WindowCloses_ticks :
    let s := (windowed ready false 300).modCred fun c => { c with inbox := [.tick, .tick] }
    s.credFree = true ∧ s.cred.inbox = List.replicate 2 .tick ∧ 2 + 1 < 300 ∧
      ((s.after (exec .windowTick s)).cred.window.map Window.left) = some 297 ∧
      (withEvent (windowed ready false 300) (.removal 0)).credFree = true := by decide +kernel

/-- Each report: at the wipe threshold, one below it, above the free attempts and at them; an acceptance awaited at start-up and after it. -/
theorem witness_LockoutReports :
    let at_ (f : Nat) (x : LockEvent) : State :=
      withLock (normalAt { f := f, inputs := ⟨5, 30, 3600, 20⟩ }) x
    let a : State := (withLock ready .accepted).modLockout fun l => { l with wait := .wipe .normal }
    (∀ s ∈ [at_ 255 (.charge .normal), at_ 3 (.matched .normal), at_ 20 (.noMatch .normal), at_ 19 (.noMatch .normal), at_ 6 (.noMatch .normal),
        at_ 5 (.noMatch .normal)], s.alive = true ∧ s.lockout.halted = false ∧ s.lockoutFree = true ∧ s.lockout.inbox ≠ []) ∧
      (at_ 20 (.noMatch .normal)).domain .normal = { f := 20, inputs := ⟨5, 30, 3600, 20⟩ } ∧
      a.alive = true ∧ a.lockout.inbox = [.accepted] ∧ a.lockout.waitEnd = some .accepted ∧
      (∀ x ∈ [LockEvent.charge .normal, .matched .normal, .noMatch .normal],
        (withLock (halted ready) x).lockoutFree = true ∧ (withLock (halted ready) x).lockout.halted = true ∧
          (withLock (halted ready) x).lockout.inbox = [x]) ∧ a.lockout.wait = .wipe .normal ∧ a.startUp.examining = none ∧
      ({ a with device := .starting, startUp := { next := 4, examining := some .normal } } : State).startUp.examining = some .normal := by decide +kernel

/-- An acceptance awaited by the examination of NORMAL: RECOVERY at its wipe threshold, above its free attempts, with its flag alone, and
at rest; and by that of RECOVERY (R62). -/
theorem witness_LockoutReports_examining :
    let s (d : Domain) (f : Nat) (flag : Bool) : State :=
      (withLock { startingAt 4 with startUp := { next := 4, examining := some d } } .accepted).modLockout fun l =>
        { l with wait := .wipe d, recovery := { l.recovery with f := f, flag := flag } }
    let t (d : Domain) (f : Nat) (flag : Bool) : State := (s d f flag).after (exec .acceptanceComplete (s d f flag))
    (∀ p ∈ [(10, true), (9, true), (3, true), (0, false)], (s .normal p.1 p.2).alive = true ∧ (s .normal p.1 p.2).lockout.halted = false ∧
      (s .normal p.1 p.2).lockout.waitEnd = some .accepted) ∧ (s .recovery 10 true).lockout.wait = .wipe .recovery ∧
      (t .normal 10 true).startUp.examining = some .recovery ∧ (t .normal 9 true).startUp.next = 5 ∧
      ((t .normal 9 true).domain .recovery).lockedOut = true ∧ ((t .normal 3 true).domain .recovery).flag = false ∧
      (t .recovery 10 true).startUp.next = 5 ∧ (t .recovery 10 true).startUp.examining = none := by decide +kernel

/-- A lockout of 2 s and of 1 s left, both domains, before the examination is done, in HALTED, the unit held, and the factory
order. -/
theorem witness_LockoutTimer :
    let h : State := (normalAt (locked 2)).modLockout fun l => { l with wait := .charge .normal }
    let ticks : State := (normalAt (locked 300)).modLockout fun l => { l with inbox := [.tick, .tick] }
    let both : State := (normalAt (locked 1)).modLockout fun l => { l with recovery := locked 9 }
    (∀ n ∈ [1, 2], (normalAt (locked n)).alive = true ∧ (normalAt (locked n)).lockoutReady = true ∧ (normalAt (locked n)).lockout.halted = false ∧
      (normalAt (locked n)).domain .normal = locked n) ∧ (halted (normalAt (locked 2))).lockoutReady = true ∧
      (halted (normalAt (locked 2))).lockout.halted = true ∧ (withLock (halted (normalAt (locked 2))) .factory).lockoutFree = true ∧
      ticks.lockoutFree = true ∧ ticks.lockout.inbox = List.replicate 2 .tick ∧ 2 + 1 < (ticks.domain .normal).left ∧
      (withLock (normalAt (locked 2)) .factory).lockout.inbox ≠ [] ∧ both.lockoutReady = true ∧
      (both.domain .normal).lockedOut = true ∧ (both.domain .recovery).lockedOut = true ∧
      ({ normalAt (locked 2) with device := .starting, startUp := { next := 4 } } : State).lockoutReady = true ∧
      h.lockoutFree = false ∧ (withLock (normalAt (locked 2)) .factory).lockoutFree = true ∧
      (withLock (normalAt (locked 2)) .factory).lockout.inbox = [.factory] ∧
      ready.lockoutReady = true ∧ (∀ d ∈ [Domain.normal, .recovery], (ready.domain d).lockedOut = false) := by decide +kernel

/-- A tick of NORMAL's lockout does not show a RECOVERY count that no commit has shown, and one with no lockout shows nothing
(R52, R57, R63). -/
theorem test_tick_shows_its_domain :
    let s : State := (normalAt (locked 300)).modLockout fun l => { l with recovery := { l.recovery with f := 3 } }
    let u : State := ready.modLockout fun l => { l with recovery := { l.recovery with f := 3 } }
    let page (x : State) : Page := (x.after (exec .lockoutTick x)).page
    (page s).domainEntry .normal = (locked 299).entry ∧ (page s).domainEntry .recovery = zeros 16 ∧
      (page u).domains = u.page.domains := by
  decide +kernel

/-- The steps' ends 1 and 254, a base above its cap, and remaining times at the units' boundary and at the limit. -/
theorem witness_LockoutSchedule :
    (1 ≤ 254 ∧ 254 ≤ 254) ∧ (sampleInputs ⟨1, 4, 0, 0⟩).cap < (sampleInputs ⟨1, 4, 0, 0⟩).b ∧
      (∀ n ∈ [1, 635, 636, 36000], (locked n).left ≤ 36000 ∧ (locked n).lockedOut = true) ∧ (locked 635).left ≤ 635 ∧ 635 < (locked 636).left := by decide +kernel

/-- ERASE: in HALTED, held, the window CLOSED, bad parameters, one that accepts, one that merges, and one that every volume passes by. -/
theorem witness_EraseRequests :
    let p : List Byte := [1, 3, 0, 4, 0]
    let s (u : State) : State := withEngine u (.request (req .erase p))
    (∀ u ∈ [windowed ready false 1, ready, halted ready, withVolume (windowed ready false 1) .opened, erasing (entry false 1 0)],
      (s u).alive = true ∧ (s u).memOk = true ∧ (s u).engineFree = true ∧ (s u).erase.inbox = [.request (req .erase p)] ∧ (s u).credReady = true) ∧
      planOfCode ((req .erase p).byte 5).toNat = some .full ∧ planOfCode 0 = none ∧ planOfCode 4 = none ∧
      (s (withVolume (windowed ready false 1) .opened)).walk (.request (req .erase p)) 0 = .accept ∧
      (s (erasing (entry false 1 0))).walk (.request (req .erase p)) 0 = .merge ∧
      (s (erasing (entry false 1 0))).skips (.request (req .erase p)) false .full 0 = true := by decide +kernel

/-- An ERASE and a brute-force trigger that pass every volume by, with a head that runs at an open link (R117, R118). -/
theorem witness_EraseRequests_run :
    let e := linkOpen (erasing (entry false 1 0)) false false
    let s := withEngine (windowed e false 1) (.request (req .erase [1, 3, 0, 4, 0]))
    let b := withEngine e .brute
    (∀ u ∈ [s, b], u.engineFree = true ∧ runs u = true) ∧ (s.after (exec .erase s)).link.granted = some .engine ∧
      (b.after (exec .wipeTrigger b)).link.granted = some .engine := by decide +kernel

/-- An entry between two of other volumes, REQUEST and WIPE; one that has begun its pass and one that has not, whose plan grows. -/
theorem witness_EraseRequests_merge :
    let other (w : Bool) (v : Vol) : EraseEntry := { entry w 1 0 with vol := v }
    (∀ x ∈ [other true 1] ++ [other false 2], x.vol ≠ (entry false 1 0).vol) ∧ (entry false 1 0).wipe = false ∧
      (entry true 1 0).wipe = true ∧ (∀ b ∈ [true, false],
        let e : EraseEntry := { entry false 1 5 with plan := .clear, passes := [.key, .discard], begun := b }
        e.plan = .clear ∧ e.begun = b ∧ (e.merge .full false).nextStripe = if b then 5 else 0) := by decide

/-- PAUSE, RESUME and ABORT: turned away, and each action with the list empty, with a REQUEST head and with a WIPE head, in flight or not. -/
theorem witness_EraseControls :
    (∀ n ∈ [(0 : Byte), 1, 2, 3, 4],
      let s := engineReq .eraseControl [n]
      s.alive = true ∧ s.memOk = true ∧ s.engineFree = true ∧ s.erase.inbox = [.request (req .eraseControl [n])] ∧
        s.device ≠ .halted ∧ s.erase.supplyHold = false ∧ s.credReady = true ∧ s.cred.window.isSome = true ∧ s.eraseHead = none) ∧
      (withEngine ready (.request (req .eraseControl [1]))).cred.window = none ∧
      (∀ b ∈ [true, false], ((engineReq .eraseControl [1]).modErase fun x => { x with list := [entry b 1 0] }).eraseHead = some (entry b 1 0)) ∧
      (ofOrigin false [entry false 1 0] = [entry false 1 0]) ∧
      ((engineReq .eraseControl [3]).modErase fun x => { x with list := [entry false 1 0], flying := some 0 }).erase.flying.isSome = true := by decide +kernel

/-- RESUME of a PAUSED engine with a head, at an open link, and the return of the link to an engine that it held (R123, R122). -/
theorem witness_EraseControls_run :
    let e := linkOpen (erasing (entry false 1 0)) false false
    let s := withEngine ((windowed e false 9).modErase fun x => { x with pause := true }) (.request (req .eraseControl [2]))
    let l := withEngine (e.modErase fun x => { x with linkHold := true }) .linkReturn
    s.engineFree = true ∧ s.credReady = true ∧ runs { s with erase := { s.erase with pause := false } } = true ∧
      (s.after (exec .resume s)).link.granted = some .engine ∧ l.engineFree = true ∧
      runs { l with erase := { l.erase with linkHold := false } } = true ∧ (l.after (exec .linkReturn l)).link.granted = some .engine := by
  decide +kernel

/-- A reply to the head's stripe: in the window, outside it the first and the second time, its data, MEDIA_ERROR, given up; with stop-on-fault;
and with an ABORT waiting for it. -/
theorem witness_StripesAreSettled :
    let s (e : EraseEntry) (o : StripeOutcome) (pace : Bool) : State :=
      (erasing e).modErase fun x => { x with inbox := [.reply o], flying := some 0, pace := pace }
    let ok (u : State) : Prop := u.alive = true ∧ u.listOk = true ∧ u.erase.flying = some 0 ∧ (u.eraseEntry 0).isSome = true
    let a : State := (s (entry false 1 0) .givenUp false).modErase fun x => { x with job := .abortReply (req .eraseControl [3]) }
    (∀ u ∈ [s (entry false 1 0) (.ok 50 100) false, s (entry false 1 0) (.ok 49 100) false, s (entry false 1 2) (.ok 201 100) true,
        s (entry false 2 3) (.data false) false, s (entry false 3 3) .mediaError false, s (entry false 1 0) .givenUp true,
        s { entry false 1 0 with stopOnFault := true } .mediaError false],
      ok u ∧ u.engineFree = true ∧ u.device ≠ .halted ∧ u.erase.inbox ≠ []) ∧
      min 256 (1000 - 256 * 2) = 256 ∧ min 256 (1000 - 256 * 3) ≠ 256 ∧ ok a ∧
      a.device ≠ .halted ∧ a.erase.inbox.find? EngineEvent.isReply = some (.reply .givenUp) ∧ ofOrigin false a.erase.list ≠ [] := by
  decide +kernel

/-- A stripe settled, and one to be issued again for its pace, at an open link, the engine asking for it afresh; and an acceptance that
waited for the reply and has no volume left (R118, R120, R114). -/
theorem witness_StripesAreSettled_run :
    let a : Acceptance := { source := .brute, wipe := true, plan := .clear, todo := [], stage := .reply }
    let s (o : StripeOutcome) (j : Job) : State := (linkOpen (erasing (entry false 1 0)) false false).modErase fun x =>
      { x with inbox := [.reply o], flying := some 0, job := j }
    let t (o : StripeOutcome) (j : Job) : State := (s o j).after (exec .stripeReply (s o j))
    let u (o : StripeOutcome) (j : Job) : State :=
      { s o j with erase := { (s o j).erase with list := (t o j).erase.list, flying := none, job := .none } }
    ∀ p ∈ [(StripeOutcome.ok 100 100, Job.none), (.ok 10 100, .none), (.ok 100 100, .accept a)],
      (s p.1 p.2).listOk = true ∧ runs (u p.1 p.2) = true ∧ (t p.1 p.2).link.granted = some .engine := by decide +kernel

/-- An acceptance and an ABORT that wait for a reply, at work and in HALTED, the halt order before the reply; a volume to accept next. -/
theorem witness_StripesAreSettled_awaited :
    let a : Acceptance := { source := .brute, wipe := true, plan := .clear, todo := [1], stage := .reply }
    let s (j : Job) (inbox : List EngineEvent) : State :=
      (erasing (entry false 1 0)).modErase fun x => { x with inbox := inbox, flying := some 0, job := j }
    let w (j : Job) : State := s j [.reply .givenUp]
    let h (j : Job) : State := halting (s j [.signal .halt, .reply .givenUp])
    (∀ j ∈ [Job.accept a, .abortReply (req .eraseControl [3])], ∀ u ∈ [w j, h j],
      u.alive = true ∧ u.listOk = true ∧ u.erase.flying = some 0 ∧ (u.eraseEntry 0).isSome = true ∧ u.erase.job = j ∧
        u.erase.inbox.find? EngineEvent.isReply = some (.reply .givenUp)) ∧
      a.stage = .reply ∧ (w (.accept a)).device ≠ .halted ∧ (h (.accept a)).device = .halted ∧
      ((w (.accept a)).modVol 1 fun v => { v with data := rec1000 .locked }).walk a.source 1 = .accept ∧
      (∀ x ∈ a.todo, (w (.accept a)).walk a.source x ≠ .merge) := by decide +kernel

/-- A PAUSE has left a checkpoint until the reply, and the reply is taken in its turn, and by an ABORT (R123, R124, R126). -/
theorem witness_StripesAreSettled_due :
    let s (j : Job) : State := (erasing (entry false 1 0)).modErase fun x =>
      { x with inbox := [.reply .mediaError], flying := some 0, job := j, pause := true, due := true }
    let t (j : Job) : State := (s j).after (exec .stripeReply (s j))
    ∀ j ∈ [Job.none, .abortReply (req .eraseControl [3])], (s j).alive = true ∧ (s j).listOk = true ∧ (s j).device ≠ .halted ∧
      (s j).eraseEntry 0 = some (entry false 1 0) ∧ ofOrigin false (s j).erase.list ≠ [] ∧ (t j).erase.due = false ∧
      (t j).store.current = some ⟨.checkpoint ⟨some 0, 1, 1, 1, 0⟩, []⟩ := by decide +kernel

/-- In HALTED a reply for which an acceptance waits is applied to the cursor and orders nothing more, and the halt then ends the
ERASE it served (R132). -/
theorem test_acceptance_stops :
    let r := req .erase [2, 3]
    let a : Acceptance := { source := .request r, wipe := false, plan := .full, todo := [1], stage := .reply }
    let s := halting (((withVolume ready .erasing).modVol 1 fun v => { v with data := rec1000 .locked }).modErase fun x =>
      { x with list := [entry false 2 0], inbox := [.signal .halt, .reply (.data true)], flying := some 0, job := .accept a })
    let t := s.after (exec .stripeReply s)
    t.erase.job = .accept a ∧ t.eraseHead.map EraseEntry.nextStripe = some 1 ∧ t.guard.inbox = [] ∧ t.cred.inbox = [] ∧
      (t.after (exec (.haltOrder .engine) t)).slotByte 3 32 = Status.halted.code := by decide +kernel

/-- A reply in its turn in HALTED, the engine waiting for nothing. -/
theorem witness_StripesAreSettled_halted :
    ∀ o ∈ [StripeOutcome.ok 50 100, .ok 49 100, .data false, .mediaError, .givenUp], ∀ pace ∈ [false, true],
      let s : State := (halted (erasing (entry false 1 0))).modErase fun x => { x with inbox := [.reply o], flying := some 0, pace := pace }
      s.alive = true ∧ s.listOk = true ∧ s.erase.flying = some 0 ∧ s.eraseEntry 0 = some (entry false 1 0) ∧ s.device = .halted ∧
        s.engineFree = true ∧ s.erase.inbox = [.reply o] := by decide +kernel

/-- A reply taken in HALTED moves the cursor and makes no pace reissue (R132). -/
theorem test_reply_in_halted :
    let s (o : StripeOutcome) : State :=
      (halted (erasing (entry false 1 0))).modErase fun x => { x with inbox := [.reply o], flying := some 0 }
    let t (o : StripeOutcome) : State := (s o).after (exec .stripeReply (s o))
    (t .mediaError).erase.list = [{ entry false 1 1 with suspects := 1 }] ∧ (t (.ok 49 100)).erase.list = [entry false 1 0] ∧
      (t (.ok 49 100)).erase.pace = false ∧ (t .mediaError).store.queue = [] := by decide +kernel

/-- The link's return with the link granted to an engine whose head a fault has stopped, and with it granted to nobody; a FAULT
report in HALTED. -/
theorem witness_EngineEvents_link :
    let s (q : Option Requester) : State :=
      ((erasing { entry false 1 0 with stopOnFault := true, suspects := 1 }).modErase fun x =>
        { x with inbox := [.linkReturn, .grant], linkHold := true }).modLink fun l => { l with granted := q }
    (∀ q ∈ [none, some Requester.engine], (s q).alive = true ∧ (s q).engineFree = true ∧ (s q).device ≠ .halted ∧
      (s q).erase.inbox = [.linkReturn, .grant] ∧ (s q).link.granted = q) ∧
      (halted (withEngine ready .linkFault)).device = .halted ∧ (halted (withEngine ready .linkFault)).engineFree = true ∧
      (halted (withEngine ready .linkFault)).erase.inbox = [.linkFault] := by decide +kernel

/-- Each event, at work and in HALTED; a volume that a wipe accepts and ones that it passes by; an entry whose extent is lost. -/
theorem witness_EngineEvents :
    let l : State := withEngine (erasing (entry false 2 1)) (.extentLost 0)
    (∀ e ∈ [EngineEvent.wipe 1, .brute, .chord, .linkFault, .linkReturn],
      (withEngine ready e).alive = true ∧ (withEngine ready e).engineFree = true ∧ (withEngine ready e).erase.inbox = [e] ∧
        (withEngine ready e).device ≠ .halted ∧ (withEngine (halted ready) e).device = .halted) ∧
      (withVolume ready .locked).walk .brute 0 = .accept ∧
      (allVols.all fun v => ready.skips .brute true (wipePlanOf ready.store.policy.wipePlan) v) = true ∧
      l.erase.inbox = [.extentLost 0] ∧ l.eraseEntry 0 = some (entry false 2 1) ∧ l.engineFree = true ∧
      (withEngine (halted ready) (.extentLost 0)).engineFree = true := by decide +kernel

/-- The loss of an extent with every pass run ends a stop-on-fault entry by its counters, COMPLETE_SUSPECT (R129). -/
theorem test_extent_lost :
    let e := { entry false 4 0 with stopOnFault := true, suspects := 2 }
    e.unrun 4 = 0 ∧ e.lostResult 4 = .completeSuspect ∧ { e with passIndex := 3 }.lostResult 4 = .failed := by decide

/-- The loss of an extent leaves no pass begun at the cursor, which the erase section shows (R108, R129, R131). -/
theorem test_extent_lost_begun :
    let e := { entry false 2 1 with begun := true }
    ((e.lost 4).begun, (e.lost 4).pass, (e.lost 4).nextStripe) = (false, none, 0) := by decide

/-- A scanner at rest and at work; a digit, ENTER and CLEAR due to go down and up; a hold due and the chord due; a ghosted scan. -/
theorem witness_KeysAreScanned :
    let on (k : KeyState) : State := ready.modKeypad fun x => { x with scanning := true, keys := Vector.replicate 12 k }
    let hold : State := on { down := true, held := 2000, holdTime := 2000 }
    let chord : State := (on { down := true }).modKeypad fun x => { x with chordMs := some 10000 }
    let due : State := on { run := 2, due := true }
    ready.alive = true ∧ ready.keypad.scanning = false ∧ (on {}).keypad.scanning = true ∧ (on {}).scanDue = false ∧ due.scanDue = true ∧
      (∀ k ∈ [Key.digit 0, .enter, .clear], (on { run := 2, due := true }).keyDue k = true ∧ (on { down := true, run := 2, due := true }).keyDue k = true) ∧
      (∀ k ∈ [Key.enter, .clear], hold.holdDue k = true) ∧ chord.chordDue = true ∧
      (allKeys.countP fun k => (7 : BitVec 12).getLsbD (Key.index k).val) = 3 := by decide +kernel

/-- A digit in every state of the assembler but VERIFYING, with 0 and with 16 digits, and with NORMAL locked out. -/
theorem witness_DigitPresses :
    (∀ a ∈ [Assembler.idle, .digits, .recoveryWait, .recoveryDigits, .enrollFirst, .enrollSecond], ∀ n ∈ [0, 16],
      let s := withKey (withAsm ready a n) (.press (.digit 7) 5)
      s.asmTakes = true ∧ s.asmDiscards = false ∧ s.keypad.queue = [.press (.digit 7) 5] ∧ s.keypad.marker = none ∧ s.keypad.asm = a) ∧
      (withKey (normalAt (locked 1)) (.press (.digit 7) 5)).lockout.normal.lockedOut = true := by decide +kernel

/-- ENTER and its hold in every state of the assembler but VERIFYING; a RECOVERY slot; 6 and 16 digits. -/
theorem witness_EnterEvents :
    (∀ a ∈ [Assembler.idle, .digits, .recoveryWait, .recoveryDigits, .enrollFirst, .enrollSecond], ∀ n ∈ [0, 6, 16],
      ∀ e ∈ [KeyEvent.press .enter 5, .hold .enter],
      let s := withKey (withAsm (withSlot ready 3 .recovery) a n) e
      s.asmTakes = true ∧ s.asmDiscards = false ∧ s.keypad.queue = [e] ∧ s.keypad.marker = none ∧ s.keypad.buffer.length = n ∧
        (s.cslot 3).role = .recovery) := by decide +kernel

/-- CLEAR, its hold and the chord in every state of the assembler but VERIFYING; under a warning, in HALTED, and at the marker. -/
theorem witness_ClearAndChordEvents :
    (∀ a ∈ [Assembler.idle, .digits, .recoveryWait, .recoveryDigits, .enrollFirst, .enrollSecond],
      ∀ e ∈ [KeyEvent.press .clear 5, .hold .clear, .chord],
      let s := withKey (withAsm ready a 1) e
      s.asmTakes = true ∧ s.asmDiscards = false ∧ s.keypad.queue = [e] ∧ s.keypad.marker = none) ∧
      (withKey (halted ready) .chord).asmTakes = true ∧ (withKey (halted ready) .chord).asmDiscards = true ∧
      (withKey (ready.modKeypad fun k => { k with warned := true }) .chord).asmDiscards = true ∧
      ((withKey ready .chord).modKeypad fun k => { k with marker := some 1 }).asmTakes = true := by decide +kernel

/-- An event at the marker in every state of the assembler but VERIFYING, without and with a digit held. -/
theorem witness_ClearAndChordEvents_marker :
    ∀ a ∈ [Assembler.idle, .digits, .recoveryWait, .recoveryDigits, .enrollFirst, .enrollSecond], ∀ n ∈ [0, 1],
      ∀ e ∈ [KeyEvent.press (.digit 3) 5, .press .enter 5, .hold .enter, .press .clear 5, .hold .clear, .chord],
      let s := (withKey (withAsm ready a n) e).modKeypad fun k => { k with marker := some 1 }
      s.asmTakes = true ∧ s.asmDiscards = false ∧ s.keypad.queue = [e] ∧ s.keypad.marker = some 1 ∧
        (s.keypad.buffer = [] ↔ n = 0) := by decide +kernel

/-- An overrun in ENROLL_SECOND: the digits of the stage are discarded, the stage stays and its timeout reloads (R72). -/
theorem test_overrun_in_stage :
    let s := (withKey (withAsm ready .enrollSecond 3) (.press (.digit 3) 5)).modKeypad fun k => { k with marker := some 1 }
    let t := s.after (exec .digitPress s)
    t.keypad.buffer = [] ∧ t.keypad.asm = .enrollSecond ∧ t.keypad.timeout = some 60000 ∧ t.keypad.flash = some .reject := by
  decide +kernel

/-- The timers of an entry and of a stage, each order at work and in HALTED, with and without the marker at hand, a flash, and a pattern
of more phases than one. -/
theorem witness_KeypadOrdersAndTimers :
    (∀ a ∈ [Assembler.digits, .recoveryWait, .recoveryDigits], (withAsm ready a 1).alive = true ∧ (withAsm ready a 1).keypad.timeout.isSome = true ∧
      (withAsm ready a 1).keypad.asm.entering = true) ∧
      (∀ a ∈ [Assembler.enrollFirst, .enrollSecond], (withAsm ready a 1).keypad.timeout.isSome = true ∧ (withAsm ready a 1).keypad.asm.enrolling = true) ∧
      (∀ o ∈ [KeyOrder.enroll, .outcome true, .toIdle true], (ordered ready o).keypad.inbox = [o] ∧ (ordered ready o).keypad.halted = false ∧
        (ordered ready o).keypad.marker = none ∧ (ordered (halted ready) o).keypad.halted = true) ∧
      (ordered (withAsm ready .verifying 0) (.outcome true)).keypad.asm = .verifying ∧
      (ready.modKeypad fun k => { k with flash := some .reject }).keypad.flash.isSome = true ∧ 1 < ((halted ready).modKeypad fun k => { k with pattern := 1 }).phases.length := by decide +kernel

/-- A timer that runs out behind a key event; its expiry in its turn and not, overtaken and not; an order behind a key event. -/
theorem witness_KeypadOrdersAndTimers_turns :
    let late := withKey (withAsm ready .digits 1) .chord
    let turn (n : Nat) : State := (ordered (withAsm late .digits 1) .expiry).modKeypad fun k => { k with ahead := [n] }
    let again := (turn 0).modKeypad fun k => { k with timeout := some 9 }
    let order := (ordered late .enroll).modKeypad fun k => { k with ahead := [1] }
    late.keypad.queue ≠ [] ∧ late.keypad.inbox = [] ∧ late.keypad.timeout.isSome = true ∧ late.keypad.asm.entering = true ∧
      (turn 0).orderDue = true ∧ (turn 1).orderDue = false ∧ (turn 0).keypad.timeout = some 0 ∧ again.keypad.timeout ≠ some 0 ∧
      again.orderDue = true ∧ order.orderDue = false ∧ order.asmTakes = true := by decide +kernel

/-- An order given behind an ENTER press is taken after it (R74). -/
theorem test_order_behind_press :
    let s := (withKey ready (.press .enter 5)).tellKeypad .enroll
    s.after (exec .enrollOrder s) = s ∧
      ((s.after (exec .enterPress s)).after (exec .enrollOrder (s.after (exec .enterPress s)))).keypad.asm = .enrollFirst := by
  decide +kernel

/-- A commit at its first try and at its second, with no waiter and with each. -/
theorem witness_CommitOutcomes :
    let c (s : State) (ws : List Waiter) (again : Bool) : State := committing s (.domain .normal ⟨1, false⟩) ws again
    let e : State := c ((enrolling ready .slotCommit false).modCred fun c => { c with wait := .enroll }) [.credential] false
    (∀ b ∈ [false, true], ∀ ws ∈ [[], [Waiter.lockout], [.store], [.guard], [.credential]],
      (c ready ws b).alive = true ∧ (c ready ws b).memOk = true ∧ (c ready ws b).store.current.isSome = true ∧
        (c ready ws b).store.retrying = b) ∧
      (c (ready.modLockout fun l => { l with wait := .charge .normal }) [.lockout] false).lockout.wait = .charge .normal ∧
      (c (ready.modStore fun x => { x with setting := some (req .setPolicy []) }) [.store] false).store.setting.isSome = true ∧
      (c (ready.modGuard fun g => { g with wait := .commits 1 (.define (req .defineVolume [1]) 0 5 2) }) [.guard] false).guard.wait =
        .commits 1 (.define (req .defineVolume [1]) 0 5 2) ∧
      (c (ready.modGuard fun g => { g with wait := .commits 1 (.delete (req .deleteVolume [1]) 0) }) [.guard] false).guard.wait =
        .commits 1 (.delete (req .deleteVolume [1]) 0) ∧
      e.cred.wait = .enroll ∧ e.cred.enroll.any (fun x => x.stage = .slotCommit && !x.firstAdmin) = true := by decide +kernel

/-- The credential unit's commits: the first ADMIN enrollment's two, the store running and stopped; a REVOKE whose slot has the
window and one whose has not; the last but one and the last of a factory revocation and of a removal. -/
theorem witness_CommitOutcomes_credential :
    let c (s : State) (w : CredWait) : State := committing (s.modCred fun c => { c with wait := w }) (.slot 0 {}) [.credential] false
    let first (st : EnrollStage) : State := c (enrolling ready st true) .enroll
    let rev (s : State) : State := c s (.revoke (req .revoke [1]) .user 0)
    let a : Acceptance := { source := .brute, wipe := true, plan := .full, todo := [], stage := .removal 2 }
    let ok (s : State) : Prop := s.alive = true ∧ s.memOk = true ∧ s.store.current = some ⟨.slot 0 {}, [.credential]⟩
    (∀ st ∈ [EnrollStage.slotCommit, .deviceCommit], ok (first st) ∧ (first st).cred.wait = .enroll ∧
      (first st).cred.enroll.any (fun e => e.firstAdmin && e.stage = st) = true ∧ (first st).storeTakes = true) ∧
      ((first .slotCommit).modStore fun x => { x with mode := .finishing }).storeTakes = false ∧
      ok (rev (windowed ready false 9)) ∧ ((rev (windowed ready false 9)).cred.window.any fun w => w.slot = 0) = true ∧
      ok (rev ready) ∧ (rev ready).cred.window = none ∧ (∀ n ∈ [1, 2], ok (c ready (.factory n)) ∧ ok (c ready (.removal n))) ∧
      ((c ready (.removal 1)).modErase fun e => { e with job := .accept a }).erase.job = .accept a := by decide +kernel

/-- The guard's commits: one that another follows, a fault's, an acceptance's, a retirement's and an erase end's, with the job of the
engine that each answers; the engine's own, with the list empty and with a new head; the link's. -/
theorem witness_CommitOutcomes_engine :
    let c (s : State) (w : Waiter) : State := committing s (.eraseList []) [w] false
    let g (w : GuardWait) (j : Job) : State := c (((erasing (entry false 1 0)).modGuard fun g => { g with wait := w }).modErase fun e => { e with job := j }) .guard
    let e (j : Job) (l : List EraseEntry) : State := c (ready.modErase fun e => { e with job := j, list := l }) .engine
    let a (st : AcceptStage) : Acceptance := { source := .request (req .erase [1, 1]), wipe := false, plan := .quick, todo := [2], stage := st }
    let r := req .eraseControl [3]
    let ok (s : State) (w : Waiter) : Prop := s.alive = true ∧ s.memOk = true ∧ s.store.current = some ⟨.eraseList [], [w]⟩
    (∀ s ∈ [g (.commits 2 .faulted) .none, g (.commits 1 .faulted) .none, g (.commits 1 (.accepted 0)) (.accept (a (.guard 0))),
        g (.commits 1 (.retired 0)) (.accept (a (.guard 0))), g (.commits 1 (.ended 0)) (.endGuard 0),
        g (.commits 1 (.ended 0)) (.abortGuard r [1] 2 .none), g (.commits 1 (.ended 0)) (.abortGuard r [] 2 .none)], ok s .guard) ∧
      (∀ s ∈ [e (.endList .none true) [entry false 1 0], e (.endList .lockAll true) [], e (.abortList r 2 .halt) [],
        e (.accept (a (.merge false))) [entry true 1 0], e (.accept (a (.merge true))) [entry true 1 0]], ok s .engine) ∧
      ok (c (ready.modLink fun l => { l with ident := .commit }) .link) .link ∧
      ((e (.endList .none true) [entry false 1 0]).eraseHead = some (entry false 1 0)) ∧ r.offset = 0 ∧
      (∀ w ∈ (a (.guard 0)).todo, (g (.commits 1 (.accepted 0)) (.accept (a (.guard 0)))).walk (.request (req .erase [1, 1])) w ≠ .merge) := by
  decide +kernel

/-- The end of an entry, of an ABORT and of an acceptance with a head left that runs, at an open link (R118, R128). -/
theorem witness_CommitOutcomes_run :
    let a (st : AcceptStage) : Acceptance := { source := .brute, wipe := true, plan := .quick, todo := [], stage := st }
    let s (j : Job) : State :=
      committing ((linkOpen (erasing (entry true 1 0)) false false).modErase fun x => { x with job := j }) (.eraseList []) [.engine] false
    let g := committing ((s (.accept (a (.guard 0)))).modGuard fun g => { g with wait := .commits 1 (.accepted 0) }) (.eraseList []) [.guard] false
    ∀ u ∈ [s (.endList .none true), s (.abortList (req .eraseControl [3]) 1 .none), s (.accept (a (.merge false))), g],
      u.alive = true ∧ u.memOk = true ∧ runs { u with erase := { u.erase with job := .none } } = true ∧
        (u.after (exec (.commitDone .agrees) u)).link.granted = some .engine := by decide +kernel

/-- Two owners of one record: the DEVICE record of an identity and of the first ADMIN enrollment, or of a factory revocation; the SLOT
record of a DEFINE_VOLUME, alone left or one of two, and of a removal, a factory revocation or a REVOKE (R146). -/
theorem witness_CommitOutcomes_two :
    let dev (a b : Waiter) (u : State) : State :=
      committing (u.modLink fun l => { l with state := .fault, ident := .commit }) (.device ⟨true, 0⟩) [a, b] false
    let e : State := (enrolling { ready with device := .unprovisioned } .deviceCommit true).modCred fun c => { c with wait := .enroll }
    let f (n : Nat) : State := ready.modCred fun c => { c with wait := .factory n }
    let slot (a b : Waiter) (n : Nat) (w : CredWait) : State :=
      committing (((windowed ready false 9).modGuard fun g => { g with wait := .commits n (.define (req .defineVolume [1]) 0 5 2) }).modCred
        fun c => { c with wait := w }) (.slot 2 {}) [a, b] false
    let x : Request := { req .revoke [2] with slot := 9 }
    let t (s : State) : State := s.after (exec (.commitDone .agrees) s)
    (∀ p ∈ [(Waiter.link, Waiter.credential), (.credential, .link)], ∀ u ∈ [e, f 1, f 2], (dev p.1 p.2 u).alive = true ∧
      (dev p.1 p.2 u).memOk = true ∧ (dev p.1 p.2 u).store.current.isSome = true ∧ (t (dev p.1 p.2 u)).link.ident = .none) ∧
      (t (dev .link .credential e)).device = .ready ∧ (t (dev .link .credential e)).slotByte 3 32 = Status.ok.code ∧
      (∀ p ∈ [(Waiter.guard, Waiter.credential), (.credential, .guard)], ∀ n ∈ [1, 2],
        ∀ w ∈ [CredWait.removal 1, .removal 2, .factory 1, .revoke x .user 2],
        (slot p.1 p.2 n w).alive = true ∧ (slot p.1 p.2 n w).memOk = true ∧ (slot p.1 p.2 n w).store.current.isSome = true ∧
          ((t (slot p.1 p.2 n w)).guard.wait = .free ↔ n = 1)) ∧ x.slot ≠ (req .defineVolume [1]).slot ∧
      (t (slot .guard .credential 1 (.revoke x .user 0))).slotByte 9 32 = Status.ok.code ∧
      (t (slot .guard .credential 1 (.revoke x .user 0))).cred.window = none ∧
      (t (slot .credential .guard 1 (.removal 1))).slotByte 3 32 = Status.ok.code := by decide +kernel

/-- A second failure with each owner waiting. -/
theorem witness_CommitOutcomes_failed :
    let c (s : State) (w : Waiter) : State := committing s (.device ⟨true, 0⟩) [w] true
    let d := c (ready.modGuard fun g => { g with wait := .commits 1 (.define (req .defineVolume [1]) 0 5 2) }) .guard
    let e := c ((enrolling ready .slotCommit false).modCred fun c => { c with wait := .enroll }) .credential
    let v := c (ready.modCred fun c => { c with wait := .revoke (req .revoke [1]) .user 0 }) .credential
    let p := c (ready.modStore fun x => { x with setting := some (req .setPolicy []) }) .store
    let l := c (ready.modLockout fun l => { l with wait := .charge .normal }) .lockout
    (∀ s ∈ [d, e, v, p, l], s.alive = true ∧ s.memOk = true ∧ s.store.retrying = true ∧ s.store.current.isSome = true ∧
      s.device ≠ .halted ∧ s.device ≠ .starting) ∧
      (∀ s ∈ [d, e, v, p], (s.after (exec (.commitDone (.differs .old)) s)).slotByte 3 32 = Status.halted.code) ∧
      (l.after (exec (.commitDone (.differs .old)) l)).cred.inbox = [.signal .halt] := by decide +kernel

/-- The DEVICE commit of start-up, and a second failure while STARTING, a scan pending. -/
theorem witness_CommitOutcomes_starting :
    let u : State := { startingAt 6 with startUp := { next := 6, sixBegun := true, deviceCommit := true } }
    let s (ws : List Waiter) (again : Bool) : State :=
      committing (u.modExch fun x => { x with scanPending := true }) (.device ⟨true, 0⟩) ws again
    (s [.startUp] false).alive = true ∧ (s [.startUp] false).memOk = true ∧ (s [.startUp] false).store.current.isSome = true ∧
      (s [.startUp] false).startUp.deviceCommit = true ∧ (s [.startUp] true).store.retrying = true ∧
      (s [.startUp] true).device = .starting ∧ (s [.startUp] true).exch.scanPending = true ∧
      (s [.startUp] true).exch.warned = false := by decide +kernel

/-- A failed commit in STARTING takes the pending scan in HALTED: a LOCK that is POSTED ends HALTED, an IDENTIFY is taken (R171). -/
theorem test_failed_start_up :
    let p : State := ({ startingAt 6 with startUp := { next := 6, sixBegun := true } } : State).modExch fun x =>
      { x with scanPending := true, mem := writeBytes (writeBytes x.mem (slotAddr 0) [1, 0x20]) (slotAddr 1) [1, 0x01] }
    let s := committing p (.device ⟨true, 0⟩) [] true
    let t := s.after (exec (.commitDone (.differs .old)) s)
    t.device = .halted ∧ t.slotByte 0 0 = 3 ∧ t.slotByte 0 32 = Status.halted.code ∧ p.slotKind 0 = some .lock := by decide +kernel

end Sys2Proof.Tests
end

section
namespace Sys2Proof.Machine
set_option Elab.async false
variable {s t : State} {ps : List Part}

/-- The volumes stand as they stood when they are outside the frame. -/
theorem State.sameBut.vols (h : s.sameBut ps t) (w : ps.contains .volumes = false := by decide) :
    t.guard.vols = s.guard.vols := State.sameBut_agree h .volumes w

@[simp] theorem State.attend_vols (a : Attn) : (s.attend a).guard.vols = s.guard.vols := (State.attend_sameBut _).vols
@[simp] theorem State.setOwner_vols (n : RSlot) (b : Byte) : (s.setOwner n b).guard.vols = s.guard.vols :=
  (State.setOwner_sameBut _ _).vols
@[simp] theorem State.guardWaits_vols (w : GuardWait) : (s.guardWaits w).guard.vols = s.guard.vols :=
  (State.guardWaits_sameBut _).vols
@[simp] theorem State.popGuard_vols : (s.popGuard).guard.vols = s.guard.vols := State.popGuard_sameBut.vols
@[simp] theorem State.tellGuard_vols (o : GuardOrder) : (s.tellGuard o).guard.vols = s.guard.vols :=
  (State.tellGuard_sameBut _).vols
@[simp] theorem State.tellCred_vols (e : CredEvent) : (s.tellCred e).guard.vols = s.guard.vols :=
  (State.tellCred_sameBut _).vols
@[simp] theorem State.popCred_vols : (s.popCred).guard.vols = s.guard.vols := State.popCred_sameBut.vols
@[simp] theorem State.credWaits_vols (w : CredWait) : (s.credWaits w).guard.vols = s.guard.vols :=
  (State.credWaits_sameBut _).vols
@[simp] theorem State.tellKeypad_vols (o : KeyOrder) : (s.tellKeypad o).guard.vols = s.guard.vols :=
  (State.tellKeypad_sameBut _).vols
@[simp] theorem State.tellEngine_vols (e : EngineEvent) : (s.tellEngine e).guard.vols = s.guard.vols :=
  (State.tellEngine_sameBut _).vols
@[simp] theorem State.popEngine_vols : (s.popEngine).guard.vols = s.guard.vols := State.popEngine_sameBut.vols
@[simp] theorem State.setJob_vols (j : Job) : (s.setJob j).guard.vols = s.guard.vols := (State.setJob_sameBut _).vols
@[simp] theorem State.modEntry_vols (v : Vol) (g : EraseEntry → EraseEntry) : (s.modEntry v g).guard.vols = s.guard.vols :=
  (State.modEntry_sameBut _ _).vols
@[simp] theorem State.tellLockout_vols (e : LockEvent) : (s.tellLockout e).guard.vols = s.guard.vols :=
  (State.tellLockout_sameBut _).vols
@[simp] theorem State.popLockout_vols : (s.popLockout).guard.vols = s.guard.vols := State.popLockout_sameBut.vols
@[simp] theorem State.lockoutWaits_vols (w : LockWait) : (s.lockoutWaits w).guard.vols = s.guard.vols :=
  (State.lockoutWaits_sameBut _).vols
@[simp] theorem State.endVerify_vols : (s.endVerify).guard.vols = s.guard.vols := State.endVerify_sameBut.vols
@[simp] theorem State.clearEntry_vols : (s.clearEntry).guard.vols = s.guard.vols := State.clearEntry_sameBut.vols
@[simp] theorem State.asmIdle_vols : (s.asmIdle).guard.vols = s.guard.vols := State.asmIdle_sameBut.vols
@[simp] theorem State.asmTo_vols (a : Assembler) (m : Option Nat) : (s.asmTo a m).guard.vols = s.guard.vols :=
  (State.asmTo_sameBut _ _).vols
@[simp] theorem State.reloadTimeout_vols (m : Nat) : (s.reloadTimeout m).guard.vols = s.guard.vols :=
  (State.reloadTimeout_sameBut _).vols
@[simp] theorem State.appendDigit_vols (d : Digit) (m : Nat) : (s.appendDigit d m).guard.vols = s.guard.vols :=
  (State.appendDigit_sameBut _ _).vols
@[simp] theorem State.sampleKeypad_vols : (s.sampleKeypad).guard.vols = s.guard.vols := State.sampleKeypad_sameBut.vols
@[simp] theorem State.popKey_vols : (s.popKey).guard.vols = s.guard.vols := State.popKey_sameBut.vols
@[simp] theorem State.toStep_vols (n : Nat) : (s.toStep n).guard.vols = s.guard.vols := (State.toStep_sameBut _).vols
@[simp] theorem State.emptySlot_vols (i : CSlot) : (s.emptySlot i).guard.vols = s.guard.vols := (State.emptySlot_sameBut _).vols
@[simp] theorem State.refresh_vols (x : Section) : (s.refresh x).guard.vols = s.guard.vols :=
  (State.refresh_sameBut x).vols (by cases x <;> rfl)
@[simp] theorem State.refreshEntries_vols (on : Domain → Bool) : (s.refreshEntries on).guard.vols = s.guard.vols :=
  (State.refreshEntries_sameBut _).vols
@[simp] theorem State.settle_vols : (s.settle).guard.vols = s.guard.vols := State.settle_sameBut.vols
@[simp] theorem State.handAll_vols (x : Signal) : (s.handAll x).guard.vols = s.guard.vols := (State.handAll_sameBut _).vols
@[simp] theorem State.dropSignal_vols (x : Signal) (b : Block) : (s.dropSignal x b).guard.vols = s.guard.vols :=
  (State.dropSignal_sameBut _ _).vols
@[simp] theorem State.sample_vols (x : Int) : (s.sample x).guard.vols = s.guard.vols := (State.sample_sameBut _).vols
@[simp] theorem State.queueRec_vols (r : Rec) (ws : List Waiter) : (s.queueRec r ws).guard.vols = s.guard.vols :=
  (State.queueRec_sameBut _ _).vols
@[simp] theorem State.enterHalted_vols : (s.enterHalted).guard.vols = s.guard.vols := State.enterHalted_sameBut.vols
@[simp] theorem State.finishNow_vols (n : RSlot) (off : Int) (st : Status) : (s.finishNow n off st).guard.vols = s.guard.vols :=
  (State.finishNow_sameBut _ _ _).vols
@[simp] theorem State.complete_vols (r : Request) (st : Status) (d : Nat) (l : List Byte) : (s.complete r st d l).guard.vols = s.guard.vols :=
  (State.complete_sameBut _ _ _ _).vols
@[simp] theorem State.pendingScan_vols : (s.pendingScan).guard.vols = s.guard.vols := State.pendingScan_sameBut.vols
@[simp] theorem State.scanRequest_vols : (s.scanRequest).guard.vols = s.guard.vols := State.scanRequest_sameBut.vols
@[simp] theorem State.dropGrant_vols : (s.dropGrant).guard.vols = s.guard.vols := State.dropGrant_sameBut.vols
@[simp] theorem State.boundary_vols : (s.boundary).guard.vols = s.guard.vols := State.boundary_sameBut.vols
@[simp] theorem State.linkReady_vols : (s.linkReady).guard.vols = s.guard.vols := State.linkReady_sameBut.vols
@[simp] theorem State.handBack_vols (q : Requester) : (s.handBack q).guard.vols = s.guard.vols :=
  (State.handBack_sameBut _).vols
@[simp] theorem State.withdrawSector_vols : (s.withdrawSector).guard.vols = s.guard.vols := State.withdrawSector_sameBut.vols
@[simp] theorem State.withdrawEngine_vols : (s.withdrawEngine).guard.vols = s.guard.vols := State.withdrawEngine_sameBut.vols
@[simp] theorem State.issue_vols (f : InFlight) : (s.issue f).guard.vols = s.guard.vols := (State.issue_sameBut _).vols
@[simp] theorem State.guardFailed_vols : (s.guardFailed).guard.vols = s.guard.vols := State.guardFailed_sameBut.vols
@[simp] theorem State.guardCommit_vols (l : List Rec) (n : Nat) (k : GuardThen) : (s.guardCommit l n k).guard.vols = s.guard.vols :=
  (State.guardCommit_sameBut _ _ _).vols
@[simp] theorem State.giveFlash_vols (o : OneShot) : (s.giveFlash o).guard.vols = s.guard.vols :=
  (State.giveFlash_sameBut _).vols
@[simp] theorem State.pushKey_vols (e : KeyEvent) : (s.pushKey e).guard.vols = s.guard.vols := (State.pushKey_sameBut _).vols
@[simp] theorem State.markerStep_vols : (s.markerStep).guard.vols = s.guard.vols := State.markerStep_sameBut.vols
@[simp] theorem State.handEntry_vols (d : Domain) : (s.handEntry d).guard.vols = s.guard.vols :=
  (State.handEntry_sameBut _).vols
@[simp] theorem State.leaveVerifying_vols (o : Option OneShot) : (s.leaveVerifying o).guard.vols = s.guard.vols :=
  (State.leaveVerifying_sameBut _).vols
@[simp] theorem State.modDomain_vols (d : Domain) (g : DomainState → DomainState) : (s.modDomain d g).guard.vols = s.guard.vols :=
  (State.modDomain_sameBut _ _).vols
@[simp] theorem State.queueDomain_vols (d : Domain) : (s.queueDomain d).guard.vols = s.guard.vols :=
  (State.queueDomain_sameBut _).vols
@[simp] theorem State.startLockout_vols (d : Domain) : (s.startLockout d).guard.vols = s.guard.vols :=
  (State.startLockout_sameBut _).vols
@[simp] theorem State.bruteForce_vols (d : Domain) : (s.bruteForce d).guard.vols = s.guard.vols :=
  (State.bruteForce_sameBut _).vols
@[simp] theorem State.wipeDone_vols (d : Domain) : (s.wipeDone d).guard.vols = s.guard.vols := (State.wipeDone_sameBut _).vols
@[simp] theorem State.tickDomain_vols (d : Domain) : (s.tickDomain d).guard.vols = s.guard.vols :=
  (State.tickDomain_sameBut _).vols
@[simp] theorem State.takeTicks_vols : (s.takeTicks).guard.vols = s.guard.vols := State.takeTicks_sameBut.vols
@[simp] theorem State.lockoutRelease_vols : (s.lockoutRelease).guard.vols = s.guard.vols := State.lockoutRelease_sameBut.vols
@[simp] theorem State.examine_vols (d : Domain) : ((s.examine d).1).guard.vols = s.guard.vols := (State.examine_sameBut _).vols
@[simp] theorem State.openWindow_vols (i : CSlot) (k : Kek) : (s.openWindow i k).guard.vols = s.guard.vols :=
  (State.openWindow_sameBut _ _).vols
@[simp] theorem State.shutWindow_vols : (s.shutWindow).guard.vols = s.guard.vols := State.shutWindow_sameBut.vols
@[simp] theorem State.rearmWindow_vols (g : Bool → Bool) : (s.rearmWindow g).guard.vols = s.guard.vols :=
  (State.rearmWindow_sameBut _).vols
@[simp] theorem State.endEnroll_vols (st : Status) (l : List Byte) (k : KeypadEnd) : (s.endEnroll st l k).guard.vols = s.guard.vols :=
  (State.endEnroll_sameBut _ _ _).vols
@[simp] theorem State.stopEnroll_vols (st : Status) (k : KeypadEnd) : (s.stopEnroll st k).guard.vols = s.guard.vols :=
  (State.stopEnroll_sameBut _ _).vols
@[simp] theorem State.closeWindow_vols : (s.closeWindow).guard.vols = s.guard.vols := State.closeWindow_sameBut.vols
@[simp] theorem State.takeWindowTicks_vols : (s.takeWindowTicks).guard.vols = s.guard.vols := State.takeWindowTicks_sameBut.vols
@[simp] theorem State.beforeQuery_vols (b : Bool) : (s.beforeQuery b).guard.vols = s.guard.vols :=
  (State.beforeQuery_sameBut _).vols
@[simp] theorem State.credRelease_vols : (s.credRelease).guard.vols = s.guard.vols := State.credRelease_sameBut.vols
@[simp] theorem State.noMatch_vols (d : Domain) : (s.noMatch d).guard.vols = s.guard.vols := (State.noMatch_sameBut _).vols
@[simp] theorem State.searchFrom_vols (v : Verification) (i : Nat) : (s.searchFrom v i).guard.vols = s.guard.vols :=
  (State.searchFrom_sameBut _ _).vols
@[simp] theorem State.matched_vols (d : Domain) (i : CSlot) (k : Kek) : (s.matched d i k).guard.vols = s.guard.vols :=
  (State.matched_sameBut _ _ _).vols
@[simp] theorem State.wipeMatched_vols (d : Domain) (i : CSlot) : (s.wipeMatched d i).guard.vols = s.guard.vols :=
  (State.wipeMatched_sameBut _ _).vols
@[simp] theorem State.duplicateFrom_vols (e : Enrollment) (d : Domain) (i : Nat) : (s.duplicateFrom e d i).guard.vols = s.guard.vols :=
  (State.duplicateFrom_sameBut _ _ _).vols
@[simp] theorem State.removeWraps_vols (v : Vol) (ws : List Waiter) : (s.removeWraps v ws).guard.vols = s.guard.vols :=
  (State.removeWraps_sameBut _ _).vols
@[simp] theorem State.removalEndsEnroll_vols (v : Vol) : (s.removalEndsEnroll v).guard.vols = s.guard.vols :=
  (State.removalEndsEnroll_sameBut _).vols
@[simp] theorem State.credFailed_vols : (s.credFailed).guard.vols = s.guard.vols := State.credFailed_sameBut.vols
@[simp] theorem State.checkpointHead_vols : (s.checkpointHead).guard.vols = s.guard.vols := State.checkpointHead_sameBut.vols
@[simp] theorem State.engineAsk_vols : (s.engineAsk).guard.vols = s.guard.vols := State.engineAsk_sameBut.vols
@[simp] theorem State.engineRun_vols : (s.engineRun).guard.vols = s.guard.vols := State.engineRun_sameBut.vols
@[simp] theorem State.engineStops_vols : (s.engineStops).guard.vols = s.guard.vols := State.engineStops_sameBut.vols
@[simp] theorem State.applyReply_vols (v : Vol) (b : Bool) (o : StripeOutcome) : (s.applyReply v b o).guard.vols = s.guard.vols :=
  (State.applyReply_sameBut _ _ _).vols
@[simp] theorem State.dueCheckpoint_vols (v : Vol) : (s.dueCheckpoint v).guard.vols = s.guard.vols :=
  (State.dueCheckpoint_sameBut _).vols
@[simp] theorem State.accept_vols (x : AcceptSource) (w : Bool) (p : Plan) (l : List Vol) : (s.accept x w p l).guard.vols = s.guard.vols :=
  (State.accept_sameBut _ _ _ _).vols
@[simp] theorem State.removalDone_vols : (s.removalDone).guard.vols = s.guard.vols := State.removalDone_sameBut.vols
@[simp] theorem State.abortFrom_vols (r : Request) (n : Nat) (a : Action) (l : List Vol) : (s.abortFrom r n a l).guard.vols = s.guard.vols :=
  (State.abortFrom_sameBut _ _ _ _).vols
@[simp] theorem State.handOrphans_vols : (s.handOrphans).guard.vols = s.guard.vols := State.handOrphans_sameBut.vols
@[simp] theorem State.replyTaken_vols (v : Vol) : (s.replyTaken v).guard.vols = s.guard.vols :=
  (State.replyTaken_sameBut _).vols
@[simp] theorem State.setHold_vols (b : Bool) (g : Erase → Erase) : (s.setHold b g).guard.vols = s.guard.vols :=
  (State.setHold_sameBut _ _).vols
@[simp] theorem State.clearHold_vols (g : Erase → Erase) : (s.clearHold g).guard.vols = s.guard.vols :=
  (State.clearHold_sameBut _).vols
@[simp] theorem State.linkFaulted_vols : (s.linkFaulted).guard.vols = s.guard.vols := State.linkFaulted_sameBut.vols
@[simp] theorem State.extentLost_vols (v : Vol) : (s.extentLost v).guard.vols = s.guard.vols :=
  (State.extentLost_sameBut _).vols

end Sys2Proof.Machine
end

section
namespace Sys2Proof.Machine
set_option Elab.async false
variable {s t u : State} {ps : List Part}

/-! ### Volumes -/

/-- A volume is what the table holds. -/
theorem State.vol_congr (h : t.guard.vols = s.guard.vols) (v : Vol) : t.vol v = s.vol v := by simp only [State.vol, h]

/-- A reloaded timer is reloaded once. -/
@[simp] theorem Volume.reloaded_reloaded (x : Volume) : x.reloaded.reloaded = x.reloaded := by
  unfold Volume.reloaded
  by_cases h : x.isOpen <;> simp_all [Volume.isOpen]

/-- A volume that is not open has no timer to reload. -/
theorem Volume.reloaded_of_shut {x : Volume} (h : x.isOpen = false) : x.reloaded = x := by simp [Volume.reloaded, h]

/-- No volume has changed but by a reload of its idle timer (R9). -/
def State.reloadsOnly (s t : State) : Prop := ∀ v, t.vol v = s.vol v ∨ t.vol v = (s.vol v).reloaded

/-- With the table as it was nothing was even reloaded. -/
theorem State.reloadsOnly_of_vols (h : t.guard.vols = s.guard.vols) : s.reloadsOnly t := fun v => .inl (State.vol_congr h v)

/-- Reloads one after the other. -/
theorem State.reloadsOnly.trans (h : s.reloadsOnly t) (k : t.reloadsOnly u) : s.reloadsOnly u := fun v => by
  rcases h v with h | h <;> rcases k v with k | k <;> simp [h, k]

/-- A step within a frame without the volumes reloads nothing. -/
theorem State.sameBut.reloadsOnly (h : s.sameBut ps t) (w : ps.contains .volumes = false := by decide) : s.reloadsOnly t :=
  State.reloadsOnly_of_vols (h.vols w)

/-- What a reload does to each volume. -/
theorem State.reloadIdle_vol (v w : Vol) : (s.reloadIdle v).vol w = if v = w then (s.vol w).reloaded else s.vol w := by
  rw [State.reloadIdle, State.modVol_vol]
  split_ifs with h <;> simp [h]

/-- A reload. -/
theorem State.reloadIdle_reloadsOnly (v : Vol) : s.reloadsOnly (s.reloadIdle v) := fun w => by
  rw [State.reloadIdle_vol]; split_ifs <;> simp

/-- The end of a request that is no longer active. -/
theorem State.reloadFor_reloadsOnly (r : Request) : s.reloadsOnly (s.reloadFor r) := by
  unfold State.reloadFor
  split_ifs
  · split
    · exact State.reloadIdle_reloadsOnly _
    · exact State.reloadsOnly_of_vols rfl
  · exact State.reloadsOnly_of_vols rfl

/-- The volume whose idle timer the end of the active sector request reloads (R9). -/
def State.endedVol (s : State) : Option Vol :=
  s.sectorHead.bind fun r => if s.sector.phase = .deciding then volOfIndex (r.byte 4).toNat else some s.sector.vol

/-- The active sector request let go, its slot not yet completed: an unused grant handed back, no order of it left at the guard,
the filled buffers zeroed where the status calls for it, the path idle (R17, R91). -/
def State.sectorReleased (s : State) (st : Status) : State :=
  let t := s.withdrawSector.modGuard fun g =>
    { g with inbox := g.inbox.filter fun o => o ≠ .sectorCheck && o ≠ .sectorDecision }
  let u := if !s.sector.write && st.zeroes then
      t.modExch fun x => { x with mem := zeroBuffers s.sector.firstBuf s.sector.done x.mem }
    else t
  u.modSector fun q => { warned := q.warned }

/-- Without a request at the head of its queue the sector path ends none. -/
theorem State.endSector_of_none (h : s.sectorHead = none) (st : Status) : s.endSector st = s := by simp [State.endSector, h]

/-- The end of the active request: let go, completed, the idle timer of its volume reloaded (R91, R9). -/
theorem State.endSector_of_head {r : Request} (h : s.sectorHead = some r) (st : Status) :
    s.endSector st =
      match s.endedVol with
      | some v => ((s.sectorReleased st).complete r st s.sector.done (s.sector.results st)).reloadIdle v
      | none => (s.sectorReleased st).complete r st s.sector.done (s.sector.results st) := by
  simp only [State.endSector, State.endedVol, h, Option.bind_some]
  rfl

/-- Letting a request go concerns no volume. -/
@[simp] theorem State.sectorReleased_vols (st : Status) : (s.sectorReleased st).guard.vols = s.guard.vols := by
  unfold State.sectorReleased
  extract_lets t u
  have hu : u.guard.vols = t.guard.vols := by unfold u; split_ifs <;> rfl
  exact hu.trans (State.withdrawSector_vols)

/-- What the end of a sector request does to each volume. -/
theorem State.endSector_vol (st : Status) (w : Vol) :
    (s.endSector st).vol w = if s.endedVol = some w then (s.vol w).reloaded else s.vol w := by
  cases h : s.sectorHead with
  | none => simp [State.endSector_of_none h, State.endedVol, h]
  | some r =>
    have hc : ((s.sectorReleased st).complete r st s.sector.done (s.sector.results st)).vol w = s.vol w :=
      State.vol_congr (by simp) w
    rw [State.endSector_of_head h]
    cases s.endedVol with
    | none => simpa using hc
    | some v => simp only [State.reloadIdle_vol, hc, Option.some.injEq]

/-- The end of a sector request reloads at most its volume's timer. -/
theorem State.endSector_reloadsOnly (st : Status) : s.reloadsOnly (s.endSector st) := fun w => by
  rw [State.endSector_vol]; split_ifs <;> simp

/-- An order ends the active request. -/
theorem State.stopSector_reloadsOnly (st : Status) : s.reloadsOnly (s.stopSector st) := by
  unfold State.stopSector
  split
  case h_3 => split_ifs <;> exact State.reloadsOnly_of_vols rfl
  case h_1 | h_2 => exact State.reloadsOnly_of_vols rfl
  all_goals exact State.endSector_reloadsOnly st

/-- A volume that is not open leaves the table as it stands: its active request has no timer to reload. -/
theorem State.volumeLeft_vol {v : Vol} (h : (s.vol v).isOpen = false) (w : Vol) : (s.volumeLeft v).vol w = s.vol w := by
  have ends (hv : s.sector.vol = v) (hp : s.sector.phase ≠ .deciding) : (s.endSector .lockedDuring).vol w = s.vol w := by
    rw [State.endSector_vol]
    split_ifs with hw
    · have : v = w := by
        cases hs : s.sectorHead <;> simp [State.endedVol, hs, hp, hv] at hw
        exact hw
      exact Volume.reloaded_of_shut (this ▸ h)
    · rfl
  unfold State.volumeLeft
  split_ifs with hv
  · unfold State.stopSector
    rcases hv.2 with hp | hp | hp <;> simp only [hp]
    · exact ends hv.1 (by simp [hp])
    · exact ends hv.1 (by simp [hp])
    · split_ifs <;> rfl
  · rfl

/-- The sector path asks for the link. -/
theorem State.askSector_reloadsOnly : s.reloadsOnly s.askSector := by
  unfold State.askSector
  split_ifs
  · exact State.endSector_reloadsOnly _
  · exact State.endSector_reloadsOnly _
  · exact State.reloadsOnly_of_vols (by simp)

/-- A sector is done. -/
theorem State.advanceSector_reloadsOnly : s.reloadsOnly s.advanceSector := by
  unfold State.advanceSector
  extract_lets -lift t
  have ht : s.reloadsOnly t := State.reloadsOnly_of_vols rfl
  split_ifs
  · exact (ht.trans (State.endSector_reloadsOnly _)).trans State.boundary_sameBut.reloadsOnly
  · exact ht.trans State.askSector_reloadsOnly

/-- The sector path applies a reply. -/
theorem State.sectorReply_reloadsOnly (r : Reply) : s.reloadsOnly (s.sectorReply r) := by
  have ends (t : State) (st : Status) : t.reloadsOnly (t.endSector st).boundary :=
    (State.endSector_reloadsOnly _).trans State.boundary_sameBut.reloadsOnly
  have counted (t : State) (g : SectorPath → SectorPath) : t.reloadsOnly (t.modSector g) := State.reloadsOnly_of_vols rfl
  unfold State.sectorReply
  extract_lets -lift t
  have ht : s.reloadsOnly t := State.reloadsOnly_of_vols rfl
  refine ht.trans ?_
  clear_value t
  split
  · refine State.reloadsOnly.trans ?_ (ends _ _)
    change t.reloadsOnly (if _ then _ else t)
    split
    · exact counted _ _
    · exact State.reloadsOnly_of_vols rfl
  · split
    · exact (counted _ _).trans (ends _ _)
    · split
      · exact (State.reloadsOnly_of_vols (by simp)).trans State.advanceSector_reloadsOnly
      · exact ends _ _
    · exact State.boundary_sameBut.reloadsOnly
    · exact State.advanceSector_reloadsOnly
    · exact State.boundary_sameBut.reloadsOnly

/-- The link enters FAULT. -/
theorem State.enterFault_reloadsOnly : s.reloadsOnly s.enterFault := by
  unfold State.enterFault
  extract_lets -lift t u w
  have hu : s.reloadsOnly u := State.reloadsOnly_of_vols (by simp [u, t])
  have hw : s.reloadsOnly w := by
    unfold w
    split <;> first | exact hu | exact hu.trans (State.endSector_reloadsOnly _)
  split_ifs
  · exact hw.trans (State.reloadsOnly_of_vols rfl)
  · exact hw.trans (State.reloadsOnly_of_vols rfl)

/-- A command is given up. -/
theorem State.giveUp_reloadsOnly (f : InFlight) : s.reloadsOnly (s.giveUp f) := by
  unfold State.giveUp
  have ht : s.reloadsOnly s.linkReady := State.linkReady_sameBut.reloadsOnly
  split
  · exact (ht.trans (State.endSector_reloadsOnly _)).trans State.boundary_sameBut.reloadsOnly
  · exact ht.trans (State.stripeReplied_sameBut _).reloadsOnly
  · exact State.reloadsOnly_of_vols (by simp)

/-- A command fails. -/
theorem State.commandFails_reloadsOnly (f : InFlight) : s.reloadsOnly (s.commandFails f) := by
  unfold State.commandFails
  split_ifs
  · exact State.reloadsOnly_of_vols (by simp)
  · exact State.giveUp_reloadsOnly f
  · exact State.enterFault_reloadsOnly
  · exact State.reloadsOnly_of_vols (by simp)

/-- Waiting requests are completed. -/
theorem State.endWaiting_reloadsOnly (st : Status) (a b : Bool) : s.reloadsOnly (s.endWaiting st a b) := by
  have fold (l : List Request) (u : State) (hu : s.reloadsOnly u) :
      s.reloadsOnly (l.foldl (fun t r => (t.complete r st 0 []).reloadFor r) u) := by
    induction l generalizing u with
    | nil => exact hu
    | cons r l ih =>
      exact ih _ ((hu.trans (State.complete_sameBut r st 0 []).reloadsOnly).trans (State.reloadFor_reloadsOnly r))
  exact fold _ _ (State.reloadsOnly_of_vols rfl)

/-- The identity is taken: no volume is concerned. -/
@[simp] theorem State.identDone_vols : s.identDone.guard.vols = s.guard.vols := by
  unfold State.identDone
  extract_lets probe t u w
  have hu : u.guard.vols = t.guard.vols := by unfold u; split <;> simp
  have hw : w.guard.vols = s.guard.vols := hu.trans (by simp [t])
  split <;> simp [hw]

end Sys2Proof.Machine
end

section
namespace Sys2Proof.Machine
set_option Elab.async false
variable {s t u : State} {ps : List Part}

/-! ### What the steps of the units leave to the guard: the volumes -/

@[simp] theorem State.setSlot_vols (i : CSlot) (c : CredSlot) : (s.setSlot i c).guard.vols = s.guard.vols := rfl

@[simp] theorem State.acceptKey_vols (x : Key) : (s.acceptKey x).guard.vols = s.guard.vols := by
  unfold State.acceptKey
  extract_lets y t t'
  split_ifs <;> simp [t, t']

@[simp] theorem State.giveHold_vols (x : Key) : (s.giveHold x).guard.vols = s.guard.vols := by simp [State.giveHold]
@[simp] theorem State.giveChord_vols : s.giveChord.guard.vols = s.guard.vols := by simp [State.giveChord]

@[simp] theorem State.catchUp_vols : s.catchUp.guard.vols = s.guard.vols := by
  have fold (l : List Key) (t : State) :
      (l.foldl (fun t x => if t.keyDue x then t.acceptKey x else t) t).guard.vols = t.guard.vols := by
    induction l generalizing t with
    | nil => rfl
    | cons x l ih => rw [List.foldl_cons, ih]; split_ifs <;> simp
  unfold State.catchUp
  extract_lets t u v
  have hu : u.guard.vols = s.guard.vols := by unfold u; split_ifs <;> simp [t, fold]
  have hv : v.guard.vols = s.guard.vols := by unfold v; split_ifs <;> simp [hu]
  split_ifs <;> simp [hv]

@[simp] theorem State.keyScan_vols (levels : BitVec 12) : (s.keyScan levels).guard.vols = s.guard.vols := by
  unfold State.keyScan
  split_ifs <;> simp

@[simp] theorem State.entryDigit_vols (d : Digit) (n ms : Nat) : (s.entryDigit d n ms).guard.vols = s.guard.vols := by
  unfold State.entryDigit
  split_ifs <;> simp

@[simp] theorem State.digitPress_vols (d : Digit) (n : Nat) : (s.digitPress d n).guard.vols = s.guard.vols := by
  unfold State.digitPress
  split
  · split_ifs <;> simp
  all_goals simp

@[simp] theorem State.discard_vols (o : OneShot) : (s.discard o).guard.vols = s.guard.vols := by simp [State.discard]

@[simp] theorem State.enterDigits_vols : s.enterDigits.guard.vols = s.guard.vols := by
  unfold State.enterDigits; split_ifs <;> simp

@[simp] theorem State.enterRecovery_vols : s.enterRecovery.guard.vols = s.guard.vols := by
  unfold State.enterRecovery; split_ifs <;> simp

@[simp] theorem State.enterFirst_vols : s.enterFirst.guard.vols = s.guard.vols := by
  unfold State.enterFirst; split_ifs <;> simp

@[simp] theorem State.enterSecond_vols : s.enterSecond.guard.vols = s.guard.vols := by
  unfold State.enterSecond; split_ifs <;> simp

@[simp] theorem State.enterPress_vols : s.enterPress.guard.vols = s.guard.vols := by
  unfold State.enterPress; split <;> simp

@[simp] theorem State.enterHold_vols : s.enterHold.guard.vols = s.guard.vols := by
  unfold State.enterHold
  split
  · split_ifs <;> simp
  all_goals simp

@[simp] theorem State.clearIdle_vols : s.clearIdle.guard.vols = s.guard.vols := by
  unfold State.clearIdle; split_ifs <;> simp

@[simp] theorem State.leaveStage_vols (why : EarlyEnd) : (s.leaveStage why).guard.vols = s.guard.vols := by
  simp [State.leaveStage]

@[simp] theorem State.clearEvent_vols : s.clearEvent.guard.vols = s.guard.vols := by
  unfold State.clearEvent; split <;> simp

@[simp] theorem State.chordEvent_vols : s.chordEvent.guard.vols = s.guard.vols := by
  unfold State.chordEvent; split <;> simp

@[simp] theorem State.enrollOrder_vols : s.enrollOrder.guard.vols = s.guard.vols := by simp [State.enrollOrder]

@[simp] theorem State.outcome_vols (b : Bool) : (s.outcome b).guard.vols = s.guard.vols := by
  unfold State.outcome; split_ifs <;> simp

@[simp] theorem State.returnIdle_vols (b : Bool) : (s.returnIdle b).guard.vols = s.guard.vols := by
  unfold State.returnIdle; split_ifs <;> simp

@[simp] theorem State.charge_vols (d : Domain) : (s.charge d).guard.vols = s.guard.vols := by
  unfold State.charge; extract_lets t; split_ifs <;> simp [t]

@[simp] theorem State.matchOutcome_vols (d : Domain) : (s.matchOutcome d).guard.vols = s.guard.vols := by
  simp [State.matchOutcome, State.refreshEntry]

@[simp] theorem State.noMatchOutcome_vols (d : Domain) : (s.noMatchOutcome d).guard.vols = s.guard.vols := by
  unfold State.noMatchOutcome; extract_lets x; split_ifs <;> simp [State.refreshEntry]

@[simp] theorem State.examined_vols : s.examined.guard.vols = s.guard.vols := by simp [State.examined]

@[simp] theorem State.examineThen_vols (d : Domain) (k : State → State) (h : ∀ t, (k t).guard.vols = t.guard.vols) :
    (s.examineThen d k).guard.vols = s.guard.vols := by
  unfold State.examineThen; extract_lets r; split_ifs <;> simp [r, h]

@[simp] theorem State.examineAfter_vols (d : Domain) : (s.examineAfter d).guard.vols = s.guard.vols := by
  cases d <;> simp [State.examineAfter]

@[simp] theorem State.acceptanceDone_vols (d : Domain) : (s.acceptanceDone d).guard.vols = s.guard.vols := by
  unfold State.acceptanceDone; extract_lets t u; split_ifs <;> simp [u, t, State.refreshEntry]

@[simp] theorem State.takeAcceptance_vols (d : Domain) : (s.takeAcceptance d).guard.vols = s.guard.vols := by
  unfold State.takeAcceptance; split_ifs <;> simp

@[simp] theorem State.factoryClear_vols : s.factoryClear.guard.vols = s.guard.vols := by
  unfold State.factoryClear; extract_lets was t u; split_ifs <;> simp [u, t]

@[simp] theorem State.unlessHalted_vols (g : State → State) (h : ∀ t, (g t).guard.vols = t.guard.vols) :
    (s.unlessHalted g).guard.vols = s.guard.vols := by
  unfold State.unlessHalted; split_ifs <;> simp [h]

@[simp] theorem State.entryHanded_vols (l : List Digit) (d : Domain) (b : Bool) :
    (s.entryHanded l d b).guard.vols = s.guard.vols := by
  unfold State.entryHanded; split_ifs <;> simp

@[simp] theorem State.chargeReported_vols : s.chargeReported.guard.vols = s.guard.vols := by
  unfold State.chargeReported
  split
  · split_ifs <;> simp
  · rfl

@[simp] theorem State.searchDone_vols (v : Verification) (i : CSlot) (b : Bool) (x : BitVec 256) :
    (s.searchDone v i b x).guard.vols = s.guard.vols := by
  unfold State.searchDone; split_ifs <;> simp

@[simp] theorem State.fillSlot_vols (e : Enrollment) (x : BitVec 256) : (s.fillSlot e x).guard.vols = s.guard.vols := by
  unfold State.fillSlot; extract_lets t u; split_ifs <;> simp [u, t]

@[simp] theorem State.enrollDerived_vols (e : Enrollment) (x : BitVec 256) :
    (s.enrollDerived e x).guard.vols = s.guard.vols := by
  unfold State.enrollDerived
  split
  · split_ifs
    · simp
    · split <;> simp
  all_goals simp

@[simp] theorem State.derived_vols (x : Derivation) : (s.derived x).guard.vols = s.guard.vols := by
  unfold State.derived
  extract_lets out t
  split
  · split <;> simp [t]
  all_goals simp [t]

@[simp] theorem State.derivationEnds_vols (x : Derivation) : (s.derivationEnds x).guard.vols = s.guard.vols := by
  unfold State.derivationEnds; split_ifs <;> simp

@[simp] theorem State.beginEnroll_vols (r : Request) : (s.beginEnroll r).guard.vols = s.guard.vols := by
  unfold State.beginEnroll
  split_ifs
  case neg => split <;> simp
  all_goals simp

@[simp] theorem State.secondEntry_vols (e : Enrollment) (l : List Digit) : (s.secondEntry e l).guard.vols = s.guard.vols := by
  unfold State.secondEntry
  split_ifs
  case neg => split <;> simp
  all_goals simp

@[simp] theorem State.enrollEntry_vols (l : List Digit) : (s.enrollEntry l).guard.vols = s.guard.vols := by
  unfold State.enrollEntry
  split
  · rfl
  · split <;> simp

/-- An authorized answer leaves the volumes. -/
theorem State.authorize_vols (h : s.authorize = some t) : t.guard.vols = s.guard.vols := (State.authorize_sameBut h).vols

@[simp] theorem State.revokeRequest_vols (r : Request) : (s.revokeRequest r).guard.vols = s.guard.vols := by
  unfold State.revokeRequest
  split
  · simp
  · rename_i t h
    split
    · simp [State.authorize_vols h]
    · extract_lets c u
      split_ifs <;> simp [u, State.authorize_vols h]

@[simp] theorem State.wrapAndAdd_vols (v : Vol) (k : MediaKey) : (s.wrapAndAdd v k).guard.vols = s.guard.vols := by
  unfold State.wrapAndAdd
  split
  · split <;> simp [State.addWrap]
  · rfl

@[simp] theorem State.removal_vols (v : Vol) : (s.removal v).guard.vols = s.guard.vols := by
  unfold State.removal; extract_lets n t; split_ifs <;> simp [t]

@[simp] theorem State.lockClosed_vols : s.lockClosed.guard.vols = s.guard.vols := by
  unfold State.lockClosed; split <;> simp

@[simp] theorem State.emptySlots_vols (l : List CSlot) : (s.emptySlots l).guard.vols = s.guard.vols := by
  induction l generalizing s with
  | nil => rfl
  | cons i l ih => unfold State.emptySlots; split_ifs <;> simp [ih]

@[simp] theorem State.factoryRevoke_vols : s.factoryRevoke.guard.vols = s.guard.vols := by
  unfold State.factoryRevoke; extract_lets n t u; split_ifs <;> simp [u, t]

theorem State.serveErase_vols (r : Request) {g : State → State} (h : ∀ t, (g t).guard.vols = t.guard.vols) :
    (s.serveErase r g).guard.vols = s.guard.vols := by
  unfold State.serveErase
  split_ifs
  · simp
  · simp
  · split
    · simp
    · rename_i t ht; simp [h, State.authorize_vols ht]

@[simp] theorem State.eraseRequest_vols (r : Request) : (s.eraseRequest r).guard.vols = s.guard.vols := by
  unfold State.eraseRequest
  extract_lets mask
  split
  · simp
  · split_ifs <;> simp

@[simp] theorem State.pauseRequest_vols (r : Request) : (s.pauseRequest r).guard.vols = s.guard.vols := by
  unfold State.pauseRequest
  split_ifs
  · simp
  · split
    · simp
    · split_ifs <;> simp

@[simp] theorem State.resumeRequest_vols (r : Request) : (s.resumeRequest r).guard.vols = s.guard.vols := by
  simp [State.resumeRequest]

@[simp] theorem State.abortRequest_vols (r : Request) : (s.abortRequest r).guard.vols = s.guard.vols := by
  unfold State.abortRequest
  extract_lets t
  split_ifs <;> simp [t, State.abortEntries, State.withdrawCommand]

@[simp] theorem State.stripeGranted_vols : s.stripeGranted.guard.vols = s.guard.vols := by
  unfold State.stripeGranted
  split
  · simp
  · split
    · simp
    · split
      · simp
      · split_ifs <;> simp

@[simp] theorem State.stripeReply_vols (o : StripeOutcome) : (s.stripeReply o).guard.vols = s.guard.vols := by
  unfold State.stripeReply
  split
  · rfl
  · split_ifs <;> simp

@[simp] theorem State.awaitedReply_vols : s.awaitedReply.guard.vols = s.guard.vols := by
  unfold State.awaitedReply
  split
  · extract_lets t u
    split_ifs <;> simp [u, t]
  · rfl

@[simp] theorem State.awaitedFault_vols : s.awaitedFault.guard.vols = s.guard.vols := by
  unfold State.awaitedFault
  split_ifs
  · split <;> simp
  · rfl

@[simp] theorem State.raiseWarning_vols : s.raiseWarning.guard.vols = s.guard.vols := by simp [State.raiseWarning]

@[simp] theorem State.leaveStarting_vols : s.leaveStarting.guard.vols = s.guard.vols := by
  unfold State.leaveStarting
  extract_lets t u v w x
  have hw : w.guard.vols = s.guard.vols := by unfold w; split_ifs <;> simp [v, u, t]
  split_ifs <;> simp [x, hw]

@[simp] theorem State.endStarting_vols : s.endStarting.guard.vols = s.guard.vols := by
  unfold State.endStarting; split_ifs <;> simp

@[simp] theorem State.quietLink_vols (b : Bool) : (s.quietLink b).guard.vols = s.guard.vols := by simp [State.quietLink]

@[simp] theorem State.abandonVerify_vols : s.abandonVerify.guard.vols = s.guard.vols := by
  unfold State.abandonVerify
  split
  · split <;> simp
  · rfl

@[simp] theorem State.warnCredential_vols : s.warnCredential.guard.vols = s.guard.vols := by simp [State.warnCredential]

@[simp] theorem State.dropKeys_vols : s.dropKeys.guard.vols = s.guard.vols := rfl

@[simp] theorem State.warnKeypad_vols : s.warnKeypad.guard.vols = s.guard.vols := by
  unfold State.warnKeypad; extract_lets t; split <;> simp [t]

@[simp] theorem State.recoverLink_vols : s.recoverLink.guard.vols = s.guard.vols := by
  unfold State.recoverLink; extract_lets t; split_ifs <;> simp [t]

@[simp] theorem State.haltCredential_vols : s.haltCredential.guard.vols = s.guard.vols := by simp [State.haltCredential]

@[simp] theorem State.haltLockout_vols : s.haltLockout.guard.vols = s.guard.vols := by
  unfold State.haltLockout; extract_lets t; split <;> simp [t]

@[simp] theorem State.haltKeypad_vols : s.haltKeypad.guard.vols = s.guard.vols := by simp [State.haltKeypad]

@[simp] theorem State.haltEngine_vols : s.haltEngine.guard.vols = s.guard.vols := by
  unfold State.haltEngine; cases s.erase.job.request <;> simp

@[simp] theorem State.engineHot_vols : s.engineHot.guard.vols = s.guard.vols := by simp [State.engineHot]

@[simp] theorem State.writeWord_vols (a : Nat) (w : Word) : (s.writeWord a w).guard.vols = s.guard.vols := by
  unfold State.writeWord; split_ifs <;> simp

@[simp] theorem State.enrollCommitted_vols (e : Enrollment) : (s.enrollCommitted e).guard.vols = s.guard.vols := by
  unfold State.enrollCommitted
  extract_lets t t'
  have ht : t'.guard.vols = s.guard.vols := by unfold t'; split_ifs <;> simp
  split_ifs <;> simp [t, ht]

@[simp] theorem State.factoryDone_vols : s.factoryDone.guard.vols = s.guard.vols := by
  unfold State.factoryDone; split_ifs <;> simp

@[simp] theorem State.credCommitted_vols : s.credCommitted.guard.vols = s.guard.vols := by
  unfold State.credCommitted
  split
  · rfl
  · split_ifs <;> simp
  · extract_lets t
    have ht : t.guard.vols = s.guard.vols := by unfold t; split_ifs <;> simp
    simp [ht]
  · split_ifs <;> simp
  · split <;> simp

@[simp] theorem State.chargeDone_vols : s.chargeDone.guard.vols = s.guard.vols := by
  unfold State.chargeDone; split <;> simp [State.refreshEntry]

@[simp] theorem State.policyDone_vols : s.policyDone.guard.vols = s.guard.vols := by
  unfold State.policyDone; split <;> simp

@[simp] theorem State.failed_vols (w : Waiter) : (s.failed w).guard.vols = s.guard.vols := by
  unfold State.failed
  split
  · simp
  · simp
  · split <;> simp
  · rfl
  · rfl
  · split <;> simp
  · rfl

@[simp] theorem State.commitFailed_vols (q : Queued) (c : Cut) : (s.commitFailed q c).guard.vols = s.guard.vols := by
  have fold (l : List Waiter) (t : State) : (l.foldl State.failed t).guard.vols = t.guard.vols := by
    induction l generalizing t with
    | nil => rfl
    | cons x l ih => simp [ih]
  unfold State.commitFailed
  extract_lets ws t u v
  have hu : u.guard.vols = s.guard.vols := by simp [u, fold, t]
  split_ifs <;> simp [v, hu]

@[simp] theorem State.policyRequest_vols (r : Request) : (s.policyRequest r).guard.vols = s.guard.vols := by
  unfold State.policyRequest
  split
  · simp
  · rename_i t h
    extract_lets u
    split_ifs <;> simp [u, State.authorize_vols h]

@[simp] theorem State.defineRequest_vols (r : Request) : (State.defineRequest r s).guard.vols = s.guard.vols := by
  unfold State.defineRequest
  split
  · simp
  · rename_i t h
    split <;> simp [State.authorize_vols h]

end Sys2Proof.Machine
end

section
namespace Sys2Proof.Machine
set_option Elab.async false
variable {s t u : State} {ps : List Part}

/-! ### What the taking of an event leaves to the guard: the volumes -/

theorem State.takeKey_vols {act : KeyEvent → Option (State → State)}
    (h : ∀ e g, act e = some g → ∀ t, (g t).guard.vols = t.guard.vols) : (s.takeKey act).guard.vols = s.guard.vols := by
  unfold State.takeKey
  split
  · split
    · rfl
    · split
      · rfl
      · rename_i g hg
        extract_lets t
        split_ifs <;> simp [t, h _ g hg]
  · rfl

theorem State.takeKeyOrder_vols {act : KeyOrder → Option (State → State)}
    (h : ∀ o g, act o = some g → ∀ t, (g t).guard.vols = t.guard.vols) :
    (s.takeKeyOrder act).guard.vols = s.guard.vols := by
  unfold State.takeKeyOrder
  split_ifs
  · split
    · rfl
    · split
      · rename_i g hg
        extract_lets u
        split_ifs <;> simp [u, h _ g hg]
      · rfl
  · rfl

theorem State.takeLock_vols {act : LockEvent → Option (State → State)}
    (h : ∀ e g, act e = some g → ∀ t, (g t).guard.vols = t.guard.vols) : (s.takeLock act).guard.vols = s.guard.vols := by
  unfold State.takeLock State.takeNextLock
  split_ifs
  · split
    · simp
    · split
      · rename_i g hg; simp [h _ g hg]
      · simp
  · simp
  · rfl

theorem State.takeCred_vols {act : CredEvent → Option (State → State)}
    (h : ∀ e g, act e = some g → ∀ t, (g t).guard.vols = t.guard.vols) : (s.takeCred act).guard.vols = s.guard.vols := by
  unfold State.takeCred State.takeNextCred
  split_ifs
  · split
    · simp
    · split
      · rename_i g hg; simp [h _ g hg]
      · simp
  · simp
  · rfl

theorem State.takeEvent_vols {act : EngineEvent → Option (State → State)}
    (h : ∀ e g, act e = some g → ∀ t, (g t).guard.vols = t.guard.vols) : (s.takeEvent act).guard.vols = s.guard.vols := by
  obtain e | ⟨e, rest, g, -, -, -, hg, e'⟩ := State.takeEvent_cases (s := s) act
  · rw [e]
  · simp [e', h _ g hg]

theorem State.takeControl_vols {mine : Nat → Bool} {serve : State → Request → State}
    (h : ∀ t r, (serve t r).guard.vols = t.guard.vols) : (s.takeControl mine serve).guard.vols = s.guard.vols := by
  unfold State.takeControl
  extract_lets t
  split_ifs
  · simp [t]
  · refine (State.takeEvent_vols ?_).trans (by simp [t] : t.guard.vols = s.guard.vols)
    rintro e g hg u
    split at hg
    · split_ifs at hg
      cases hg
      exact State.serveErase_vols _ fun w => h w _
    · cases hg

theorem State.expire_vols {mine : Assembler → Bool} {act : State → State} (h : ∀ t, (act t).guard.vols = t.guard.vols) :
    (s.expire mine act).guard.vols = s.guard.vols := by
  unfold State.expire
  split_ifs
  · refine State.takeKeyOrder_vols ?_
    rintro o g hg u
    split_ifs at hg
    cases hg
    dsimp only
    split_ifs <;> simp [h]
  · simp [h]
  · simp
  · rfl

/-- A signal that is taken leaves the volumes. -/
theorem State.takeSignal_vols {b : Block} {x : Signal} (h : s.takeSignal b x = some t) : t.guard.vols = s.guard.vols :=
  (State.takeSignal_sameBut h).vols

/-- The entry to HALTED that is taken leaves the volumes. -/
theorem State.takeHalt_vols {b : Block} (h : s.takeHalt b = some t) : t.guard.vols = s.guard.vols := by
  unfold State.takeHalt at h
  split_ifs at h
  · exact State.takeSignal_vols h
  · cases h; simp

/-- What the taking of an order of the guard can do: nothing, or the act on the order at the head of the inbox. -/
theorem State.takeOrder_cases (act : GuardOrder → Option (State → State)) :
    s.takeOrder act = s ∨
      ∃ o rest g, s.alive = true ∧ s.guardFree = true ∧ s.guard.inbox = o :: rest ∧ act o = some g ∧
        s.takeOrder act = (g s.popGuard).settle := by
  unfold State.takeOrder
  split
  · rename_i h
    simp only [Bool.and_eq_true] at h
    cases hi : s.guard.inbox with
    | nil => exact .inl rfl
    | cons o rest =>
      cases hg : act o with
      | none => exact .inl (by simp only [hg])
      | some g => exact .inr ⟨o, rest, g, h.1, h.2, rfl, hg, by simp only [hg]⟩
  · exact .inl rfl

theorem State.takeOrder_vols {act : GuardOrder → Option (State → State)}
    (h : ∀ o g, act o = some g → ∀ t, (g t).guard.vols = t.guard.vols) : (s.takeOrder act).guard.vols = s.guard.vols := by
  obtain e | ⟨o, rest, g, -, -, -, hg, e⟩ := State.takeOrder_cases (s := s) act
  · rw [e]
  · simp [e, h _ g hg]

/-! ### The commands that leave every volume as it was -/

/-- The commands that can change a volume: reset and start-up, the signals and orders of the guard, the ends of sector requests,
which reload an idle timer, and the answers of the store. -/
def changesVolumes : Instr → Bool
  | .resetAssert _ | .startUp _ | .powerLoss _ | .loadRecords => true
  | .warningTaken _ | .haltOrder _ | .criticalSignal _ => true
  | .cancel | .readSectors | .writeSectors | .sectorGrant | .linkReply _ _ | .linkTimeout | .linkReissue => true
  | .lock | .deleteVolume | .openOrder | .faultOrder | .lockOrder | .eraseAcceptance | .eraseEnd | .capacityReport => true
  | .idleTimerExpiry _ | .commitDone _ => true
  | _ => false

/-- An outcome that is a next state. -/
theorem go_vols (h : go u = .next t) (k : u.guard.vols = s.guard.vols) : t.guard.vols = s.guard.vols := by
  cases h; exact k

/-- The commands that do not concern the guard's table leave every volume as it was. -/
theorem exec_vols {c : Instr} (hc : changesVolumes c = false) (h : exec c s = .next t) : t.guard.vols = s.guard.vols := by
  cases c with
  | resetAssert | startUp | powerLoss | loadRecords | warningTaken | haltOrder | criticalSignal | cancel | readSectors
  | writeSectors | sectorGrant | linkReply | linkTimeout | linkReissue | lock | deleteVolume | openOrder | faultOrder
  | lockOrder | eraseAcceptance | eraseEnd | capacityReport | idleTimerExpiry | commitDone => cases hc
  | orphanCheck =>
    refine go_vols h ((State.takeEvent_vols ?_).trans ?_)
    · rintro e g hg u; split at hg <;> cases hg
      dsimp only; split_ifs <;> simp
    · split_ifs <;> simp
  | lockoutExamination => refine go_vols h ?_; split_ifs <;> simp
  | startUpIdent => refine go_vols h ?_; split_ifs <;> simp
  | leaveStarting => refine go_vols h ?_; split_ifs <;> simp
  | supplyWarning =>
    refine go_vols h ?_
    split_ifs
    · split <;> simp
    · rfl
  | supplyRise => refine go_vols h ?_; split_ifs <;> simp
  | supplyRecovery => refine go_vols h ?_; split_ifs <;> simp
  | recoveryTaken b =>
    refine go_vols h ?_
    split_ifs
    · split
      · rename_i v hv
        rw [State.settle_vols, ← State.takeSignal_vols hv]
        cases b
        case exchange => dsimp only [State.recover]; split_ifs <;> simp
        all_goals simp [State.recover]
      · rfl
    · rfl
  | portWordWrite => refine go_vols h ?_; split_ifs <;> simp
  | attnWrite => refine go_vols h ?_; split_ifs <;> simp
  | attnLvlWrite => refine go_vols h ?_; split_ifs <;> simp
  | scanWrite => refine go_vols h ?_; split_ifs <;> simp
  | scanCfgWrite => refine go_vols h ?_; split_ifs <;> simp
  | registerWriteOther => exact go_vols h rfl
  | scanTimerExpiry => refine go_vols h ?_; split_ifs <;> simp
  | identify =>
    refine go_vols h ?_
    split_ifs
    · split <;> simp
    · rfl
  | setPolicy =>
    refine go_vols h ?_
    split
    · split
      · rfl
      · extract_lets t u
        split_ifs <;> simp [t, u]
    · rfl
  | defineVolume =>
    refine go_vols h ?_
    split_ifs
    · simp
    · refine (State.takeOrder_vols ?_).trans (State.beforeQuery_vols _)
      rintro o g hg u
      split at hg
      · split_ifs at hg; cases hg
        dsimp only; split_ifs <;> simp
      · cases hg
  | enroll =>
    refine go_vols h ?_
    split_ifs
    · split <;> simp
    · simp
  | revoke =>
    refine go_vols h (State.takeCred_vols ?_)
    rintro e g hg u; split at hg <;> cases hg
    dsimp only; split_ifs <;> simp
  | erase =>
    refine go_vols h ?_
    split_ifs
    · simp
    · refine (State.takeEvent_vols ?_).trans (State.beforeQuery_vols _)
      rintro e g hg u
      split at hg
      · split_ifs at hg; cases hg
        exact State.serveErase_vols _ fun w => by simp
      · cases hg
  | pause => exact go_vols h (State.takeControl_vols fun _ _ => by simp)
  | resume => exact go_vols h (State.takeControl_vols fun _ _ => by simp)
  | abort => exact go_vols h (State.takeControl_vols fun _ _ => by simp)
  | probe => refine go_vols h ?_; split_ifs <;> simp
  | stripeGrant =>
    refine go_vols h (State.takeEvent_vols ?_)
    rintro e g hg u; split at hg <;> cases hg
    dsimp only; split_ifs <;> simp
  | stripeReply =>
    refine go_vols h ?_
    split_ifs
    · simp
    · rfl
    · refine State.takeEvent_vols ?_
      rintro e g hg u; split at hg <;> cases hg; simp
  | wipeTrigger =>
    refine go_vols h (State.takeEvent_vols ?_)
    rintro e g hg u; split at hg <;> cases hg <;> (dsimp only; split_ifs <;> simp)
  | factoryChord =>
    refine go_vols h (State.takeEvent_vols ?_)
    rintro e g hg u; split at hg <;> cases hg
    dsimp only; split_ifs <;> simp
  | linkFaultReport =>
    refine go_vols h ?_
    split_ifs
    · simp
    · rfl
    · refine State.takeEvent_vols ?_
      rintro e g hg u; split at hg <;> cases hg; simp
  | linkReturn =>
    refine go_vols h (State.takeEvent_vols ?_)
    rintro e g hg u; split at hg <;> cases hg; simp
  | extentLost =>
    refine go_vols h (State.takeEvent_vols ?_)
    rintro e g hg u; split at hg <;> cases hg
    dsimp only; split_ifs <;> simp
  | temperatureSample => refine go_vols h ?_; split_ifs <;> simp
  | hotSignal =>
    refine go_vols h ?_
    split_ifs
    · split
      · rename_i v hv; simp [State.takeSignal_vols hv]
      · rfl
    · rfl
  | releaseSignal b =>
    refine go_vols h ?_
    split_ifs
    · split
      · rename_i v hv
        rw [State.settle_vols, ← State.takeSignal_vols hv]
        cases b <;> simp [State.release]
      · rfl
    · rfl
  | entryHanded =>
    refine go_vols h (State.takeCred_vols ?_)
    rintro e g hg u; split at hg <;> cases hg; simp
  | charge =>
    refine go_vols h (State.takeLock_vols ?_)
    rintro e g hg u; split at hg <;> cases hg; simp
  | chargeCommitted =>
    refine go_vols h (State.takeCred_vols ?_)
    rintro e g hg u; split at hg <;> cases hg; simp
  | derivationDone =>
    refine go_vols h ?_
    split
    · refine State.takeCred_vols ?_
      rintro e g hg u; split_ifs at hg; cases hg
      dsimp only; cases u.cred.deriv <;> simp
    · extract_lets t
      split_ifs
      · cases t.cred.deriv <;> simp [t]
      · simp [t]
  | matchReport =>
    refine go_vols h (State.takeLock_vols ?_)
    rintro e g hg u; split at hg <;> cases hg; simp
  | noMatchReport =>
    refine go_vols h (State.takeLock_vols ?_)
    rintro e g hg u; split at hg <;> cases hg; simp
  | acceptanceComplete =>
    refine go_vols h ?_
    split
    · split_ifs <;> simp
    · refine State.takeLock_vols ?_
      rintro e g hg u; split_ifs at hg; cases hg; rfl
  | lockoutTick => refine go_vols h ?_; split_ifs <;> simp
  | lockoutEnd => refine go_vols h ?_; split_ifs <;> simp [State.refreshEntry]
  | factoryOrder =>
    refine go_vols h (State.takeLock_vols ?_)
    rintro e g hg u; split at hg <;> cases hg; simp
  | factoryRevocation =>
    refine go_vols h (State.takeCred_vols ?_)
    rintro e g hg u; split at hg <;> cases hg; simp
  | windowTick => refine go_vols h ?_; split_ifs <;> simp
  | windowExpiry => refine go_vols h ?_; split_ifs <;> simp
  | windowClose =>
    refine go_vols h (State.takeCred_vols ?_)
    rintro e g hg u; split at hg <;> cases hg
    dsimp only; split_ifs <;> simp
  | wrapAndAdd =>
    refine go_vols h (State.takeCred_vols ?_)
    rintro e g hg u; split at hg <;> cases hg; simp
  | removal =>
    refine go_vols h (State.takeCred_vols ?_)
    rintro e g hg u; split at hg <;> cases hg; simp
  | enrollEntry =>
    refine go_vols h (State.takeCred_vols ?_)
    rintro e g hg u; split at hg <;> cases hg; simp
  | enrollEarlyEnd =>
    refine go_vols h (State.takeCred_vols ?_)
    rintro e g hg u; split at hg <;> cases hg; simp
  | keyScan => refine go_vols h ?_; split_ifs <;> simp
  | keyAccepted => refine go_vols h ?_; split_ifs <;> simp
  | hold => refine go_vols h ?_; split_ifs <;> simp
  | chord => refine go_vols h ?_; split_ifs <;> simp
  | digitPress =>
    refine go_vols h (State.settle_vols.trans (State.takeKey_vols ?_))
    rintro e g hg u; split at hg <;> cases hg; simp
  | enterPress =>
    refine go_vols h (State.settle_vols.trans (State.takeKey_vols ?_))
    rintro e g hg u; split at hg <;> cases hg; simp
  | enterHold =>
    refine go_vols h (State.settle_vols.trans (State.takeKey_vols ?_))
    rintro e g hg u; split at hg <;> cases hg; simp
  | clearPress =>
    refine go_vols h (State.settle_vols.trans (State.takeKey_vols ?_))
    rintro e g hg u; split at hg <;> cases hg; simp
  | clearHold =>
    refine go_vols h (State.settle_vols.trans (State.takeKey_vols ?_))
    rintro e g hg u; split at hg <;> cases hg; simp
  | chordTaken =>
    refine go_vols h (State.settle_vols.trans (State.takeKey_vols ?_))
    rintro e g hg u; split at hg <;> cases hg; simp
  | entryTimeout => exact go_vols h (State.expire_vols fun t => by split_ifs <;> simp)
  | stageTimeout => exact go_vols h (State.expire_vols fun t => by simp)
  | enrollOrder =>
    refine go_vols h (State.takeKeyOrder_vols ?_)
    rintro e g hg u; split at hg <;> cases hg; simp
  | outcomeReport =>
    refine go_vols h (State.takeKeyOrder_vols ?_)
    rintro e g hg u; split at hg <;> cases hg; simp
  | returnToIdle =>
    refine go_vols h (State.takeKeyOrder_vols ?_)
    rintro e g hg u; split at hg <;> cases hg; simp
  | flashEnd => refine go_vols h ?_; split_ifs <;> simp
  | indicatorPhase => refine go_vols h ?_; split_ifs <;> simp [State.nextPhase]

end Sys2Proof.Machine
end

section
namespace Sys2Proof.Machine
set_option Elab.async false
variable {s t u : State} {ps : List Part}

/-! ### The key law of one volume (R3) -/

/-- A volume that has been shut holds no key. -/
theorem Volume.shut_keyOk (x : Volume) {st : VState} (h : st ≠ .opened) (h' : st ≠ .openRo) : (x.shut st).keyOk = true := by
  simp [Volume.keyOk, Volume.shut, Volume.isOpen, h, h']

/-- A volume that is gone holds no key. -/
theorem Volume.gone_keyOk (x : Volume) : x.gone.keyOk = true := by
  simp [Volume.keyOk, Volume.gone, Volume.isOpen, VolRec.absent]

/-- A volume that has been unlocked holds a key. -/
theorem Volume.unlock_keyOk (x : Volume) (k : MediaKey) (i : CSlot) (b : Bool) : (x.unlock k i b).keyOk = true := by
  simp only [Volume.keyOk, Volume.unlock, Volume.isOpen, openState]
  split_ifs <;> simp

/-- A volume that has been defined holds the key drawn for it. -/
theorem Volume.defined_keyOk (x : Volume) (r : VolRec) (k : MediaKey) (i : CSlot) : (x.defined r k i).keyOk = true := by
  simp only [Volume.keyOk, Volume.defined, Volume.isOpen, openState]
  split_ifs <;> simp

/-- What a volume's key law rests on: its state, its key and whether it is held. -/
theorem Volume.keyOk_congr {x y : Volume} (h : y.isOpen = x.isOpen) (hk : y.key = x.key) (hh : y.keyHeld = x.keyHeld) :
    y.keyOk = x.keyOk := by simp only [Volume.keyOk, h, hk, hh]

/-- A reload keeps the key law. -/
@[simp] theorem Volume.reloaded_keyOk (x : Volume) : x.reloaded.keyOk = x.keyOk := by
  unfold Volume.reloaded
  split_ifs
  · exact Volume.keyOk_congr rfl rfl rfl
  · rfl

/-- An open volume stays open when it is opened again. -/
theorem Volume.reopen_isOpen {x : Volume} (h : x.isOpen = true) (i : CSlot) (b : Bool) : (x.reopen i b).isOpen = true := by
  simp only [Volume.reopen, Volume.isOpen] at h ⊢
  split_ifs
  · rfl
  · exact h

/-- A volume that is open keeps its key when it is opened again (R6). -/
theorem Volume.reopen_keyOk {x : Volume} (h : x.isOpen = true) (i : CSlot) (b : Bool) :
    (x.reopen i b).keyOk = x.keyOk := Volume.keyOk_congr ((Volume.reopen_isOpen h i b).trans h.symm) rfl rfl

/-- A volume as loaded holds no key: no record says OPEN (R144, R23). -/
theorem loadVolume_keyOk (x : Stored VolRec) : (loadVolume x).keyOk = true := by
  unfold loadVolume
  split_ifs with h
  · have hs : VolRec.sound x.val = true := by simp [Stored.intact] at h; exact h.2
    cases hv : x.val.state <;> simp [VolRec.sound, hv] at hs <;> simp [Volume.keyOk, Volume.isOpen, hv]
  · rfl

/-! ### The key law of the table -/

/-- R3 for the table is R3 for each volume. -/
theorem State.keysOk_iff : s.keysOk = true ↔ ∀ v, (s.vol v).keyOk = true := by simp [State.keysOk, allVols]

/-- The key law carries over volume by volume. -/
theorem State.keysOk_of_vol (k : s.keysOk = true) (h : ∀ v, (s.vol v).keyOk = true → (t.vol v).keyOk = true) :
    t.keysOk = true := State.keysOk_iff.2 fun v => h v (State.keysOk_iff.1 k v)

/-- The key law rests on the table alone. -/
theorem State.keysOk_of_vols (k : s.keysOk = true) (h : t.guard.vols = s.guard.vols) : t.keysOk = true :=
  State.keysOk_of_vol k fun v hv => (State.vol_congr h v).symm ▸ hv

/-- Reloads keep the key law. -/
theorem State.reloadsOnly.keys (h : s.reloadsOnly t) (k : s.keysOk = true) : t.keysOk = true :=
  State.keysOk_of_vol k fun v hv => by rcases h v with h | h <;> rw [h] <;> simpa using hv

/-- A step whose frame is without the volumes keeps the key law. -/
theorem State.sameBut.keys (h : s.sameBut ps t) (k : s.keysOk = true) (w : ps.contains .volumes = false := by decide) :
    t.keysOk = true := State.keysOk_of_vols k (h.vols w)

/-- A change of one volume that keeps its key law. -/
theorem State.modVol_keys (k : s.keysOk = true) (v : Vol) {g : Volume → Volume}
    (h : (s.vol v).keyOk = true → (g (s.vol v)).keyOk = true) : (s.modVol v g).keysOk = true :=
  State.keysOk_of_vol k fun w hw => by
    rw [State.modVol_vol]
    split_ifs with e
    · subst e; exact h hw
    · exact hw

/-- Steps one after the other keep what each of them keeps. -/
theorem foldl_keys {α : Type} {f : State → α → State} (h : ∀ (t : State) (x : α), t.keysOk = true → (f t x).keysOk = true)
    (l : List α) (k : s.keysOk = true) : (l.foldl f s).keysOk = true := by
  induction l generalizing s with
  | nil => exact k
  | cons x l ih => exact ih (h s x k)

/-! ### The guard's operations keep the key law -/

theorem State.volumeLeft_keys (v : Vol) (k : s.keysOk = true) : (s.volumeLeft v).keysOk = true := by
  unfold State.volumeLeft
  split_ifs
  · exact (State.stopSector_reloadsOnly _).keys k
  · exact k

theorem State.lockVolume_keys (v : Vol) (k : s.keysOk = true) : (s.lockVolume v).keysOk = true := by
  unfold State.lockVolume
  split_ifs
  · exact State.volumeLeft_keys v (State.modVol_keys k v fun _ => Volume.shut_keyOk _ (by decide) (by decide))
  · exact k

theorem State.lockSet_keys (m : VolSet) (k : s.keysOk = true) : (s.lockSet m).keysOk = true := by
  unfold State.lockSet
  refine foldl_keys (fun t v ht => ?_) _ k
  split_ifs
  · exact State.lockVolume_keys v ht
  · exact ht

theorem State.reportVolumes_keys (k : s.keysOk = true) : s.reportVolumes.keysOk = true := State.reportVolumes_sameBut.keys k

theorem State.openVolume_keys (v : Vol) (key : MediaKey) (i : CSlot) (b : Bool) (k : s.keysOk = true) :
    (s.openVolume v key i b).keysOk = true := by
  have reopen (h : (s.vol v).isOpen = true) : (s.modVol v fun x => x.reopen i b).keysOk = true :=
    State.modVol_keys k v fun hv => (Volume.reopen_keyOk h i b).trans hv
  unfold State.openVolume
  split_ifs
  · exact k
  · split
    · exact State.modVol_keys k v fun _ => Volume.unlock_keyOk _ _ _ _
    · rename_i h; exact reopen (by simp [Volume.isOpen, h])
    · rename_i h; exact reopen (by simp [Volume.isOpen, h])
    all_goals exact k

theorem State.faultVolume_keys (v : Vol) (k : s.keysOk = true) : (s.faultVolume v).keysOk = true := by
  have h : (s.modVol v fun x => x.shut .fault).keysOk = true :=
    State.modVol_keys k v fun _ => Volume.shut_keyOk _ (by decide) (by decide)
  unfold State.faultVolume
  split_ifs
  · exact State.volumeLeft_keys v h
  · exact h

theorem State.faultOrder_keys (v : Vol) (k : s.keysOk = true) : (s.faultOrder v).keysOk = true := by
  unfold State.faultOrder
  split_ifs
  · exact (State.guardCommit_sameBut _ _ _).keys (State.reportVolumes_keys (State.faultVolume_keys v k))
  · exact k

theorem State.eraseAcceptance_keys (v : Vol) (k : s.keysOk = true) : (s.eraseAcceptance v).keysOk = true := by
  have retired : (s.volumeRetired v false).keysOk = true := (State.volumeRetired_sameBut _ _).keys k
  have erasing : (s.startErasing v).keysOk = true := by
    have h : (((s.lockVolume v).modVol v fun x => x.shut .erasing).reportVolumes.enterVolume v).keysOk = true :=
      (State.enterVolume_sameBut v).keys (State.reportVolumes_keys
        (State.modVol_keys (State.lockVolume_keys v k) v fun _ => Volume.shut_keyOk _ (by decide) (by decide)))
    exact (State.guardWaits_sameBut _).keys ((State.queueRec_sameBut _ _).keys h)
  have gone : (s.retire v).keysOk = true :=
    (State.guardCommit_sameBut _ _ _).keys (State.reportVolumes_keys (State.modVol_keys k v fun _ => Volume.gone_keyOk _))
  unfold State.eraseAcceptance
  split
  · exact k
  · split
    · exact retired
    · exact retired
    · split_ifs
      · exact erasing
      · exact gone
    all_goals exact erasing

/-- An erasure that ends leaves its volume, which held no key, without one. -/
theorem State.eraseEndOrder_keys (v : Vol) (x : EraseResult) (n : Nat) (k : s.keysOk = true) :
    (s.eraseEndOrder v x n).keysOk = true := by
  unfold State.eraseEndOrder
  split_ifs with h
  · refine (State.guardCommit_sameBut _ _ _).keys (State.reportVolumes_keys (State.modVol_keys k v fun hv => ?_))
    rw [← hv]
    exact Volume.keyOk_congr (by simp [Volume.isOpen, VolRec.ended, h]) rfl rfl
  · exact (State.volumeEnded_sameBut v).keys k

theorem State.examineVolume_keys (cap : Nat) (v : Vol) (k : s.keysOk = true) : (s.examineVolume cap v).keysOk = true := by
  unfold State.examineVolume
  split
  · extract_lets t u
    have ht : t.keysOk = true := by
      unfold t; split_ifs
      · exact (State.tellEngine_sameBut _).keys k
      · exact k
    exact (State.queueRec_sameBut _ _).keys (State.faultVolume_keys v ht)
  · exact k

theorem State.takeIdentity_keys (cap : BitVec 32) (ef ed : BitVec 16) (k : s.keysOk = true) :
    (s.takeIdentity cap ef ed).keysOk = true := by
  unfold State.takeIdentity
  extract_lets t u
  split_ifs
  · exact State.keysOk_of_vols k (by simp [t])
  · exact State.keysOk_of_vols k (by simp [u, t])

theorem State.capacityReport_keys (cap : BitVec 32) (ef ed : BitVec 16) (k : s.keysOk = true) :
    (s.capacityReport cap ef ed).keysOk = true := by
  unfold State.capacityReport
  extract_lets t
  have ht : t.keysOk = true := State.reportVolumes_keys (foldl_keys (fun u v hu => State.examineVolume_keys _ v hu) _ k)
  split_ifs
  · exact State.takeIdentity_keys cap ef ed ht
  · exact ht

theorem State.idleExpired_keys (v : Vol) (k : s.keysOk = true) : (s.idleExpired v).keysOk = true := by
  unfold State.idleExpired
  split_ifs
  · exact State.settle_sameBut.keys (State.reportVolumes_keys (State.lockVolume_keys v k))
  · refine (State.tellGuard_sameBut _).keys (State.modVol_keys k v fun hv => ?_)
    rw [← hv]; exact Volume.keyOk_congr rfl rfl rfl

theorem State.lockRequest_keys (r : Request) (k : s.keysOk = true) : (State.lockRequest r s).keysOk = true := by
  unfold State.lockRequest
  extract_lets mask locked t
  have ht : t.keysOk = true := State.reportVolumes_keys (State.lockSet_keys mask k)
  split_ifs
  · exact (State.guardWaits_sameBut _).keys ((State.tellCred_sameBut _).keys ht)
  · exact (State.complete_sameBut _ _ _ _).keys ht

/-- A BLANK volume that is deleted holds no key before and after. -/
theorem State.deleteRequest_keys (r : Request) (k : s.keysOk = true) : (State.deleteRequest r s).keysOk = true := by
  unfold State.deleteRequest
  split
  · exact (State.complete_sameBut _ _ _ _).keys k
  · rename_i t ht
    have kt : t.keysOk = true := (State.authorize_sameBut ht).keys k
    split
    · exact (State.complete_sameBut _ _ _ _).keys kt
    · split_ifs with h
      · refine (State.guardCommit_sameBut _ _ _).keys (State.modVol_keys kt _ fun hv => ?_)
        rw [← hv]
        simp only [Bool.and_eq_true, decide_eq_true_eq] at h
        exact Volume.keyOk_congr (by simp [Volume.isOpen, h.1]) rfl rfl
      · exact (State.complete_sameBut _ _ _ _).keys kt

theorem State.guardThen_keys (x : GuardThen) (k : s.keysOk = true) : (s.guardThen x).keysOk = true := by
  cases x with
  | faulted => exact k
  | accepted v => exact (State.volumeAccepted_sameBut v).keys k
  | retired v => exact (State.volumeRetired_sameBut v true).keys k
  | ended v => exact (State.volumeEnded_sameBut v).keys k
  | define r v key slot =>
    exact (State.complete_sameBut _ _ _ _).keys
      (State.reportVolumes_keys (State.modVol_keys k v fun _ => Volume.defined_keyOk _ _ _ _))
  | delete r v =>
    exact (State.complete_sameBut _ _ _ _).keys (State.reportVolumes_keys (State.modVol_keys k v fun _ => Volume.gone_keyOk _))

theorem State.committed_keys (w : Waiter) (k : s.keysOk = true) : (s.committed w).keysOk = true := by
  cases w with
  | guard =>
    change s.guardCommitted.keysOk = true
    unfold State.guardCommitted
    split
    · split_ifs
      · exact State.guardThen_keys _ ((State.guardWaits_sameBut _).keys k)
      · exact (State.guardWaits_sameBut _).keys k
    · exact k
  | credential => exact State.keysOk_of_vols k State.credCommitted_vols
  | lockout => exact State.keysOk_of_vols k State.chargeDone_vols
  | engine => exact State.engineCommitted_sameBut.keys k
  | link =>
    change (if _ then s.identDone else s).keysOk = true
    split_ifs
    · exact State.keysOk_of_vols k State.identDone_vols
    · exact k
  | store => exact State.keysOk_of_vols k State.policyDone_vols
  | startUp =>
    change (if _ then s.leaveStarting else s).keysOk = true
    split_ifs
    · exact State.keysOk_of_vols k State.leaveStarting_vols
    · exact k

/-! ### The sector path keeps the key law -/

/-- The request becomes active. -/
theorem State.activate_sameBut (r : Request) (v : Vol) : s.sameBut [.sector] (s.activate r v) := State.modSector_sameBut _

theorem State.applyDecision_reloadsOnly (r : Request) : s.reloadsOnly (s.applyDecision r) := by
  unfold State.applyDecision
  split
  · exact State.endSector_reloadsOnly _
  · split
    · exact ((State.reloadIdle_reloadsOnly _).trans (State.activate_sameBut _ _).reloadsOnly).trans
        State.askSector_reloadsOnly
    · exact State.reloadsOnly_of_vols rfl

theorem State.decideSector_reloadsOnly (r : Request) : s.reloadsOnly (s.decideSector r) := by
  have applied (t : State) : t.reloadsOnly (t.applyDecision r).settle :=
    (State.applyDecision_reloadsOnly r).trans State.settle_sameBut.reloadsOnly
  have entered : s.reloadsOnly (s.enterDeciding r) := (State.modSector_sameBut _).reloadsOnly
  unfold State.decideSector
  split
  · split
    · exact State.reloadsOnly_of_vols rfl
    · extract_lets t
      split
      · exact entered.trans (applied _)
      · exact entered.trans (State.tellGuard_sameBut _).reloadsOnly
  · split_ifs
    · exact State.popGuard_sameBut.reloadsOnly.trans (applied _)
    · exact applied s
    · exact State.reloadsOnly_of_vols rfl
  all_goals exact State.reloadsOnly_of_vols rfl

theorem State.checkSector_reloadsOnly : s.reloadsOnly s.checkSector := by
  unfold State.checkSector
  split_ifs
  · refine State.reloadsOnly_of_vols ?_
    unfold State.issueSector
    split_ifs <;> simp
  · exact State.askSector_reloadsOnly
  · exact State.endSector_reloadsOnly _

theorem State.sectorGranted_reloadsOnly : s.reloadsOnly s.sectorGranted := by
  unfold State.sectorGranted
  split
  · split_ifs
    · exact State.checkSector_reloadsOnly
    · exact State.reloadsOnly_of_vols rfl
  · split_ifs
    · exact State.popGuard_sameBut.reloadsOnly.trans State.checkSector_reloadsOnly
    · exact State.reloadsOnly_of_vols rfl
  all_goals exact State.reloadsOnly_of_vols rfl

theorem State.takeReply_reloadsOnly (f : InFlight) (n : Nat) (r : Reply) : s.reloadsOnly (s.takeReply f n r) := by
  have counted : (s.countMedia r).linkReady.guard.vols = s.guard.vols := by
    unfold State.countMedia; split <;> simp
  unfold State.takeReply
  split
  · unfold State.identReply; split <;> exact State.reloadsOnly_of_vols rfl
  · exact (State.reloadsOnly_of_vols counted).trans (State.sectorReply_reloadsOnly r)
  · exact (State.reloadsOnly_of_vols counted).trans (State.stripeReplied_sameBut _).reloadsOnly

theorem State.reissue_reloadsOnly (f : InFlight) : s.reloadsOnly (s.reissue f) := by
  unfold State.reissue
  split_ifs
  · exact State.giveUp_reloadsOnly f
  · exact State.reloadsOnly_of_vols rfl

theorem State.cancelTarget_reloadsOnly (n : RSlot) : s.reloadsOnly (s.cancelTarget n).1 := by
  unfold State.cancelTarget
  split
  · exact State.reloadsOnly_of_vols (by simp)
  · exact (State.complete_sameBut _ _ _ _).reloadsOnly.trans (State.reloadFor_reloadsOnly _)
  · exact State.reloadsOnly_of_vols (by simp)
  · exact State.reloadsOnly_of_vols rfl

theorem State.cancel_reloadsOnly (r : Request) (n : RSlot) : s.reloadsOnly (s.cancel r n) := by
  unfold State.cancel
  split_ifs
  · exact State.reloadsOnly_of_vols rfl
  · exact (State.cancelTarget_reloadsOnly n).trans (State.reloadsOnly_of_vols (by simp))

/-! ### Start-up and the signals keep the key law -/

/-- A part that has been cleared has no volume open. -/
theorem State.cleared_keys (nv : NvArray) (p : PowerState) : (s.cleared nv p).keysOk = true := by
  have h : State.reset.keysOk = true := by decide
  exact State.keysOk_of_vols h rfl

/-- The records as loaded give no volume a key (R151). -/
theorem State.loadAll_keys : s.loadAll.keysOk = true := by
  have h : s.loadAll.guard.vols = s.store.nv.volumes.map loadVolume := by
    unfold State.loadAll
    extract_lets n policy a b c d e q f g h i
    have hq (r : Rec) (x : Bool) (t : State) : (q r x t).guard.vols = t.guard.vols := by unfold q; split_ifs <;> simp
    have hi : i.guard.vols = s.store.nv.volumes.map loadVolume := by
      simp only [i, h, g, f, hq]; rfl
    split_ifs <;> simp [hi]
  refine State.keysOk_iff.2 fun v => ?_
  simp only [State.vol, h]
  simpa using loadVolume_keyOk _

/-- Steps one after the other leave the table of volumes as each of them does. -/
theorem foldl_vols {α : Type} {f : State → α → State} (h : ∀ (t : State) (x : α), (f t x).guard.vols = t.guard.vols)
    (l : List α) : (l.foldl f s).guard.vols = s.guard.vols := by
  induction l generalizing s with
  | nil => rfl
  | cons x l ih => exact ih.trans (h s x)

@[simp] theorem State.healWraps_vols : s.healWraps.guard.vols = s.guard.vols := by
  unfold State.healWraps
  refine foldl_vols (fun t v => ?_) _
  split <;> simp

@[simp] theorem State.loadList_vols : s.loadList.guard.vols = s.guard.vols := by
  unfold State.loadList
  extract_lets n intact stored kept ended whole list t u v
  have hu : u.guard.vols = s.guard.vols := by
    unfold u
    split
    · rfl
    · exact State.queueRec_vols _ _
  have hv : v.guard.vols = s.guard.vols := by
    unfold v
    split
    · exact (State.queueRec_vols _ _).trans hu
    · exact State.checkpointHead_vols.trans hu
  split
  · exact hv
  · exact (State.attend_vols _).trans hv

/-- Every volume locked, and the report of it. -/
theorem State.lockAll_keys (k : s.keysOk = true) : (s.lockSet allSet).reportVolumes.keysOk = true :=
  State.reportVolumes_keys (State.lockSet_keys _ k)

theorem State.warn_keys (b : Block) (k : s.keysOk = true) : (s.warn b).keysOk = true := by
  cases b with
  | exchange =>
    have kw : (s.modExch fun x => { x with warned := true }).keysOk = true := (State.modExch_sameBut _).keys k
    exact (State.endWaiting_reloadsOnly _ _ _).keys kw
  | guard =>
    have kw : (s.modGuard fun g => { g with warned := true }).keysOk = true := State.keysOk_of_vols k rfl
    unfold State.warn State.warnGuard
    exact State.lockAll_keys kw
  | sector =>
    have kw : (s.modSector fun p => { p with warned := true }).keysOk = true := (State.modSector_sameBut _).keys k
    exact (State.stopSector_reloadsOnly _).keys kw
  | _ => exact State.keysOk_of_vols k (by simp [State.warn, State.warnLink])

theorem State.halt_keys (b : Block) (k : s.keysOk = true) : (s.halt b).keysOk = true := by
  cases b with
  | exchange => exact (State.endWaiting_reloadsOnly _ _ _).keys k
  | guard =>
    unfold State.halt
    exact State.lockAll_keys k
  | sector => exact (State.stopSector_reloadsOnly _).keys k
  | _ => exact State.keysOk_of_vols k (by simp [State.halt])

theorem State.critical_keys (b : Block) (k : s.keysOk = true) : (s.critical b).keysOk = true := by
  cases b with
  | guard =>
    have kc : (s.modGuard fun g => { g with critical := true }).keysOk = true := State.keysOk_of_vols k rfl
    unfold State.critical
    exact State.lockAll_keys kc
  | _ => exact State.keysOk_of_vols k (by simp [State.critical])

/-! ### Every step keeps the key law -/

theorem State.takeOrder_keys {act : GuardOrder → Option (State → State)}
    (h : ∀ o g, act o = some g → ∀ t : State, t.keysOk = true → (g t).keysOk = true) (k : s.keysOk = true) :
    (s.takeOrder act).keysOk = true := by
  obtain e | ⟨o, rest, g, -, -, -, hg, e⟩ := State.takeOrder_cases (s := s) act
  · rw [e]; exact k
  · rw [e]; exact State.settle_sameBut.keys (h o g hg _ (State.popGuard_sameBut.keys k))

theorem State.takeGuardRequest_keys {kind : Kind} {serve : Request → State → State}
    (h : ∀ r (t : State), t.keysOk = true → (serve r t).keysOk = true) (k : s.keysOk = true) :
    (s.takeGuardRequest kind serve).keysOk = true := by
  refine State.takeOrder_keys ?_ k
  rintro o g hg t kt
  split at hg
  · split_ifs at hg; cases hg
    dsimp only
    split_ifs
    · exact (State.complete_sameBut _ _ _ _).keys kt
    · exact (State.complete_sameBut _ _ _ _).keys kt
    · exact h _ t kt
  · cases hg

theorem State.commitAgrees_keys (q : Queued) (k : s.keysOk = true) : (s.commitAgrees q).keysOk = true := by
  unfold State.commitAgrees
  extract_lets t
  exact State.beginCommit_sameBut.keys
    (foldl_keys (fun t w kt => State.committed_keys w kt) _ ((State.modStore_sameBut _).keys k))

/-- An outcome that is a next state. -/
theorem go_keys (h : go u = .next t) (k : u.keysOk = true) : t.keysOk = true := by cases h; exact k

theorem execOpenOrder_keys (k : s.keysOk = true) (h : execOpenOrder s = .next t) : t.keysOk = true := by
  refine go_keys h (State.takeOrder_keys ?_ k)
  rintro o g hg u ku; split at hg <;> cases hg
  exact State.reportVolumes_keys (State.openVolume_keys _ _ _ _ ku)

theorem execFaultOrder_keys (k : s.keysOk = true) (h : execFaultOrder s = .next t) : t.keysOk = true := by
  refine go_keys h (State.takeOrder_keys ?_ k)
  rintro o g hg u ku; split at hg <;> cases hg
  exact State.faultOrder_keys _ ku

theorem execLockOrder_keys (k : s.keysOk = true) (h : execLockOrder s = .next t) : t.keysOk = true := by
  refine go_keys h (State.takeOrder_keys ?_ k)
  rintro o g hg u ku; split at hg <;> cases hg
  exact State.reportVolumes_keys (State.lockSet_keys _ ku)

theorem execEraseAcceptance_keys (k : s.keysOk = true) (h : execEraseAcceptance s = .next t) : t.keysOk = true := by
  refine go_keys h (State.takeOrder_keys ?_ k)
  rintro o g hg u ku; split at hg <;> cases hg
  exact State.eraseAcceptance_keys _ ku

theorem execEraseEnd_keys (k : s.keysOk = true) (h : execEraseEnd s = .next t) : t.keysOk = true := by
  refine go_keys h (State.takeOrder_keys ?_ k)
  rintro o g hg u ku; split at hg <;> cases hg
  exact State.eraseEndOrder_keys _ _ _ ku

theorem execCapacityReport_keys (k : s.keysOk = true) (h : execCapacityReport s = .next t) : t.keysOk = true := by
  unfold execCapacityReport at h
  refine go_keys h (State.takeOrder_keys (fun o g hg u ku => ?_) k)
  split at hg
  · rw [← Option.some.inj hg]
    exact State.capacityReport_keys _ _ _ ku
  · cases hg

/-- Every command keeps the key law. -/
theorem exec_keys {c : Instr} (k : s.keysOk = true) (h : exec c s = .next t) : t.keysOk = true := by
  by_cases hc : changesVolumes c = false
  · exact State.keysOk_of_vols k (exec_vols hc h)
  cases c with
  | resetAssert =>
    refine go_keys h ?_
    split_ifs
    · exact k
    · exact State.cleared_keys _ _
  | powerLoss => exact go_keys h (State.cleared_keys _ _)
  | startUp =>
    refine go_keys h ?_
    split_ifs
    · exact State.cleared_keys _ _
    · exact State.keysOk_of_vols (State.cleared_keys _ _) State.raiseWarning_vols
    · exact k
  | loadRecords =>
    refine go_keys h ?_
    split_ifs
    · exact State.keysOk_of_vols (State.loadAll_keys (s := s)) (by simp)
    · exact k
  | warningTaken b =>
    refine go_keys h ?_
    split_ifs
    · split
      · rename_i v hv; exact State.settle_sameBut.keys (State.warn_keys b (State.keysOk_of_vols k (State.takeSignal_vols hv)))
      · exact k
    · exact k
  | haltOrder b =>
    refine go_keys h ?_
    split_ifs
    · split
      · rename_i v hv; exact State.settle_sameBut.keys (State.halt_keys b (State.keysOk_of_vols k (State.takeHalt_vols hv)))
      · exact k
    · exact k
  | criticalSignal b =>
    refine go_keys h ?_
    split_ifs
    · split
      · rename_i v hv
        exact State.settle_sameBut.keys (State.critical_keys b (State.keysOk_of_vols k (State.takeSignal_vols hv)))
      · exact k
    · exact k
  | cancel =>
    refine go_keys h ?_
    split_ifs
    · split
      · split
        · exact (State.complete_sameBut _ _ _ _).keys k
        · exact (State.cancel_reloadsOnly _ _).keys ((State.beforeQuery_sameBut _).keys k)
      · exact k
    · exact k
  | readSectors =>
    refine go_keys h ?_
    unfold State.beginSector
    split_ifs
    · split
      · split_ifs
        · exact (State.decideSector_reloadsOnly _).keys k
        · exact k
      · exact k
    · exact k
  | writeSectors =>
    refine go_keys h ?_
    unfold State.beginSector
    split_ifs
    · split
      · split_ifs
        · exact (State.decideSector_reloadsOnly _).keys k
        · exact k
      · exact k
    · exact k
  | sectorGrant =>
    refine go_keys h ?_
    split_ifs
    · exact State.settle_sameBut.keys (State.sectorGranted_reloadsOnly.keys k)
    · exact k
  | linkReply =>
    refine go_keys h ?_
    split
    · split
      · exact State.keysOk_of_vols k (by simp [State.countMalformed])
      · split_ifs
        · exact k
        · exact State.settle_sameBut.keys ((State.takeReply_reloadsOnly _ _ _).keys k)
        · exact State.settle_sameBut.keys ((State.commandFails_reloadsOnly _).keys ((State.modLink_sameBut _).keys k))
    · exact k
  | linkTimeout =>
    refine go_keys h ?_
    split
    · split
      · split_ifs
        · exact k
        · exact State.settle_sameBut.keys ((State.commandFails_reloadsOnly _).keys ((State.modLink_sameBut _).keys k))
      · exact k
    · exact k
  | linkReissue =>
    refine go_keys h ?_
    split
    · split
      · split_ifs
        · exact State.settle_sameBut.keys ((State.reissue_reloadsOnly _).keys k)
        · exact k
      · exact k
    · exact k
  | lock => exact go_keys h (State.takeGuardRequest_keys (fun r _ => State.lockRequest_keys r) k)
  | deleteVolume =>
    refine go_keys h ?_
    have kq : (s.beforeQuery s.guardAsks).keysOk = true := (State.beforeQuery_sameBut _).keys k
    split_ifs
    · exact kq
    · exact State.takeGuardRequest_keys (fun r _ => State.deleteRequest_keys r) kq
  | openOrder => exact execOpenOrder_keys k h
  | faultOrder => exact execFaultOrder_keys k h
  | lockOrder => exact execLockOrder_keys k h
  | eraseAcceptance => exact execEraseAcceptance_keys k h
  | eraseEnd => exact execEraseEnd_keys k h
  | capacityReport => exact execCapacityReport_keys k h
  | idleTimerExpiry v =>
    refine go_keys h ?_
    split_ifs
    · exact State.idleExpired_keys v k
    · exact k
  | commitDone =>
    refine go_keys h ?_
    split
    · split
      · exact k
      · split
        · exact State.settle_sameBut.keys (State.commitAgrees_keys _ k)
        · split_ifs
          · exact State.keysOk_of_vols k (by simp)
          · exact State.keysOk_of_vols k (by simp [State.commitRetry])
    · exact k
  | _ => exact absurd rfl hc

/-- What a command leaves, whatever its outcome, keeps the key law. -/
theorem State.after_keys (c : Instr) (k : s.keysOk = true) : (s.after (exec c s)).keysOk = true := by
  unfold State.after
  split
  · rename_i h; exact exec_keys k h
  · exact k

/-- A tick keeps the key law. -/
theorem State.tick_keys (k : s.keysOk = true) : s.tick.keysOk = true := by
  have idle (t : State) (kt : t.keysOk = true) : t.countIdle.keysOk = true := State.keysOk_of_vol kt fun v hv => by
    rw [← hv]
    simp only [State.countIdle, State.vol, State.modGuard_guard, Fin.getElem_fin, Vector.getElem_map]
    exact Volume.keyOk_congr rfl rfl rfl
  have second (t : State) (kt : t.keysOk = true) : t.secondTick.keysOk = true := by
    unfold State.secondTick State.expireIdle
    extract_lets a b c
    refine foldl_keys (fun u v ku => ?_) _ (idle c (State.after_keys _ (State.after_keys _ (State.after_keys _ kt))))
    split_ifs
    · exact State.after_keys _ ku
    · exact ku
  unfold State.tick
  split
  · extract_lets t
    have kt : t.keysOk = true := State.keysOk_of_vols k (by
      show (if s.keypad.scanning then s.keyScan s.keypad.contacts else { s with ms := s.ms + 1 }).guard.vols = _
      split_ifs <;> simp)
    split_ifs
    · exact State.keysOk_of_vols kt rfl
    · exact second _ (State.keysOk_of_vols kt rfl)
  · exact k

end Sys2Proof.Machine

open Sys2Proof Sys2Proof.Machine

/-- Settles O6: every command keeps R3 for each volume, and so does a tick. -/
theorem mediaKeysOnlyInOpenVolumes : Obligations.MediaKeysOnlyInOpenVolumes := by
  intro s t k h
  unfold step at h
  split at h
  · rename_i c rest _
    have kr : ({ s with pending := rest } : State).keysOk = true := State.keysOk_of_vols k rfl
    exact exec_keys kr h
  · split at h
    · exact exec_keys k h
    · cases h; exact State.tick_keys k
end

section
namespace Sys2Proof.Machine
set_option Elab.async false
variable {s t u : State} {ps : List Part}

/-! ### The guard takes an order -/

/-- The order at the head of a free guard's inbox is taken. -/
theorem State.takeOrder_of_head {act : GuardOrder → Option (State → State)} {o : GuardOrder} {rest : List GuardOrder}
    {g : State → State} (alive : s.alive = true) (free : s.guardFree = true) (head : s.guard.inbox = o :: rest)
    (h : act o = some g) : s.takeOrder act = (g s.popGuard).settle := by
  simp [State.takeOrder, alive, free, head, h]

/-- An order that another step takes is left alone. -/
theorem State.takeOrder_of_other {act : GuardOrder → Option (State → State)} {o : GuardOrder} {rest : List GuardOrder}
    (head : s.guard.inbox = o :: rest) (h : act o = none) : s.takeOrder act = s := by
  simp [State.takeOrder, head, h]

/-- An order taken leaves the rest of the inbox. -/
theorem State.popGuard_inbox {o : GuardOrder} {rest : List GuardOrder} (head : s.guard.inbox = o :: rest) :
    s.popGuard.guard.inbox = rest := by
  show s.guard.inbox.tail = rest
  rw [head]; rfl

/-- A guard that is free waits for nothing. -/
theorem State.wait_of_free (h : s.guardFree = true) : s.guard.wait = .free := by
  simp [State.guardFree] at h; exact h.1

/-! ### What a frame keeps -/

/-- A volume outside the frame is as it was. -/
theorem State.sameBut.vol (h : s.sameBut ps t) (v : Vol) (w : ps.contains .volumes = false := by decide) :
    t.vol v = s.vol v := State.vol_congr (h.vols w) v

/-- An attention flag is as it was where the attention word is. -/
theorem State.sameBut.attending (h : s.sameBut ps t) (a : Attn) (w : ps.contains .attn = false := by decide) :
    t.attending a = s.attending a := by
  have e : t.exch.attn = s.exch.attn := State.sameBut_agree h .attn w
  rw [State.attending, State.attending, e]

/-- What the volumes section shows rests on the table alone. -/
theorem State.volumesBody_congr (h : t.guard.vols = s.guard.vols) : t.volumesBody = s.volumesBody := by
  simp only [State.volumesBody, State.vol, h]

/-! ### The report of an order (R4) -/

/-- A flag that is set. -/
theorem State.attend_attending (a : Attn) : (s.attend a).attending a = true := by
  cases a <;> simp [State.attend, State.attending, Attn.index]

/-- The other flags are as they were. -/
theorem State.attend_attending_ne {a b : Attn} (h : a ≠ b) : (s.attend a).attending b = s.attending b := by
  revert h; cases a <;> cases b <;> simp [State.attend, State.attending, Attn.index]

/-- A rewrite leaves its section as R172 says. -/
theorem State.refresh_get (x : Section) : (s.refresh x).page.get x = (s.page.get x).replaced (s.body x) := by
  unfold State.refresh PageSection.replaced
  split_ifs
  · rfl
  · cases x <;> rfl

/-- What a report leaves of the section and its flag: nothing changed, or both. -/
theorem State.reportVolumes_cases :
    (s.reportVolumes = s ∧ (s.startUp.next = 2 ∨ s.page.volumes.body = s.volumesBody)) ∨
      (s.startUp.next ≠ 2 ∧ s.page.volumes.body ≠ s.volumesBody ∧ s.reportVolumes.attending .volume = true ∧
        s.reportVolumes.page.volumes = { counter := s.page.volumes.counter + 1, body := s.volumesBody }) := by
  unfold State.reportVolumes State.unloaded
  split_ifs with h k
  · exact .inl ⟨rfl, .inl (by simpa using h)⟩
  · exact .inl ⟨rfl, .inr k⟩
  · refine .inr ⟨by simpa using h, k, ?_, ?_⟩
    · rw [State.sameBut.attending (State.refresh_sameBut _) _ (by decide)]
      exact State.attend_attending _
    · refine ((s.attend .volume).refresh_get .volumes).trans ?_
      exact if_neg k

/-- A report that leaves the section as it was has changed nothing. -/
theorem State.reportVolumes_of_page (h : s.reportVolumes.page.volumes = s.page.volumes) : s.reportVolumes = s := by
  obtain ⟨e, -⟩ | ⟨-, hb, -, hp⟩ := State.reportVolumes_cases (s := s)
  · exact e
  · rw [hp] at h
    exact absurd (congrArg PageSection.body h).symm hb

/-- A report of an order that began in `s` and has led to `u`. -/
theorem State.volumesReported_reportVolumes (page : u.page.volumes = s.page.volumes) (start : u.startUp = s.startUp)
    (attn : u.attending .volume = s.attending .volume) : s.volumesReported u.reportVolumes := by
  have shows : u.reportVolumes.volumesBody = u.volumesBody :=
    State.volumesBody_congr (State.sameBut.vols State.reportVolumes_sameBut)
  unfold State.volumesReported State.rewritten
  simp only [State.body, shows, Page.get]
  obtain ⟨e, h⟩ | ⟨h2, hb, ha, hp⟩ := State.reportVolumes_cases (s := u)
  · rw [e]
    refine ⟨fun _ => attn, ?_⟩
    rw [start] at h
    split_ifs with h2
    · exact page
    · refine ⟨?_, fun n => absurd page n⟩
      rw [page] at h ⊢
      simp [PageSection.replaced, h.resolve_left h2]
  · rw [start] at h2
    rw [page] at hb hp
    rw [hp, if_neg h2]
    refine ⟨fun e => absurd (congrArg PageSection.body e) (Ne.symm hb), ?_, fun _ => ha⟩
    simp [PageSection.replaced, hb]

/-- What a report says rests on the table, the section and the flag. -/
theorem State.volumesReported_congr (h : s.volumesReported u) (vols : t.guard.vols = u.guard.vols)
    (page : t.page.volumes = u.page.volumes) (attn : t.attending .volume = u.attending .volume) : s.volumesReported t := by
  unfold State.volumesReported State.rewritten at h ⊢
  simp only [State.body, State.volumesBody_congr vols, Page.get, page, attn] at h ⊢
  exact h

/-- A step that leaves the table, the section and the flags leaves the report as it was. -/
theorem State.sameBut.volumesReported (k : u.sameBut ps t) (h : s.volumesReported u)
    (w : ps.contains .volumes = false := by decide) (w' : ps.contains .pageVolumes = false := by decide)
    (w'' : ps.contains .attn = false := by decide) : s.volumesReported t :=
  State.volumesReported_congr h (k.vols w) (State.sameBut_agree k .pageVolumes w') (k.attending _ w'')

end Sys2Proof.Machine
end

section
namespace Sys2Proof.Machine
set_option Elab.async false
variable {s t u : State}

/-! ### Opening (R5, R6) -/

/-- What an open order does to its volume. -/
theorem State.openVolume_vol (v : Vol) (key : MediaKey) (slot : CSlot) (rw : Bool) :
    (s.openVolume v key slot rw).vol v =
      if s.refusesOpen then s.vol v
      else if (s.vol v).data.state = .locked then (s.vol v).unlock key slot rw
      else if (s.vol v).isOpen then (s.vol v).reopen slot rw
      else s.vol v := by
  unfold State.openVolume
  split_ifs with hr
  · rfl
  all_goals split <;> simp_all [State.modVol_vol, Volume.isOpen]

/-- The other volumes are as they were. -/
theorem State.openVolume_vol_ne {v w : Vol} (h : w ≠ v) (key : MediaKey) (slot : CSlot) (rw : Bool) :
    (s.openVolume v key slot rw).vol w = s.vol w := by
  unfold State.openVolume
  split_ifs
  · rfl
  · split <;> simp [State.modVol_vol, h.symm]

/-- An open volume after another open order: OPEN when the order permits writing, else in its state (R6). -/
theorem Volume.reopen_eq {x : Volume} (h : x.isOpen = true) {slot : CSlot} {rw : Bool} :
    x.reopen slot rw =
      { x with
        data := { x.data with state := if rw && !x.data.writeProtect then .opened else x.data.state }
        openedBy := some slot, idle := idlePeriod x.data.idleCode } := by
  simp only [Volume.isOpen, Bool.or_eq_true, decide_eq_true_eq] at h
  rcases h with h | h <;> simp [Volume.reopen, h]

/-- OPEN_ORDER with its order at the head of a free guard's inbox. -/
theorem State.exec_openOrder {v : Vol} {key : MediaKey} {slot : CSlot} {rw : Bool} {rest : List GuardOrder}
    (alive : s.alive = true) (free : s.guardFree = true) (head : s.guard.inbox = .openVolume v key slot rw :: rest) :
    exec .openOrder s = .next (s.popGuard.openVolume v key slot rw).reportVolumes.settle :=
  congrArg go (State.takeOrder_of_head (g := fun t => (t.openVolume v key slot rw).reportVolumes) alive free head rfl)

end Sys2Proof.Machine

open Sys2Proof Sys2Proof.Machine

/-- Settles O38, by the cases of the volume's index and state. -/
theorem guardDecisionTable : Obligations.GuardDecisionTable := by
  intro s r rel count
  unfold State.guardDecision
  cases volOfIndex (r.byte 4).toNat with
  | none => rfl
  | some v => cases h : (s.vol v).data.state <;> simp [h, rel, count]

/-- Settles O28: the order taken is the model's `openVolume`, whose effect on its volume is R5 for a LOCKED one and R6 for an
open one. -/
theorem openOrders : Obligations.OpenOrders := by
  intro s v key slot rw rest alive free head
  let p := s.popGuard
  let u := p.openVolume v key slot rw
  let t := u.reportVolumes.settle
  have popped : s.sameBut [.guardInbox] p := State.popGuard_sameBut
  have opened : p.sameBut [.volumes] u := State.openVolume_sameBut v key slot rw
  have changed : s.sameBut [.guardInbox, .volumes] u := State.sameBut_then popped opened
  have shown : u.sameBut (.attn :: .pageVolumes :: showing) t :=
    State.sameBut_then State.reportVolumes_sameBut State.settle_sameBut
  have inbox : t.guard.inbox = p.guard.inbox ∧ t.guard.wait = p.guard.wait :=
    State.agree_trans (State.sameBut_agree opened .guardInbox) (State.sameBut_agree shown .guardInbox)
  have report : s.volumesReported t := State.settle_sameBut.volumesReported
    (State.volumesReported_reportVolumes (State.sameBut_agree changed .pageVolumes) (State.sameBut_agree changed .startUp)
      (changed.attending _))
  have at_v : t.vol v = _ := (shown.vol v).trans (State.openVolume_vol v key slot rw)
  refine ⟨t, State.exec_openOrder alive free head, inbox.1.trans (State.popGuard_inbox head),
    inbox.2.trans (State.wait_of_free free), report, ?_, ?_, ?_, ?_⟩
  · intro w hw
    exact (shown.vol w).trans (State.openVolume_vol_ne hw ..)
  · rw [at_v]
    change (if s.refusesOpen = true then s.vol v else if (s.vol v).data.state = .locked then _ else
      if (s.vol v).isOpen = true then (s.vol v).reopen slot rw else s.vol v) = _
    simp only [State.refusesOpen, Bool.or_eq_true, decide_eq_true_eq, or_assoc]
    congr 2
    by_cases h : (s.vol v).isOpen = true
    · rw [if_pos h, if_pos h, Volume.reopen_eq h]
    · rw [if_neg h, if_neg h]
  · intro e
    have quiet : u.reportVolumes = u := State.reportVolumes_of_page
      ((State.sameBut_agree State.settle_sameBut .pageVolumes).symm.trans
        (e.trans (State.sameBut_agree changed .pageVolumes).symm))
    have settled : u.reportVolumes.sameBut showing t := State.settle_sameBut
    rw [quiet] at settled
    exact State.agree_trans (State.sameBut_agree changed .attn) (State.sameBut_agree settled .attn)
  · exact State.sameBut_then changed shown
end

section
namespace Sys2Proof.Machine
set_option Elab.async false
variable {s t u : State} {ps : List Part}

/-! ### Bytes read after bytes written -/

/-- Bytes that read as a list, one by one. -/
theorem readBytes_eq {m : List Host.Cell} {a : Nat} {l : List Byte}
    (h : ∀ i, i < l.length → readByte m (a + i) = l.getD i 0) : readBytes m a l.length = l := by
  induction l generalizing a with
  | nil => rfl
  | cons b l ih =>
    have h0 := h 0 (by simp)
    have hl : readBytes m (a + 1) l.length = l := ih fun i hi => by
      have := h (i + 1) (by simpa using hi)
      simpa [Nat.add_assoc, Nat.add_comm 1 i] using this
    simp only [List.length_cons, readBytes, hl]
    simpa using h0

/-- One of the bytes read. -/
theorem readBytes_getD {m : List Host.Cell} {a n i : Nat} (h : i < n) : (readBytes m a n).getD i 0 = readByte m (a + i) := by
  induction n generalizing a i with
  | zero => omega
  | succ n ih =>
    cases i with
    | zero => rfl
    | succ i => simpa [readBytes, Nat.add_assoc, Nat.add_comm 1 i] using ih (a := a + 1) (i := i) (by omega)

/-- The bytes that a completion writes, in number. -/
theorem resultBytes_length (st : Status) (c d : Nat) (l : List Byte) : (resultBytes st c d l).length = 32 := by
  simp [resultBytes, zeros]

/-! ### What the exchange unit writes in request slots -/

/-- A step that keeps the memory canonical and writes in request slots alone. -/
def State.writesSlots (s t : State) : Prop := s.memOk = true → t.memOk = true ∧ s.slotsOnly t

/-- A step that leaves the memory writes no slot. -/
theorem State.writesSlots_of_mem (h : t.exch.mem = s.exch.mem) : s.writesSlots t := fun k =>
  ⟨by rw [State.memOk, h]; exact k, fun a _ => by rw [h]⟩

/-- Two steps one after the other. -/
theorem State.writesSlots.trans (h : s.writesSlots t) (k : t.writesSlots u) : s.writesSlots u := fun ok =>
  have ⟨okt, ht⟩ := h ok
  have ⟨oku, hu⟩ := k okt
  ⟨oku, fun a ha => (hu a ha).trans (ht a ha)⟩

/-- An owner byte written. -/
theorem State.setOwner_writesSlots (n : RSlot) (b : Byte) : s.writesSlots (s.setOwner n b) := fun k =>
  ⟨Memory.writeByte_wf k, fun a ha => by
    have e : readByte (s.setOwner n b).exch.mem a = _ := readByte_writeByte k
    rw [e, if_neg fun e => ha n (.inl e)]⟩

/-- A claim writes the owner. -/
theorem State.claim_writesSlots (n : RSlot) : s.writesSlots (s.claim n) :=
  (State.setOwner_writesSlots n 2).trans (State.writesSlots_of_mem rfl)

/-- A byte after a slot has been finished: its owner 3, its results, every other byte as before. -/
theorem State.finishSlot_byte (k : s.memOk = true) (n : RSlot) (st : Status) (c d : Nat) (l : List Byte) (a : Nat) :
    readByte (s.finishSlot n st c d l).exch.mem a =
      if a = slotAddr n then 3
      else if slotAddr n + 32 ≤ a ∧ a < slotAddr n + 32 + 32 then (resultBytes st c d l).getD (a - (slotAddr n + 32)) 0
      else readByte s.exch.mem a := by
  have e : (s.finishSlot n st c d l).exch.mem =
      writeByte (writeBytes s.exch.mem (slotAddr n + 32) (resultBytes st c d l)) (slotAddr n) 3 := rfl
  rw [e, readByte_writeByte (Memory.writeBytes_wf k), readByte_writeBytes k, resultBytes_length]

/-- Outside its result area a finished slot leaves the memory as it was. -/
theorem State.finishSlot_byte_ne (k : s.memOk = true) {n : RSlot} {a : Nat} (h : ¬resultArea n a) (st : Status) (c d : Nat)
    (l : List Byte) : readByte (s.finishSlot n st c d l).exch.mem a = readByte s.exch.mem a := by
  rw [resultArea] at h
  rw [State.finishSlot_byte k, if_neg (by omega), if_neg (by omega)]

/-- A finished slot is written. -/
theorem State.finishSlot_writesSlots (n : RSlot) (st : Status) (c d : Nat) (l : List Byte) :
    s.writesSlots (s.finishSlot n st c d l) := fun k =>
  ⟨Memory.writeByte_wf (Memory.writeBytes_wf k), fun _ ha => State.finishSlot_byte_ne k (ha n) st c d l⟩

/-- A request taken into a queue has its owner claimed. -/
theorem State.takeInto_writesSlots (n : RSlot) (k : Kind) : s.writesSlots (s.takeInto n k) := by
  unfold State.takeInto
  extract_lets r t
  refine (State.claim_writesSlots n).trans ?_
  have h (q : QueueId) : t.writesSlots (t.modExch fun x => x.setQueue q (x.queue q ++ [r])) :=
    State.writesSlots_of_mem (by cases q <;> rfl)
  split_ifs
  · exact (h _).trans (State.writesSlots_of_mem (State.sameBut_agree State.dispatch_sameBut .mem))
  · exact State.writesSlots_of_mem rfl

/-- What holds between the states before and after each of its steps holds between those before and after a settled chain. -/
theorem State.settleChain_rel {R : State → State → Prop} (refl : ∀ s, R s s)
    (trans : ∀ {s t u}, R s t → R t u → R s u) (claim : ∀ s n, R s (State.claim s n))
    (own : ∀ s n b, R s (State.setOwner s n b)) (finish : ∀ s n st c d l, R s (State.finishSlot s n st c d l))
    (take : ∀ s n k, R s (State.takeInto s n k)) (fuel : Nat) (n : RSlot) (off : Int) (st : Status) (s : State) :
    R s (State.settleChain fuel n off st s).1 := by
  induction fuel generalizing n off st s with
  | zero => exact refl s
  | succ fuel ih =>
    unfold State.settleChain
    split_ifs
    · exact refl s
    · split
      · exact refl s
      · split_ifs
        · split
          · exact trans (trans (claim _ _) (ih _ _ _ _)) (finish _ _ _ _ _ _)
          · exact take _ _ _
        · exact trans (trans (own _ _ _) (ih _ _ _ _)) (finish _ _ _ _ _ _)
        · exact refl s

/-- A settled chain writes in request slots alone (R167). -/
theorem State.settleChain_writesSlots (fuel : Nat) (n : RSlot) (off : Int) (st : Status) (s : State) :
    s.writesSlots (State.settleChain fuel n off st s).1 :=
  State.settleChain_rel (fun _ => State.writesSlots_of_mem rfl) State.writesSlots.trans (fun _ => State.claim_writesSlots)
    (fun _ => State.setOwner_writesSlots) (fun _ => State.finishSlot_writesSlots) (fun _ => State.takeInto_writesSlots)
    fuel n off st s

/-- Without a chain there is nothing to settle. -/
theorem State.settleChain_zero (fuel : Nat) (n : RSlot) (st : Status) (s : State) :
    State.settleChain (fuel + 1) n 0 st s = (s, 0) := by simp [State.settleChain]

/-! ### A completed request (R166) -/

/-- A slot finished once its chain has been settled. -/
theorem State.finishSlot_finished {n : RSlot} {off : Int} {c : Nat} (k : s.memOk = true) (h : s.writesSlots u)
    (z : off = 0 → u = s ∧ c = 0) (st : Status) (d : Nat) (l : List Byte) :
    s.finished (u.finishSlot n st c d l) n off st d l := by
  obtain ⟨ok, only⟩ := h k
  have byte := State.finishSlot_byte ok n st c d l
  have result (i : Nat) (hi : i < 32) : (u.finishSlot n st c d l).slotByte n (32 + i) = (resultBytes st c d l).getD i 0 := by
    have e := byte (slotAddr n + (32 + i))
    rw [if_neg (by omega), if_pos (by omega), show slotAddr n + (32 + i) - (slotAddr n + 32) = i by omega] at e
    exact e
  refine ⟨⟨(byte _).trans (if_pos rfl), result 0 (by omega)⟩, ?_, ?_, State.attend_attending _, ?_, fun h0 => ⟨?_, ?_⟩⟩
  · have len : (leBytes 2 d ++ (l ++ zeros 28).take 28).length = 30 := by simp [zeros]
    rw [← len]
    refine readBytes_eq fun i hi => ?_
    rw [len] at hi
    have e := result (i + 2) (by omega)
    rw [State.slotByte, show slotAddr n + (32 + (i + 2)) = slotAddr n + 34 + i by omega] at e
    exact e
  · show (u.exch.held &&& ~~~(1#32 <<< n.val)).getLsbD n.val = false
    simp [n.isLt]
  · exact (State.writesSlots.trans h (State.finishSlot_writesSlots _ _ _ _ _) k).2
  · rw [show (33 : Nat) = 32 + 1 from rfl, result 1 (by omega), (z h0).2]; rfl
  · intro a ha
    rw [State.finishSlot_byte_ne ok ha, (z h0).1]

/-- What is said of a finished slot rests on the memory, its place in the held set and the DONE flag. -/
theorem State.finished_congr {n : RSlot} {off : Int} {st : Status} {d : Nat} {l : List Byte} (h : s.finished u n off st d l)
    (mem : t.exch.mem = u.exch.mem) (held : t.exch.held = u.exch.held) (attn : t.attending .done = u.attending .done) :
    s.finished t n off st d l := by
  simpa only [State.finished, State.doneWith, State.slotByte, State.slotsOnly, mem, held, attn] using h

/-- A promotion leaves the held set. -/
theorem State.promote_held (q : QueueId) : (s.promote q).exch.held = s.exch.held := by
  unfold State.promote
  split_ifs
  · split
    · cases q <;> rfl
    · rfl
  · rfl

/-- A dispatch leaves the held set. -/
theorem State.dispatch_held : s.dispatch.exch.held = s.exch.held := by
  unfold State.dispatch
  split
  · rfl
  · split_ifs
    · rfl
    · split <;> rfl

/-- A follower that is promoted is one of those that stood in the list. -/
theorem State.promote_outOfQueues {n : RSlot} (q : QueueId) (h : s.outOfQueues n) : (s.promote q).outOfQueues n := by
  unfold State.promote
  split_ifs
  · split
    · rename_i r hr
      have hn : r.slot ≠ n := h r (by simp [List.mem_of_find?_eq_some hr])
      intro x hx
      have hx' : x = r ∨ x ∈ s.exch.sectorQ ++ s.exch.controlQ ++ s.exch.enrollQ ++ s.exch.followers := by
        have sub : x ∈ s.exch.followers.erase r → x ∈ s.exch.followers := List.mem_of_mem_erase
        cases q <;> simp [Exchange.setQueue, Exchange.queue] at hx ⊢ <;> tauto
      exact hx'.elim (fun e => e ▸ hn) (h x)
    · exact h
  · exact h

/-- A control request that is given to its block stays in its place. -/
theorem State.dispatch_outOfQueues {n : RSlot} (h : s.outOfQueues n) : s.dispatch.outOfQueues n := by
  unfold State.dispatch
  split
  · exact h
  · rename_i r rest hq
    have given : (s.modExch fun x => { x with controlQ := { r with begun := true } :: rest }).outOfQueues n := by
      intro x hx
      simp only [State.outOfQueues, hq] at h
      simp at hx
      rcases hx with hx | hx | hx | hx | hx
      · exact h x (by simp [hx])
      · rw [hx]; exact h r (by simp)
      all_goals exact h x (by simp [hx])
    split_ifs
    · exact h
    · split <;> first | exact h | exact given

/-- What is said of a completion rests on the memory, the queues and the DONE flag after it. -/
theorem State.completed_congr {r : Request} {st : Status} {d : Nat} {l : List Byte} (h : s.completed u r st d l)
    (mem : t.exch.mem = u.exch.mem) (queues : t.exch.queuesOnly = u.exch.queuesOnly)
    (attn : t.attending .done = u.attending .done) : s.completed t r st d l := by
  obtain ⟨fin, out⟩ := h
  have same : ∀ {α : Type} (f : Exchange → α), f t.exch.queuesOnly = f u.exch.queuesOnly := fun f => congrArg f queues
  refine ⟨State.finished_congr fin mem (same Exchange.held) attn, fun x hx => out x ?_⟩
  have lists : t.exch.sectorQ ++ t.exch.controlQ ++ t.exch.enrollQ ++ t.exch.followers =
      u.exch.sectorQ ++ u.exch.controlQ ++ u.exch.enrollQ ++ u.exch.followers :=
    same fun x => x.sectorQ ++ x.controlQ ++ x.enrollQ ++ x.followers
  exact lists ▸ hx

/-- A step that leaves the slots, the queues and the flags leaves a completion as it was. -/
theorem State.sameBut.completed {r : Request} {st : Status} {d : Nat} {l : List Byte} (k : u.sameBut ps t)
    (h : s.completed u r st d l) (w : ps.contains .mem = false := by decide) (w' : ps.contains .queues = false := by decide)
    (w'' : ps.contains .attn = false := by decide) : s.completed t r st d l :=
  State.completed_congr h (State.sameBut_agree k .mem w) (State.sameBut_agree k .queues w') (k.attending _ w'')

/-- Of the state before a completion only the memory counts. -/
theorem State.completed_of_mem {r : Request} {st : Status} {d : Nat} {l : List Byte} (h : u.completed t r st d l)
    (mem : u.exch.mem = s.exch.mem) : s.completed t r st d l := by
  simpa only [State.completed, State.finished, State.slotsOnly, mem] using h

/-- The results of a completion, byte by byte. -/
theorem State.completed_result {r : Request} {st : Status} {d : Nat} {l : List Byte} (h : s.completed t r st d l) {i : Nat}
    (hi : i < 30) : t.slotByte r.slot (34 + i) = (leBytes 2 d ++ (l ++ zeros 28).take 28).getD i 0 := by
  obtain ⟨⟨-, bytes, -⟩, -⟩ := h
  have e := congrArg (fun b => b.getD i 0) bytes
  simp only [readBytes_getD hi] at e
  rw [State.slotByte, ← e, Nat.add_assoc]

/-! ### What a completion leaves of the flags and the blocks it gives requests to -/

/-- A step that keeps the memory canonical and every flag but DONE. -/
def State.quietly (s t : State) : Prop :=
  (s.memOk = true → t.memOk = true) ∧ ∀ a, a ≠ .done → t.attending a = s.attending a

theorem State.quietly.trans (h : s.quietly t) (k : t.quietly u) : s.quietly u :=
  ⟨fun ok => k.1 (h.1 ok), fun a ha => (k.2 a ha).trans (h.2 a ha)⟩

/-- A step that leaves the memory and the flags is quiet. -/
theorem State.sameBut.quietly (h : s.sameBut ps t) (w : ps.contains .mem = false := by decide)
    (w' : ps.contains .attn = false := by decide) : s.quietly t :=
  ⟨fun ok => by rw [State.memOk, show t.exch.mem = s.exch.mem from State.sameBut_agree h .mem w]; exact ok,
    fun a _ => h.attending a w'⟩

/-- A finished slot sets DONE alone. -/
theorem State.finishSlot_quietly (n : RSlot) (st : Status) (c d : Nat) (l : List Byte) :
    s.quietly (s.finishSlot n st c d l) :=
  ⟨fun k => (State.finishSlot_writesSlots n st c d l k).1, fun _ ha => State.attend_attending_ne ha.symm⟩

/-- A request taken into a queue sets no flag. -/
theorem State.takeInto_quietly (n : RSlot) (k : Kind) : s.quietly (s.takeInto n k) := by
  refine ⟨fun ok => (State.takeInto_writesSlots n k ok).1, fun a _ => ?_⟩
  have frame : s.sameBut [.mem, .queues, .guardInbox, .credInbox, .eraseInbox, .storeRest] (s.takeInto n k) := by
    unfold State.takeInto
    extract_lets -lift r t
    have queued (q : QueueId) : t.sameBut [.queues] (t.modExch fun x => x.setQueue q (x.queue q ++ [r])) := by
      cases q <;> (intro p; cases p <;> first | exact .inl (by decide) | exact .inr (by repeat' constructor))
    have listed : t.sameBut [.queues] (t.modExch fun x => { x with followers := x.followers ++ [r] }) := by
      intro p; cases p <;> first | exact .inl (by decide) | exact .inr (by repeat' constructor)
    split_ifs
    · exact State.sameBut_then (State.claim_sameBut n) (State.sameBut_then
        (rs := [.queues, .guardInbox, .credInbox, .eraseInbox, .storeRest]) (queued _) State.dispatch_sameBut)
    · exact State.sameBut_then (State.claim_sameBut n) listed
  exact frame.attending a

/-- A claim sets no flag. -/
theorem State.claim_quietly (n : RSlot) : s.quietly (s.claim n) :=
  ⟨fun ok => (State.claim_writesSlots n ok).1, fun a _ => (State.claim_sameBut n).attending a⟩

/-- An owner byte sets no flag. -/
theorem State.setOwner_quietly (n : RSlot) (b : Byte) : s.quietly (s.setOwner n b) :=
  ⟨fun ok => (State.setOwner_writesSlots n b ok).1, fun a _ => (State.setOwner_sameBut n b).attending a⟩

/-- A settled chain sets DONE alone. -/
theorem State.settleChain_quietly (fuel : Nat) (n : RSlot) (off : Int) (st : Status) (s : State) :
    s.quietly (State.settleChain fuel n off st s).1 :=
  State.settleChain_rel (R := State.quietly) (fun _ => ⟨id, fun _ _ => rfl⟩) State.quietly.trans (fun _ => State.claim_quietly)
    (fun _ => State.setOwner_quietly) (fun _ => State.finishSlot_quietly) (fun _ => State.takeInto_quietly) fuel n off st s

/-- The end of a completion: the slot out of its queue, the freed room to a follower, the next control request to its
block. -/
def State.slotFreed (s : State) (n : RSlot) : State :=
  let u := s.modExch fun x =>
    { x with
      sectorQ := x.sectorQ.filter fun y => y.slot ≠ n
      controlQ := x.controlQ.filter fun y => y.slot ≠ n
      enrollQ := x.enrollQ.filter fun y => y.slot ≠ n
      followers := x.followers.filter fun y => y.slot ≠ n }
  (((u.promote .sector).promote .control).promote .enroll).dispatch

/-- A slot whose place has been freed stands in no queue. -/
theorem State.slotFreed_outOfQueues {n : RSlot} : (s.slotFreed n).outOfQueues n := by
  unfold State.slotFreed
  extract_lets u
  have out : u.outOfQueues n := by
    simp only [State.outOfQueues, u, State.modExch_exch, List.mem_append, List.mem_filter]
    rintro x (((⟨-, hx⟩ | ⟨-, hx⟩) | ⟨-, hx⟩) | ⟨-, hx⟩) <;> simpa using hx
  exact State.dispatch_outOfQueues (State.promote_outOfQueues _ (State.promote_outOfQueues _ (State.promote_outOfQueues _ out)))

/-- Freeing a slot's place leaves the held set. -/
theorem State.slotFreed_held {n : RSlot} : (s.slotFreed n).exch.held = s.exch.held := by
  simp only [State.slotFreed, State.dispatch_held, State.promote_held, State.modExch_exch]

theorem State.slotFreed_sameBut (n : RSlot) :
    s.sameBut [.queues, .guardInbox, .credInbox, .eraseInbox, .storeRest] (s.slotFreed n) := by
  unfold State.slotFreed
  extract_lets -lift u
  have left : s.sameBut [.queues] u := by
    intro p; cases p <;> first | exact .inl (by decide) | exact .inr (by repeat' constructor)
  exact State.sameBut_then (State.sameBut_trans left (State.sameBut_trans (State.sameBut_trans (State.promote_sameBut _)
    (State.promote_sameBut _)) (State.promote_sameBut _))) State.dispatch_sameBut

/-- A completion does what R166 says. -/
theorem State.complete_completed (k : s.memOk = true) (r : Request) (st : Status) (d : Nat) (l : List Byte) :
    s.completed (s.complete r st d l) r st d l := by
  let c := State.settleChain chainRounds r.slot r.offset st s
  let f := c.1.finishSlot r.slot st c.2 d l
  have finished : s.finished f r.slot r.offset st d l := State.finishSlot_finished k (State.settleChain_writesSlots _ _ _ _ _)
    (fun h => by simp [c, h, chainRounds, State.settleChain_zero]) st d l
  have freed : f.sameBut _ (f.slotFreed r.slot) := State.slotFreed_sameBut r.slot
  exact ⟨State.finished_congr finished (State.sameBut_agree freed .mem) State.slotFreed_held (freed.attending _),
    State.slotFreed_outOfQueues⟩

/-- A completion sets DONE alone. -/
theorem State.complete_quietly (r : Request) (st : Status) (d : Nat) (l : List Byte) : s.quietly (s.complete r st d l) :=
  ((State.settleChain_quietly _ _ _ _ s).trans (State.finishSlot_quietly _ _ _ _ _)).trans
    (State.slotFreed_sameBut _).quietly

/-! ### What a completion gives to the blocks -/

/-- A step that gives requests to the guard and to the erase engine, behind what waits there, and holds or frees no guard. -/
def State.givesRequests (s t : State) : Prop :=
  t.guard.wait = s.guard.wait ∧ (∃ l : List Request, t.guard.inbox = s.guard.inbox ++ l.map .request) ∧
    ∃ l : List Request, t.erase.inbox = s.erase.inbox ++ l.map .request

theorem State.givesRequests_of_same (h : t.guard.wait = s.guard.wait) (i : t.guard.inbox = s.guard.inbox)
    (e : t.erase.inbox = s.erase.inbox) : s.givesRequests t := ⟨h, ⟨[], by simp [i]⟩, ⟨[], by simp [e]⟩⟩

theorem State.givesRequests.trans (h : s.givesRequests t) (k : t.givesRequests u) : s.givesRequests u := by
  obtain ⟨hw, ⟨l, hl⟩, ⟨m, hm⟩⟩ := h
  obtain ⟨kw, ⟨l', kl⟩, ⟨m', km⟩⟩ := k
  exact ⟨kw.trans hw, ⟨l ++ l', by simp [kl, hl]⟩, ⟨m ++ m', by simp [km, hm]⟩⟩

/-- A step that reaches neither inbox gives nothing. -/
theorem State.sameBut.givesRequests (h : s.sameBut ps t) (w : ps.contains .guardInbox = false := by decide)
    (w' : ps.contains .eraseInbox = false := by decide) : s.givesRequests t :=
  have g := State.sameBut_agree h .guardInbox w
  State.givesRequests_of_same g.2 g.1 (State.sameBut_agree h .eraseInbox w')

/-- A dispatch gives at most one request. -/
theorem State.dispatch_givesRequests : s.givesRequests s.dispatch := by
  have none (t : State) (h : t.guard = s.guard) (e : t.erase = s.erase) : s.givesRequests t :=
    State.givesRequests_of_same (by rw [h]) (by rw [h]) (by rw [e])
  have guard (t : State) (r : Request) (h : t.guard = s.guard) (e : t.erase = s.erase) :
      s.givesRequests (t.tellGuard (.request r)) :=
    ⟨by simp [State.tellGuard, h], ⟨[r], by simp [State.tellGuard, h]⟩, ⟨[], by simp [State.tellGuard, e]⟩⟩
  have engine (t : State) (r : Request) (h : t.guard = s.guard) (e : t.erase = s.erase) :
      s.givesRequests (t.tellEngine (.request r)) :=
    ⟨by simp [State.tellEngine, h], ⟨[], by simp [State.tellEngine, h]⟩, ⟨[r], by simp [State.tellEngine, e]⟩⟩
  unfold State.dispatch
  split
  · exact none _ rfl rfl
  · split_ifs
    · exact none _ rfl rfl
    · split <;> first | exact none _ rfl rfl | exact guard _ _ rfl rfl | exact engine _ _ rfl rfl

/-- A request taken may be the next one given. -/
theorem State.takeInto_givesRequests (n : RSlot) (k : Kind) : s.givesRequests (s.takeInto n k) := by
  unfold State.takeInto
  extract_lets r t
  have queued (q : QueueId) : s.givesRequests (t.modExch fun x => x.setQueue q (x.queue q ++ [r])) :=
    State.givesRequests_of_same rfl rfl rfl
  split_ifs
  · exact (queued _).trans State.dispatch_givesRequests
  · exact State.givesRequests_of_same rfl rfl rfl

theorem State.promote_givesRequests (q : QueueId) : s.givesRequests (s.promote q) := (State.promote_sameBut q).givesRequests

/-- The place freed may be the next request's. -/
theorem State.slotFreed_givesRequests (n : RSlot) : s.givesRequests (s.slotFreed n) := by
  unfold State.slotFreed
  extract_lets u
  have left : s.givesRequests u := State.givesRequests_of_same rfl rfl rfl
  exact (((left.trans (State.promote_givesRequests _)).trans (State.promote_givesRequests _)).trans
    (State.promote_givesRequests _)).trans State.dispatch_givesRequests

/-- A completion gives requests alone (R165, R167, R168). -/
theorem State.complete_givesRequests (r : Request) (st : Status) (d : Nat) (l : List Byte) :
    s.givesRequests (s.complete r st d l) := by
  have chain := State.settleChain_rel (R := State.givesRequests) (fun _ => State.givesRequests_of_same rfl rfl rfl)
    State.givesRequests.trans (fun _ n => (State.claim_sameBut n).givesRequests)
    (fun _ n b => (State.setOwner_sameBut n b).givesRequests)
    (fun _ n st c d l => (State.finishSlot_sameBut n st c d l).givesRequests) (fun _ => State.takeInto_givesRequests)
    chainRounds r.slot r.offset st s
  have finish (t : State) (c : Nat) : t.givesRequests (t.finishSlot r.slot st c d l) :=
    (State.finishSlot_sameBut _ _ _ _ _).givesRequests
  exact (chain.trans (finish _ _)).trans (State.slotFreed_givesRequests _)

end Sys2Proof.Machine
end

section
namespace Sys2Proof.Machine
set_option Elab.async false
variable {s t u : State} {ps : List Part}

/-! ### The end of the active sector request sets no flag but DONE -/

theorem State.quietly_refl : s.quietly s := ⟨id, fun _ _ => rfl⟩

/-- Steps one after the other, each of them quiet. -/
theorem foldl_quietly {α : Type} {f : State → α → State} (h : ∀ (t : State) (x : α), t.quietly (f t x)) (l : List α) :
    s.quietly (l.foldl f s) := by
  induction l generalizing s with
  | nil => exact State.quietly_refl
  | cons x l ih => exact (h s x).trans ih

/-- Letting a request go sets no flag. -/
theorem State.sectorReleased_quietly (st : Status) : s.quietly (s.sectorReleased st) := by
  unfold State.sectorReleased
  extract_lets t u
  have ht : s.quietly t := (State.sameBut_then (rs := granting ++ [.volumes, .guardInbox, .guardFlags])
    State.withdrawSector_sameBut (State.modGuard_sameBut _)).quietly
  have hu : t.quietly u := by
    unfold u
    split_ifs
    · exact ⟨Memory.zeroBuffers_wf, fun _ _ => rfl⟩
    · exact State.quietly_refl
  exact (ht.trans hu).trans (State.modSector_sameBut _).quietly

theorem State.endSector_quietly (st : Status) : s.quietly (s.endSector st) := by
  cases h : s.sectorHead with
  | none => rw [State.endSector_of_none h]; exact State.quietly_refl
  | some r =>
    rw [State.endSector_of_head h]
    have ended := (s.sectorReleased_quietly st).trans (State.complete_quietly r st s.sector.done (s.sector.results st))
    split
    · exact ended.trans (State.reloadIdle_sameBut _).quietly
    · exact ended

theorem State.stopSector_quietly (st : Status) : s.quietly (s.stopSector st) := by
  unfold State.stopSector
  split
  case h_3 =>
    split_ifs
    · exact State.quietly_refl
    · exact ((State.modSector_sameBut _).quietly).trans (State.modLink_sameBut _).quietly
  case h_1 | h_2 => exact State.quietly_refl
  all_goals exact State.endSector_quietly st

theorem State.volumeLeft_quietly (v : Vol) : s.quietly (s.volumeLeft v) := by
  unfold State.volumeLeft
  split_ifs
  · exact State.stopSector_quietly _
  · exact State.quietly_refl

theorem State.lockVolume_quietly (v : Vol) : s.quietly (s.lockVolume v) := by
  unfold State.lockVolume
  split_ifs
  · exact ((State.modVol_sameBut v _).quietly).trans (State.volumeLeft_quietly v)
  · exact State.quietly_refl

theorem State.lockSet_quietly (m : VolSet) : s.quietly (s.lockSet m) :=
  foldl_quietly (fun t v => by split_ifs; exacts [t.lockVolume_quietly v, State.quietly_refl]) _

theorem State.faultVolume_quietly (v : Vol) : s.quietly (s.faultVolume v) := by
  unfold State.faultVolume
  split_ifs
  · exact ((State.modVol_sameBut v _).quietly).trans (State.volumeLeft_quietly v)
  · exact (State.modVol_sameBut v _).quietly

/-! ### Locks (R7, R8) -/

/-- A volume shut for a state that is not open is not open. -/
theorem Volume.shut_isOpen (x : Volume) {st : VState} (h : st ≠ .opened) (h' : st ≠ .openRo) : (x.shut st).isOpen = false := by
  simp [Volume.isOpen, Volume.shut, h, h']

/-- A volume shut and left: shut, and every other one as it was. -/
theorem State.shut_volumeLeft_vol (v w : Vol) {st : VState} (h : st ≠ .opened) (h' : st ≠ .openRo) :
    ((s.modVol v fun x => x.shut st).volumeLeft v).vol w = if w = v then (s.vol v).shut st else s.vol w := by
  have shut : ((s.modVol v fun x => x.shut st).vol v).isOpen = false := by
    rw [State.modVol_vol, if_pos rfl]; exact Volume.shut_isOpen _ h h'
  rw [State.volumeLeft_vol shut, State.modVol_vol]
  simp only [eq_comm]

/-- What the lock of one volume does to each. -/
theorem State.lockVolume_vol (v w : Vol) :
    (s.lockVolume v).vol w = if w = v ∧ (s.vol v).isOpen = true then (s.vol v).shut .locked else s.vol w := by
  unfold State.lockVolume
  by_cases h : (s.vol v).isOpen = true
  · rw [if_pos h, State.shut_volumeLeft_vol v w (by decide) (by decide)]
    simp only [h, and_true]
  · simp [h]

/-- What a fault does to each volume. -/
theorem State.faultVolume_vol (v w : Vol) :
    (s.faultVolume v).vol w = if w = v then (s.vol v).shut .fault else s.vol w := by
  unfold State.faultVolume
  by_cases h : (s.vol v).isOpen = true
  · rw [if_pos h, State.shut_volumeLeft_vol v w (by decide) (by decide)]
  · rw [if_neg h, State.modVol_vol]
    simp only [eq_comm]

/-- A lock order locks the open volumes of its set (R7, R8). -/
theorem State.lockSet_locks (m : VolSet) : s.locks (s.lockSet m) m := by
  have fold (l : List Vol) (t : State) (w : Vol) :
      (l.foldl (fun t v => if inSet m v then t.lockVolume v else t) t).vol w =
        if w ∈ l ∧ inSet m w = true ∧ (t.vol w).isOpen = true then (t.vol w).shut .locked else t.vol w := by
    induction l generalizing t with
    | nil => simp
    | cons v l ih =>
      have one : (if inSet m v then t.lockVolume v else t).vol w =
          if w = v ∧ inSet m w = true ∧ (t.vol w).isOpen = true then (t.vol w).shut .locked else t.vol w := by
        rcases eq_or_ne w v with rfl | hw
        · by_cases hm : inSet m w = true <;> simp [hm, State.lockVolume_vol]
        · by_cases hm : inSet m v = true <;> simp [hm, hw, State.lockVolume_vol]
      rw [List.foldl_cons, ih, one]
      by_cases e : w = v ∧ inSet m w = true ∧ (t.vol w).isOpen = true
      · have locked : ((t.vol w).shut .locked).isOpen = false := Volume.shut_isOpen _ (by decide) (by decide)
        rw [if_pos e, if_neg (by simp [locked]), if_pos ⟨by simp [e.1], e.2⟩]
      · rw [if_neg e]
        refine if_congr ?_ rfl rfl
        simp only [List.mem_cons]
        tauto
  intro w
  rw [State.lockSet, fold]
  simp [allVols]

/-- The lock of a set of volumes rests on their states before and after. -/
theorem State.locks_congr {m : VolSet} (h : u.locks t m) (vols : u.guard.vols = s.guard.vols) : s.locks t m := fun v => by
  rw [h v, State.vol_congr vols]

theorem State.sameBut.locks {m : VolSet} (k : u.sameBut ps t) (h : s.locks u m)
    (w : ps.contains .volumes = false := by decide) : s.locks t m := fun v => by rw [k.vol v w, h v]

/-- A report keeps the memory. -/
theorem State.reportVolumes_memOk (ok : s.memOk = true) : s.reportVolumes.memOk = true := by
  rw [State.memOk, show s.reportVolumes.exch.mem = s.exch.mem from State.sameBut_agree State.reportVolumes_sameBut .mem]
  exact ok

/-- A report sets the VOLUME flag alone. -/
theorem State.reportVolumes_attending_ne {a : Attn} (h : a ≠ .volume) : s.reportVolumes.attending a = s.attending a := by
  unfold State.reportVolumes
  split_ifs
  · rfl
  · rfl
  · rw [State.sameBut.attending (State.refresh_sameBut _) _ (by decide), State.attend_attending_ne h.symm]

/-- A report stands through a quiet step that leaves the table and the section. -/
theorem State.quietly.volumesReported (q : u.quietly t) (k : u.sameBut ps t) (h : s.volumesReported u)
    (w : ps.contains .volumes = false := by decide) (w' : ps.contains .pageVolumes = false := by decide) :
    s.volumesReported t :=
  State.volumesReported_congr h (k.vols w) (State.sameBut_agree k .pageVolumes w') (q.2 _ (by decide))

/-- The report of a lock order. -/
theorem State.lockSet_reported (m : VolSet) : s.volumesReported (s.lockSet m).reportVolumes :=
  State.volumesReported_reportVolumes (State.sameBut_agree (State.lockSet_sameBut m) .pageVolumes)
    (State.sameBut_agree (State.lockSet_sameBut m) .startUp) ((State.lockSet_quietly m).2 _ (by decide))

end Sys2Proof.Machine
end

section
namespace Sys2Proof.Machine
set_option Elab.async false
variable {s t u : State} {ps : List Part}

/-! ### Records that stand with the store (R146) -/

/-- The records in commit, queued, or waiting for room. -/
def State.standing (s : State) : List Queued := s.store.current.toList ++ s.store.queue ++ s.store.room

/-- The beginning of a commit moves records, and loses none. -/
theorem State.mem_standing_beginCommit {q : Queued} : q ∈ s.beginCommit.standing ↔ q ∈ s.standing := by
  unfold State.beginCommit
  split
  · rename_i x l hc hq
    have room : q ∈ s.store.room.take 1 ∨ q ∈ s.store.room.drop 1 ↔ q ∈ s.store.room := by
      rw [← List.mem_append, List.take_append_drop]
    simp only [State.standing, State.modStore_store, hc, hq, List.mem_append, Option.toList_some, Option.toList_none,
      List.mem_cons, List.not_mem_nil]
    tauto
  · rfl

@[simp] theorem State.beginCommit_storeTakes : s.beginCommit.storeTakes = s.storeTakes := by
  unfold State.beginCommit
  split <;> rfl

/-- A store that takes records goes on taking them. -/
@[simp] theorem State.queueRec_storeTakes (r : Rec) (ws : List Waiter) : (s.queueRec r ws).storeTakes = s.storeTakes := by
  unfold State.queueRec
  split_ifs
  · rfl
  · rfl
  · exact State.beginCommit_storeTakes
  · rfl
  · rfl

/-- A record replaced in its place stands there. -/
theorem mem_replaceIn {r : Rec} {ws : List Waiter} {l : List Queued} (h : standsIn r.id l = true) :
    ∃ q ∈ replaceIn r ws l, q.data = r ∧ ∀ w ∈ ws, w ∈ q.waiters := by
  obtain ⟨q, hq, he⟩ := List.any_eq_true.1 h
  refine ⟨{ data := r, waiters := q.waiters ++ ws }, List.mem_map.2 ⟨q, hq, if_pos (by simpa using he)⟩, rfl, ?_⟩
  intro w hw
  exact List.mem_append_right _ hw

/-- A record of another name is left where it stands. -/
theorem mem_replaceIn_of_ne {r : Rec} {ws : List Waiter} {l : List Queued} {q : Queued} (hq : q ∈ l)
    (h : q.data.id ≠ r.id) : q ∈ replaceIn r ws l := List.mem_map.2 ⟨q, hq, if_neg h⟩

/-- A record that is queued stands with the store, for all who are to wait for it. -/
theorem State.queueRec_standing (takes : s.storeTakes = true) (r : Rec) (ws : List Waiter) :
    ∃ q ∈ (s.queueRec r ws).standing, q.data = r ∧ ∀ w ∈ ws, w ∈ q.waiters := by
  unfold State.queueRec
  rw [if_pos takes]
  split_ifs with hq hr hl
  · obtain ⟨q, hm, h⟩ := mem_replaceIn (ws := ws) hq
    exact ⟨q, by simp [State.standing, hm], h⟩
  · obtain ⟨q, hm, h⟩ := mem_replaceIn (ws := ws) hr
    exact ⟨q, by simp [State.standing, hm], h⟩
  · exact ⟨⟨r, ws⟩, State.mem_standing_beginCommit.2 (by simp [State.standing]), rfl, fun _ h => h⟩
  · exact ⟨⟨r, ws⟩, by simp [State.standing], rfl, fun _ h => h⟩

/-- A record of another name that stood with the store stands there still. -/
theorem State.queueRec_keeps {q : Queued} {r : Rec} (hq : q ∈ s.standing) (h : q.data.id ≠ r.id) (ws : List Waiter) :
    q ∈ (s.queueRec r ws).standing := by
  have replaced (l : List Queued) (hl : q ∈ l) : q ∈ replaceIn r ws l := mem_replaceIn_of_ne hl h
  unfold State.queueRec
  simp only [State.standing, List.mem_append] at hq
  split_ifs
  · simp only [State.standing, State.modStore_store, List.mem_append]
    exact hq.imp_left (Or.imp_right (replaced _))
  · simp only [State.standing, State.modStore_store, List.mem_append]
    exact hq.imp_right (replaced _)
  · rw [State.mem_standing_beginCommit]
    simp only [State.standing, State.modStore_store, List.mem_append]
    exact hq.imp_left (Or.imp_right .inl)
  · simp only [State.standing, State.modStore_store, List.mem_append]
    exact hq.imp_right .inl
  · simpa only [State.standing, List.mem_append] using hq

/-- A record that is queued is awaited by those who wait for it. -/
theorem State.queueRec_awaits (r : Rec) {w : Waiter} {ws : List Waiter} (h : w ∈ ws) : (s.queueRec r ws).awaits r w := by
  intro takes
  rw [State.queueRec_storeTakes] at takes
  obtain ⟨q, hq, e, hw⟩ := State.queueRec_standing takes r ws
  exact ⟨q, hq, e, hw w h⟩

/-- A record queued stands with the store. -/
theorem State.queueRec_queued (r : Rec) (ws : List Waiter) : (s.queueRec r ws).queued r := by
  intro takes
  rw [State.queueRec_storeTakes] at takes
  obtain ⟨q, hq, e, -⟩ := State.queueRec_standing takes r ws
  exact ⟨q, hq, e⟩

/-- A record awaited is awaited still after one of another name has been queued. -/
theorem State.awaits_queueRec {r r' : Rec} {w : Waiter} (h : s.awaits r w) (n : r.id ≠ r'.id) (ws : List Waiter) :
    (s.queueRec r' ws).awaits r w := by
  intro takes
  rw [State.queueRec_storeTakes] at takes
  obtain ⟨q, hq, e, hw⟩ := h takes
  exact ⟨q, State.queueRec_keeps hq (e ▸ n) ws, e, hw⟩

/-- A record that stands with the store stands there still after one of another name has been queued. -/
theorem State.queued_queueRec {r r' : Rec} (h : s.queued r) (n : r.id ≠ r'.id) (ws : List Waiter) :
    (s.queueRec r' ws).queued r := by
  intro takes
  rw [State.queueRec_storeTakes] at takes
  obtain ⟨q, hq, e⟩ := h takes
  exact ⟨q, State.queueRec_keeps hq (e ▸ n) ws, e⟩

/-- What stands with the store rests on its commits and its mode. -/
theorem State.sameBut.standing (h : s.sameBut ps t) (w : ps.contains .commits = false := by decide) :
    t.standing = s.standing := by
  obtain ⟨hq, hr, hc⟩ := State.sameBut_agree h .commits w
  simp only [State.standing, hq, hr, hc]

/-- The store's mode is not that of a frame without the store's rest. -/
theorem State.sameBut.storeTakes (h : s.sameBut ps t) (w : ps.contains .storeRest = false := by decide) :
    t.storeTakes = s.storeTakes := by
  have e : t.store.rest = s.store.rest := State.sameBut_agree h .storeRest w
  have mode : t.store.rest.mode = s.store.rest.mode := by rw [e]
  exact congrArg (fun m : StoreMode => decide (m = .running)) mode

/-- A step that leaves the store leaves a wait for it. -/
theorem State.sameBut.awaits {r : Rec} {w : Waiter} (h : s.sameBut ps t) (k : s.awaits r w)
    (c : ps.contains .commits = false := by decide) (c' : ps.contains .storeRest = false := by decide) : t.awaits r w := by
  intro takes
  rw [h.storeTakes c'] at takes
  obtain ⟨q, hq⟩ := k takes
  exact ⟨q, by rw [← State.standing, h.standing c]; exact hq.1, hq.2⟩

/-- The guard queues records and waits, with a store that takes them. -/
theorem State.guardCommit_of_takes (takes : s.storeTakes = true) (rs : List Rec) (n : Nat) (next : GuardThen) :
    s.guardCommit rs n next = rs.foldl (fun u r => u.queueRec r [.guard]) (s.guardWaits (.commits n next)) :=
  if_pos takes

end Sys2Proof.Machine
end

section
namespace Sys2Proof.Machine
set_option Elab.async false
variable {s t u : State} {ps : List Part}

/-! ### The guard's requests -/

/-- A request of the guard at the head of a free guard's inbox: HALTED and POWER first (R14), then what it does. -/
theorem State.takeGuardRequest_of_head {k : Kind} {serve : Request → State → State} {r : Request} {rest : List GuardOrder}
    (alive : s.alive = true) (free : s.guardFree = true) (head : s.guard.inbox = .request r :: rest) (kind : r.kind = k) :
    s.takeGuardRequest k serve =
      (if s.device = .halted then s.popGuard.complete r .halted 0 []
       else if s.guard.warned then s.popGuard.complete r .power 0 []
       else serve r s.popGuard).settle := by
  unfold State.takeGuardRequest
  rw [State.takeOrder_of_head alive free head (if_pos kind)]
  rfl

/-- A request ended in the same step, the memory being as it was. -/
theorem State.completed_settle (ok : s.memOk = true) (frame : s.sameBut ps u) (r : Request) (st : Status)
    (w : ps.contains .mem = false := by decide) : s.completed (u.complete r st 0 []).settle r st 0 [] := by
  have mem : u.exch.mem = s.exch.mem := State.sameBut_agree frame .mem w
  have ok' : u.memOk = true := by rw [State.memOk, mem]; exact ok
  exact State.settle_sameBut.completed (State.completed_of_mem (State.complete_completed ok' r st 0 []) mem)

/-- A request that the guard turns away as it stands (R14). -/
theorem State.turnedAway (ok : s.memOk = true) (r : Request) (st : Status) :
    s.completed (s.popGuard.complete r st 0 []).settle r st 0 [] ∧
      s.sameBut (completing ++ showing) (s.popGuard.complete r st 0 []).settle :=
  ⟨State.completed_settle ok State.popGuard_sameBut r st, State.sameBut_then
    (State.sameBut_then (rs := completing) State.popGuard_sameBut (State.complete_sameBut r st 0 [])) State.settle_sameBut⟩

/-! ### LOCK (R19) -/

/-- The volumes of a LOCK locked and reported, before the request goes on. -/
def State.lockedFor (s : State) (r : Request) : State := (s.popGuard.lockSet (r.byte 4)).reportVolumes

/-- What a LOCK locks and reports. -/
theorem State.lockedFor_locks (r : Request) :
    s.locks (s.lockedFor r) (r.byte 4) ∧ s.volumesReported (s.lockedFor r) ∧
      s.sameBut (.pageVolumes :: sectorEnding) (s.lockedFor r) := by
  have shown : (s.popGuard.lockSet (r.byte 4)).sameBut [.attn, .pageVolumes] (s.lockedFor r) := State.reportVolumes_sameBut
  refine ⟨State.locks_congr (shown.locks (State.lockSet_locks _)) rfl, State.lockSet_reported (s := s.popGuard) (r.byte 4), ?_⟩
  exact State.sameBut_then (State.sameBut_then (rs := sectorEnding) State.popGuard_sameBut (State.lockSet_sameBut _)) shown

theorem State.lockedFor_memOk (ok : s.memOk = true) (r : Request) : (s.lockedFor r).memOk = true :=
  State.reportVolumes_memOk ((State.lockSet_quietly _).1 ok)

/-- LOCK with its close flag set: the guard waits for the window. -/
theorem State.exec_lock_closes {r : Request} {rest : List GuardOrder} (alive : s.alive = true) (free : s.guardFree = true)
    (head : s.guard.inbox = .request r :: rest) (kind : r.kind = .lock) (awake : s.device ≠ .halted)
    (unwarned : s.guard.warned = false) (h : (r.byte 5).getLsbD 0 = true) :
    exec .lock s = .next (((s.lockedFor r).tellCred (.windowClose true)).guardWaits
      (.windowClose r (s.openIn (r.byte 4)))).settle := by
  refine congrArg go ((State.takeGuardRequest_of_head alive free head kind).trans ?_)
  rw [if_neg awake, if_neg (by simp [unwarned])]
  exact congrArg State.settle (if_pos h)

/-- LOCK with its close flag clear: it ends OK with the set it locked. -/
theorem State.exec_lock_ends {r : Request} {rest : List GuardOrder} (alive : s.alive = true) (free : s.guardFree = true)
    (head : s.guard.inbox = .request r :: rest) (kind : r.kind = .lock) (awake : s.device ≠ .halted)
    (unwarned : s.guard.warned = false) (h : ¬(r.byte 5).getLsbD 0 = true) :
    exec .lock s = .next ((s.lockedFor r).complete r .ok 0 [s.openIn (r.byte 4)]).settle := by
  refine congrArg go ((State.takeGuardRequest_of_head alive free head kind).trans ?_)
  rw [if_neg awake, if_neg (by simp [unwarned])]
  exact congrArg State.settle (if_neg h)

end Sys2Proof.Machine

open Sys2Proof Sys2Proof.Machine

/-- Settles O33: the locks are those of a lock order for the mask, and what follows the report depends on the close flag. -/
theorem lockRequests : Obligations.LockRequests := by
  intro s r rest alive ok free head kind
  have run := State.takeGuardRequest_of_head (serve := State.lockRequest) alive free head kind
  obtain ⟨locks, report, changed⟩ := State.lockedFor_locks (s := s) r
  refine ⟨fun halted => ?_, fun awake warned => ?_, fun awake unwarned => ?_⟩
  · rw [if_pos halted] at run
    exact ⟨_, congrArg go run, State.turnedAway ok r .halted⟩
  · rw [if_neg awake, if_pos warned] at run
    exact ⟨_, congrArg go run, State.turnedAway ok r .power⟩
  · by_cases h : (r.byte 5).getLsbD 0 = true
    · let u := ((s.lockedFor r).tellCred (.windowClose true)).guardWaits (.windowClose r (s.openIn (r.byte 4)))
      have waits : (s.lockedFor r).sameBut [.credInbox, .guardInbox] u :=
        State.sameBut_then (State.tellCred_sameBut _) (State.guardWaits_sameBut _)
      have then_ : (s.lockedFor r).sameBut (.credInbox :: .guardInbox :: showing) u.settle :=
        State.sameBut_then waits State.settle_sameBut
      have settled : u.sameBut showing u.settle := State.settle_sameBut
      refine ⟨u.settle, State.exec_lock_closes alive free head kind awake unwarned h, then_.locks locks,
        then_.volumesReported report, ?_, State.sameBut_then changed then_⟩
      rw [if_pos h, (State.sameBut_agree settled .guardInbox).2, State.sameBut_agree settled .credInbox]
      exact ⟨rfl, List.getLast?_concat⟩
    · let u := (s.lockedFor r).complete r .ok 0 [s.openIn (r.byte 4)]
      have settled : u.sameBut showing u.settle := State.settle_sameBut
      have completing' : (s.lockedFor r).sameBut completing u := State.complete_sameBut _ _ _ _
      have done := settled.completed (State.complete_completed (State.lockedFor_memOk ok r) r .ok 0 [s.openIn (r.byte 4)])
      refine ⟨u.settle, State.exec_lock_ends alive free head kind awake unwarned h, ?_, ?_, ?_, ?_⟩
      · exact settled.locks (completing'.locks locks)
      · exact settled.volumesReported ((State.complete_quietly ..).volumesReported completing' report)
      · rw [if_neg h]
        exact ⟨done.1.1, State.completed_result done (i := 2) (by decide), done.2⟩
      · exact State.sameBut_then (State.sameBut_then (rs := .pageVolumes :: sectorEnding) changed completing') settled
end

section
namespace Sys2Proof.Machine
set_option Elab.async false
variable {s t u : State} {ps : List Part}

/-! ### Requests that ask for authorization (R39, R37) -/

/-- The window's timer started again, its hold as it was, and the window section rewritten (R37). -/
def State.rearmed (s t : State) (w : Window) : Prop :=
  t.cred.window = some { w with left := 300 } ∧ t.cred.adminKey = s.cred.adminKey ∧ s.rewritten t .window

/-- A step that leaves the window and its section leaves it rearmed. -/
theorem State.sameBut.rearmed {w : Window} (k : u.sameBut ps t) (h : s.rearmed u w)
    (p : ps.contains .window = false := by decide) (p' : ps.contains .pageWindow = false := by decide) : s.rearmed t w := by
  obtain ⟨hw, ha, hr⟩ := h
  obtain ⟨kw, ka⟩ := State.sameBut_agree k .window p
  have page : t.page.window = u.page.window := State.sameBut_agree k .pageWindow p'
  refine ⟨kw.trans hw, ka.trans ha, ?_⟩
  have body : t.body .window = u.body .window := by simp only [State.body, State.windowBody, kw]
  rw [State.rewritten, body]
  exact page.trans hr

/-- A query with the window OPEN rearms it. -/
theorem State.rearmWindow_rearmed {w : Window} (h : s.cred.window = some w) : s.rearmed (s.rearmWindow id) w := by
  let u := s.modCred fun c => { c with window := c.window.map fun w => { w with left := windowSeconds, held := id w.held } }
  have shown : u.sameBut [.pageWindow] (u.refresh .window) := State.refresh_sameBut .window
  have window : (u.refresh .window).cred.window = u.cred.window ∧ (u.refresh .window).cred.adminKey = u.cred.adminKey :=
    State.sameBut_agree shown .window
  have rearmed : u.cred.window = some { w with left := 300 } := by
    show s.cred.window.map _ = _
    rw [h]; rfl
  refine ⟨window.1.trans rearmed, window.2, ?_⟩
  have body : (u.refresh .window).body .window = u.body .window := by simp only [State.body, State.windowBody, window.1]
  rw [State.rewritten, State.rearmWindow, body]
  exact State.refresh_get .window

/-- With the window OPEN a request is authorized (R39). -/
theorem State.authorize_of_open {w : Window} (h : s.cred.window = some w) : s.authorize = some (s.rearmWindow id) := by
  simp [State.authorize, h]

theorem State.authorize_of_closed (h : s.cred.window = none) : s.authorize = none := by simp [State.authorize, h]

/-- A query finds no tick waiting at a credential unit that is free and has no event to take. -/
theorem State.beforeQuery_of_ready (h : s.guardAsks = true → s.credReady = true) :
    s.beforeQuery s.guardAsks = s ∧ (s.guardAsks && !s.credReady) = false := by
  cases asks : s.guardAsks with
  | false => simp [State.beforeQuery]
  | true =>
    have ready := h asks
    have empty : s.cred.inbox = [] := by simp [State.credReady] at ready; exact ready.2
    exact ⟨State.beforeQuery_of_head _ (by simp [empty]), by simp [ready]⟩

/-- A request that queries the window, the credential unit being ready when it asks. -/
theorem State.query_run {k : Kind} {serve : Request → State → State} (h : s.device ≠ .halted → s.guard.warned = false → s.credReady = true) :
    (if (s.beforeQuery s.guardAsks).guardAsks && !(s.beforeQuery s.guardAsks).credReady then s.beforeQuery s.guardAsks
      else (s.beforeQuery s.guardAsks).takeGuardRequest k serve) = s.takeGuardRequest k serve := by
  obtain ⟨same, free⟩ := State.beforeQuery_of_ready (s := s) fun asks => by
    simp [State.guardAsks] at asks; exact h asks.1 asks.2
  rw [same, free]; rfl

/-- A request that fails after its authorization: no change but the window's timer. -/
theorem State.refusedAfter (ok : s.memOk = true) {w : Window} (open_ : s.cred.window = some w) (r : Request) (st : Status) :
    let t := ((s.popGuard.rearmWindow id).complete r st 0 []).settle
    s.rearmed t w ∧ s.completed t r st 0 [] ∧
      s.sameBut (([.window, .pageWindow] : List Part) ++ completing ++ showing) t := by
  intro t
  have asked : s.sameBut [.guardInbox, .window, .pageWindow] (s.popGuard.rearmWindow id) :=
    State.sameBut_then State.popGuard_sameBut (State.rearmWindow_sameBut id)
  have ended : (s.popGuard.rearmWindow id).sameBut (completing ++ showing) t :=
    State.sameBut_then (State.complete_sameBut r st 0 []) State.settle_sameBut
  exact ⟨ended.rearmed (State.rearmWindow_rearmed (s := s.popGuard) open_), State.completed_settle ok asked r st,
    State.sameBut_then asked ended⟩

/-! ### DEFINE_VOLUME (R20) -/

/-- The extent of the request overlaps that of a volume that is neither ABSENT nor FAULT (R20). -/
theorem State.overlapsOther_iff (first count : Nat) :
    s.overlapsOther none first count = true ↔
      ∃ w, (s.vol w).data.state ≠ .absent ∧ (s.vol w).data.state ≠ .fault ∧
        first < (s.vol w).data.first + (s.vol w).data.count ∧
        (s.vol w).data.first < first + count ∧ 0 < count ∧ 0 < (s.vol w).data.count := by
  simp [State.overlapsOther, overlaps, allVols, and_assoc]

/-- The checks of DEFINE_VOLUME for a volume, in their order. -/
theorem State.defineCheck_of_volume {r : Request} {v : Vol} (volume : volOfIndex (r.byte 4).toNat = some v) :
    s.defineCheck r =
      if (s.vol v).data.state ≠ .absent ∨ r.field 12 4 = 0 then .error .badParam
      else if s.link.capacity.toNat < r.field 8 4 + r.field 12 4 then .error .range
      else if s.overlapsOther none (r.field 8 4) (r.field 12 4) then .error .overlap
      else .ok v := by
  have fits_iff : (!fits r.volRec s.link.capacity.toNat) = true ↔ s.link.capacity.toNat < r.field 8 4 + r.field 12 4 := by
    simp [fits, Request.volRec]
  simp only [State.defineCheck, volume, fits_iff]
  rfl

/-- The checks of DEFINE_VOLUME rest on the table and on the link's capacity. -/
theorem State.defineCheck_congr (vols : t.guard.vols = s.guard.vols) (link : t.link = s.link) (r : Request) :
    t.defineCheck r = s.defineCheck r := by
  simp only [State.defineCheck, State.overlapsOther, State.vol, vols, link]
  rfl

/-- Authorized, a DEFINE_VOLUME whose checks fail ends with the status of the first that does. -/
theorem State.defineRequest_of_error {w : Window} {r : Request} {st : Status} (open_ : s.cred.window = some w)
    (h : s.defineCheck r = .error st) :
    State.defineRequest r s.popGuard = (s.popGuard.rearmWindow id).complete r st 0 [] := by
  have check : (s.popGuard.rearmWindow id).defineCheck r = .error st :=
    (State.defineCheck_congr ((State.rearmWindow_sameBut id).vols)
      (State.sameBut_agree (State.rearmWindow_sameBut id) .link) r).trans h
  rw [State.defineRequest, State.authorize_of_open (s := s.popGuard) open_]
  simp only [check]

/-- The state in which a DEFINE_VOLUME whose checks have passed waits for the wrapping of its key (R21). -/
def State.defining (s : State) (r : Request) (v : Vol) : State :=
  (({ s with draws := s.draws + 1 } : State).tellCred (.wrapAdd v (Config.randomKey s.draws))).guardWaits
    (.wrapAdd r v (Config.randomKey s.draws))

theorem State.defining_sameBut (r : Request) (v : Vol) : s.sameBut [.draws, .credInbox, .guardInbox] (s.defining r v) := by
  intro p; cases p <;> first | exact .inl (by decide) | exact .inr (by repeat' constructor)

/-- Authorized, a DEFINE_VOLUME whose checks pass draws its key and waits. -/
theorem State.defineRequest_of_ok {w : Window} {r : Request} {v : Vol} (open_ : s.cred.window = some w)
    (h : s.defineCheck r = .ok v) : State.defineRequest r s.popGuard = (s.popGuard.rearmWindow id).defining r v := by
  have check : (s.popGuard.rearmWindow id).defineCheck r = .ok v :=
    (State.defineCheck_congr ((State.rearmWindow_sameBut id).vols)
      (State.sameBut_agree (State.rearmWindow_sameBut id) .link) r).trans h
  rw [State.defineRequest, State.authorize_of_open (s := s.popGuard) open_]
  simp only [check]
  rfl

/-- What a DEFINE_VOLUME does that waits for its wrapping. -/
theorem State.defining_facts {w : Window} {rest : List GuardOrder} {r : Request} (open_ : s.cred.window = some w)
    (head : s.guard.inbox = .request r :: rest) (v : Vol) :
    let t := ((s.popGuard.rearmWindow id).defining r v).settle
    s.rearmed t w ∧ t.draws = s.draws + 1 ∧ t.guard.wait = .wrapAdd r v (Config.randomKey s.draws) ∧ t.guard.inbox = rest ∧
      t.cred.inbox = s.cred.inbox ++ [.wrapAdd v (Config.randomKey s.draws)] ∧
      s.sameBut (([.draws, .window, .pageWindow, .guardInbox, .credInbox] : List Part) ++ showing) t := by
  intro t
  let a := s.popGuard.rearmWindow id
  let d := a.defining r v
  have asked : s.popGuard.sameBut [.window, .pageWindow] a := State.rearmWindow_sameBut id
  have waits : a.sameBut [.draws, .credInbox, .guardInbox] d := State.defining_sameBut r v
  have settled : d.sameBut showing t := State.settle_sameBut
  have draws : a.draws = s.draws := State.sameBut_agree asked .draws
  have inbox : a.cred.inbox = s.cred.inbox := State.sameBut_agree asked .credInbox
  have orders : a.guard.inbox = rest := (State.sameBut_agree asked .guardInbox).1.trans (State.popGuard_inbox head)
  have guard := State.sameBut_agree settled .guardInbox
  rw [← draws, ← inbox, ← orders]
  refine ⟨settled.rearmed (waits.rearmed (State.rearmWindow_rearmed (s := s.popGuard) open_)),
    State.sameBut_agree settled .draws, guard.2, guard.1, State.sameBut_agree settled .credInbox, ?_⟩
  exact State.sameBut_then (State.sameBut_then (rs := [.draws, .window, .pageWindow, .guardInbox, .credInbox])
    (State.sameBut_then (rs := [.window, .pageWindow, .guardInbox]) State.popGuard_sameBut asked) waits) settled

end Sys2Proof.Machine

open Sys2Proof Sys2Proof.Machine

/-- Settles O34: each check of R20 in its order, and behind them the key drawn and handed to be wrapped. -/
theorem defineVolumeRequests : Obligations.DefineVolumeRequests := by
  intro s r rest alive ok free head kind ready first count overlap
  have run := congrArg go ((State.query_run (serve := State.defineRequest) ready).trans
    (State.takeGuardRequest_of_head alive free head kind))
  by_cases halted : s.device = .halted
  · rw [if_pos halted] at run
    refine ⟨_, run, ?_⟩
    rw [if_pos halted]
    exact State.turnedAway ok r .halted
  rw [if_neg halted] at run
  by_cases warned : s.guard.warned = true
  · rw [if_pos warned] at run
    refine ⟨_, run, ?_⟩
    rw [if_neg halted, if_pos warned]
    exact State.turnedAway ok r .power
  rw [if_neg warned] at run
  simp only [if_neg halted, if_neg warned]
  cases open_ : s.cred.window with
  | none =>
    have closed : State.defineRequest r s.popGuard = s.popGuard.complete r .notAuthorized 0 [] := by
      rw [State.defineRequest, State.authorize_of_closed (s := s.popGuard) open_]
    rw [closed] at run
    exact ⟨_, run, State.turnedAway ok r .notAuthorized⟩
  | some w =>
    have fails (st : Status) (check : s.defineCheck r = .error st) : ∃ t, exec .defineVolume s = .next t ∧
        s.rearmed t w ∧ s.completed t r st 0 [] ∧
          s.sameBut (([.window, .pageWindow] : List Part) ++ completing ++ showing) t := by
      rw [State.defineRequest_of_error open_ check] at run
      exact ⟨_, run, State.refusedAfter ok open_ r st⟩
    cases volume : volOfIndex (r.byte 4).toNat with
    | none =>
      obtain ⟨t, step, ⟨hw, ha, hr⟩, ended⟩ := fails .badParam (by simp [State.defineCheck, volume])
      exact ⟨t, step, hw, ha, hr, ended⟩
    | some v =>
      have table := State.defineCheck_of_volume (s := s) volume
      by_cases bad : (s.vol v).data.state ≠ .absent ∨ count = 0
      · obtain ⟨t, step, ⟨hw, ha, hr⟩, ended⟩ := fails .badParam (table.trans (if_pos bad))
        simp only [if_pos bad]
        exact ⟨t, step, hw, ha, hr, ended⟩
      replace table := table.trans (if_neg bad)
      simp only [if_neg bad]
      by_cases wide : s.link.capacity.toNat < first + count
      · obtain ⟨t, step, ⟨hw, ha, hr⟩, ended⟩ := fails .range (table.trans (if_pos wide))
        simp only [if_pos wide]
        exact ⟨t, step, hw, ha, hr, ended⟩
      replace table := table.trans (if_neg wide)
      simp only [if_neg wide]
      have overlaps_iff : _ ↔ overlap := State.overlapsOther_iff (s := s) first count
      by_cases covers : overlap
      · obtain ⟨t, step, ⟨hw, ha, hr⟩, ended⟩ := fails .overlap (table.trans (if_pos (overlaps_iff.2 covers)))
        exact ⟨t, step, hw, ha, hr, fun _ => ended, fun no => absurd covers no⟩
      · rw [State.defineRequest_of_ok open_ (table.trans (if_neg (mt overlaps_iff.1 covers)))] at run
        obtain ⟨⟨hw, ha, hr⟩, defined⟩ := State.defining_facts open_ head v
        exact ⟨_, run, hw, ha, hr, fun yes => absurd yes covers, fun _ => defined⟩
end

section
namespace Sys2Proof.Machine
set_option Elab.async false
variable {s t u : State} {ps : List Part}

/-! ### Commits of the guard -/

/-- A commit of the guard with a store that takes records: it waits, and the records stand with the store. -/
theorem State.guardCommit_sameBut_of_takes (takes : s.storeTakes = true) (rs : List Rec) (n : Nat) (next : GuardThen) :
    s.sameBut [.guardInbox, .commits, .storeRest] (s.guardCommit rs n next) := by
  rw [State.guardCommit_of_takes takes]
  exact State.sameBut_then (State.guardWaits_sameBut _)
    (foldl_sameBut (ps := [.commits, .storeRest]) (fun u r => u.queueRec_sameBut r [.guard]) rs)

/-- The guard waits for its commits, and its inbox is as it was. -/
theorem State.guardCommit_guard (takes : s.storeTakes = true) (rs : List Rec) (n : Nat) (next : GuardThen) :
    (s.guardCommit rs n next).guard.inbox = s.guard.inbox ∧ (s.guardCommit rs n next).guard.wait = .commits n next := by
  rw [State.guardCommit_of_takes takes]
  exact State.sameBut_agree (foldl_sameBut (ps := [.commits, .storeRest]) (fun u r => u.queueRec_sameBut r [.guard]) rs)
    .guardInbox

/-- One record committed for the guard is awaited by it. -/
theorem State.guardCommit_awaits (takes : s.storeTakes = true) (r : Rec) (n : Nat) (next : GuardThen) :
    (s.guardCommit [r] n next).awaits r .guard := by
  rw [State.guardCommit_of_takes takes]
  exact State.queueRec_awaits r (by simp)

/-- So are two of different names. -/
theorem State.guardCommit_awaits_two (takes : s.storeTakes = true) {r r' : Rec} (h : r.id ≠ r'.id) (n : Nat) (next : GuardThen) :
    (s.guardCommit [r, r'] n next).awaits r .guard ∧ (s.guardCommit [r, r'] n next).awaits r' .guard := by
  rw [State.guardCommit_of_takes takes]
  exact ⟨State.awaits_queueRec (State.queueRec_awaits r (by simp)) h _, State.queueRec_awaits r' (by simp)⟩

/-! ### DELETE_VOLUME (R22) -/

/-- Authorized, a DELETE_VOLUME for a volume that can be deleted has it take the ABSENT values and waits for the commit. -/
def State.deleting (s : State) (r : Request) (v : Vol) : State :=
  (s.modVol v fun x => { x with data := { VolRec.absent with state := .blank } }).guardCommit
    [.volume v VolRec.absent] 1 (.delete r v)

/-- What DELETE_VOLUME does once authorized. -/
theorem State.deleteRequest_of_open {w : Window} (open_ : s.cred.window = some w) (r : Request) :
    State.deleteRequest r s.popGuard =
      match volOfIndex (r.byte 4).toNat with
      | none => (s.popGuard.rearmWindow id).complete r .badParam 0 []
      | some v =>
        if (s.vol v).data.state = .blank ∧ s.eraseEntry v = none then (s.popGuard.rearmWindow id).deleting r v
        else (s.popGuard.rearmWindow id).complete r .notBlank 0 [] := by
  let a := s.popGuard.rearmWindow id
  have asked : s.popGuard.sameBut [.window, .pageWindow] a := State.rearmWindow_sameBut id
  have vol (v : Vol) : a.vol v = s.vol v := asked.vol v
  have entry (v : Vol) : a.eraseEntry v = s.eraseEntry v := by
    have e : a.erase.list = s.erase.list := State.sameBut_agree asked .eraseList
    simp only [State.eraseEntry, e]
  have auth : s.popGuard.authorize = some a := State.authorize_of_open (s := s.popGuard) open_
  simp only [State.deleteRequest, auth]
  cases volOfIndex (r.byte 4).toNat with
  | none => rfl
  | some v =>
    simp only [vol, entry, Bool.and_eq_true, decide_eq_true_eq, Option.isNone_iff_eq_none]
    rfl

/-- What a DELETE_VOLUME does that waits for its commit. -/
theorem State.deleting_facts {w : Window} (takes : s.storeTakes = true) (open_ : s.cred.window = some w) (r : Request) (v : Vol) :
    let t := ((s.popGuard.rearmWindow id).deleting r v).settle
    s.rearmed t w ∧ (∀ w, w ≠ v → t.vol w = s.vol w) ∧ (t.vol v).data = { VolRec.absent with state := .blank } ∧
      t.guard.wait = .commits 1 (.delete r v) ∧ t.awaits (.volume v VolRec.absent) .guard ∧
      s.sameBut (([.volumes, .guardInbox, .commits, .storeRest, .window, .pageWindow] : List Part) ++ showing) t := by
  intro t
  let a := s.popGuard.rearmWindow id
  let m := a.modVol v fun x => { x with data := { VolRec.absent with state := .blank } }
  let c := a.deleting r v
  have asked : s.popGuard.sameBut [.window, .pageWindow] a := State.rearmWindow_sameBut id
  have changed : a.sameBut [.volumes] m := State.modVol_sameBut v _
  have takes' : m.storeTakes = true := (changed.storeTakes.trans asked.storeTakes).trans takes
  have commits : m.sameBut [.guardInbox, .commits, .storeRest] c := State.guardCommit_sameBut_of_takes takes' _ _ _
  have settled : c.sameBut showing t := State.settle_sameBut
  have vol (x : Vol) : t.vol x = m.vol x := (settled.vol x).trans (commits.vol x)
  refine ⟨settled.rearmed (commits.rearmed (changed.rearmed (State.rearmWindow_rearmed (s := s.popGuard) open_))),
    fun x hx => ?_, ?_, ?_, settled.awaits (State.guardCommit_awaits takes' _ _ _), ?_⟩
  · rw [vol, State.modVol_vol, if_neg hx.symm]
    exact asked.vol x
  · rw [vol, State.modVol_vol, if_pos rfl]
  · exact (State.sameBut_agree settled .guardInbox).2.trans (State.guardCommit_guard takes' _ _ _).2
  · exact State.sameBut_then (State.sameBut_then (rs := [.volumes, .guardInbox, .commits, .storeRest, .window, .pageWindow])
      (State.sameBut_then (rs := [.volumes, .guardInbox, .window, .pageWindow]) State.popGuard_sameBut
        (State.sameBut_then (rs := [.volumes, .window, .pageWindow]) asked changed)) commits) settled

end Sys2Proof.Machine

open Sys2Proof Sys2Proof.Machine

/-- Settles O36: each check of R22 in its order, and behind them the ABSENT values and the commit awaited. -/
theorem deleteVolumeRequests : Obligations.DeleteVolumeRequests := by
  intro s r rest alive ok free takes head kind ready
  have run := congrArg go ((State.query_run (serve := State.deleteRequest) ready).trans
    (State.takeGuardRequest_of_head alive free head kind))
  by_cases halted : s.device = .halted
  · rw [if_pos halted] at run
    refine ⟨_, run, ?_⟩
    rw [if_pos halted]
    exact State.turnedAway ok r .halted
  rw [if_neg halted] at run
  by_cases warned : s.guard.warned = true
  · rw [if_pos warned] at run
    refine ⟨_, run, ?_⟩
    rw [if_neg halted, if_pos warned]
    exact State.turnedAway ok r .power
  rw [if_neg warned] at run
  simp only [if_neg halted, if_neg warned]
  cases open_ : s.cred.window with
  | none =>
    have closed : State.deleteRequest r s.popGuard = s.popGuard.complete r .notAuthorized 0 [] := by
      rw [State.deleteRequest, State.authorize_of_closed (s := s.popGuard) open_]
    rw [closed] at run
    exact ⟨_, run, State.turnedAway ok r .notAuthorized⟩
  | some w =>
    rw [State.deleteRequest_of_open open_] at run
    cases volume : volOfIndex (r.byte 4).toNat with
    | none =>
      simp only [volume] at run
      obtain ⟨⟨hw, ha, hr⟩, ended⟩ := State.refusedAfter ok open_ r .badParam
      exact ⟨_, run, hw, ha, hr, ended⟩
    | some v =>
      simp only [volume] at run
      by_cases blank : (s.vol v).data.state = .blank ∧ s.eraseEntry v = none
      · rw [if_pos blank] at run
        obtain ⟨⟨hw, ha, hr⟩, deleted⟩ := State.deleting_facts takes open_ r v
        simp only [if_pos blank]
        exact ⟨_, run, hw, ha, hr, deleted⟩
      · rw [if_neg blank] at run
        obtain ⟨⟨hw, ha, hr⟩, ended⟩ := State.refusedAfter ok open_ r .notBlank
        simp only [if_neg blank]
        exact ⟨_, run, hw, ha, hr, ended⟩
end

section
namespace Sys2Proof.Machine
set_option Elab.async false
variable {s t u : State} {ps : List Part}

/-! ### WRAP_AND_ADD (R21, R26) -/

/-- The event at the head of a free credential unit's inbox is taken; no tick stands before it. -/
theorem State.takeCred_of_head {act : CredEvent → Option (State → State)} {e : CredEvent} {rest : List CredEvent}
    {g : State → State} (alive : s.alive = true) (free : s.credFree = true) (head : s.cred.inbox = e :: rest) (tick : e ≠ .tick)
    (h : act e = some g) : s.takeCred act = (g s.popCred).settle := by
  have ticks : s.takeWindowTicks = s := State.takeWindowTicks_of_head (by simpa [head] using tick)
  simp [State.takeCred, State.takeNextCred, alive, ticks, free, head, h]

/-- The volume's key wrapped into the window's slot, which binds it. -/
def State.wrapSlot (s : State) (i : CSlot) (v : Vol) (key : MediaKey) : CredSlot :=
  { s.cslot i with
    wraps := insertWrap (wrapEntry s.cred.adminKey v key) (s.cslot i).wraps, bind := (s.cslot i).bind ||| single v }

/-- The slot changed alone. -/
theorem State.addWrap_eq (i : CSlot) (v : Vol) (key : MediaKey) : s.addWrap i v key = s.setSlot i (s.wrapSlot i v key) := rfl

/-- WRAP_AND_ADD for a DEFINE_VOLUME that waits, with the window CLOSED. -/
theorem State.wrapAndAdd_of_closed {r : Request} {x v : Vol} {k key : MediaKey} (wait : s.guard.wait = .wrapAdd r x k)
    (closed : s.cred.window = none) :
    s.wrapAndAdd v key = (s.guardWaits .free).complete r
      (if s.cred.warned && s.cred.shutByWarning then .power else .notAuthorized) 0 [] := by
  simp only [State.wrapAndAdd, wait, closed]

/-- WRAP_AND_ADD for a DEFINE_VOLUME that waits, with the window OPEN. -/
theorem State.wrapAndAdd_of_open {r : Request} {x v : Vol} {k key : MediaKey} {w : Window}
    (wait : s.guard.wait = .wrapAdd r x k) (open_ : s.cred.window = some w) :
    s.wrapAndAdd v key = (s.setSlot w.slot (s.wrapSlot w.slot v key)).guardCommit
      [.slot w.slot (s.wrapSlot w.slot v key), .volume v r.volRec] 2 (.define r v key w.slot) := by
  have record : (s.addWrap w.slot v key).slotRec w.slot = .slot w.slot (s.wrapSlot w.slot v key) := by
    rw [State.addWrap_eq, State.slotRec, State.setSlot_cslot, if_pos rfl]
  simp only [State.wrapAndAdd, wait, open_, record]
  rfl

end Sys2Proof.Machine

open Sys2Proof Sys2Proof.Machine

/-- Settles O35: by whether the window is OPEN. -/
theorem wrapAndAddOrders : Obligations.WrapAndAddOrders := by
  intro s v key k r x rest alive ok free head wait
  have run : exec .wrapAndAdd s = .next (s.popCred.wrapAndAdd v key).settle := congrArg go
    (State.takeCred_of_head (g := fun t => t.wrapAndAdd v key) alive free head (by simp) rfl)
  have popped : s.sameBut [.credInbox] s.popCred := State.popCred_sameBut
  refine ⟨fun closed => ?_, fun w open_ takes => ?_⟩
  · rw [State.wrapAndAdd_of_closed (s := s.popCred) wait closed] at run
    have freed : s.sameBut [.credInbox, .guardInbox] (s.popCred.guardWaits .free) :=
      State.sameBut_then popped (State.guardWaits_sameBut .free)
    refine ⟨_, run, ?_, State.completed_settle ok freed r _, ?_⟩
    · exact (State.sameBut_agree State.settle_sameBut .guardInbox).2.trans (State.complete_givesRequests _ _ _ _).1
    · exact State.sameBut_then (State.sameBut_then (rs := completing) freed (State.complete_sameBut _ _ _ _))
        State.settle_sameBut
  · rw [State.wrapAndAdd_of_open (s := s.popCred) wait open_] at run
    let c := s.wrapSlot w.slot v key
    let a := s.popCred.setSlot w.slot c
    let d := a.guardCommit [.slot w.slot c, .volume v r.volRec] 2 (.define r v key w.slot)
    have added : s.popCred.sameBut [.slots] a := State.setSlot_sameBut _ _
    have takes' : a.storeTakes = true := (added.storeTakes.trans popped.storeTakes).trans takes
    have commits : a.sameBut [.guardInbox, .commits, .storeRest] d := State.guardCommit_sameBut_of_takes takes' _ _ _
    have settled : d.sameBut showing d.settle := State.settle_sameBut
    have awaited := State.guardCommit_awaits_two takes' (r := .slot w.slot c) (r' := .volume v r.volRec) (by simp [Rec.id])
      2 (.define r v key w.slot)
    refine ⟨d.settle, run, ⟨fun i => ?_, settled.awaits awaited.1, settled.awaits awaited.2, ?_⟩, ?_⟩
    · have slots : d.settle.cred.slots = a.cred.slots :=
        State.agree_trans (p := .slots) (State.sameBut_agree commits .slots) (State.sameBut_agree settled .slots)
      rw [State.cslot, slots, ← State.cslot, State.setSlot_cslot]
      simp only [eq_comm]
      rfl
    · exact (State.sameBut_agree settled .guardInbox).2.trans (State.guardCommit_guard takes' _ _ _).2
    · exact State.sameBut_then (State.sameBut_then (rs := [.slots, .credInbox, .guardInbox, .commits, .storeRest])
        (State.sameBut_then (rs := [.slots, .credInbox]) popped added) commits) settled
end

section
namespace Sys2Proof.Machine
set_option Elab.async false
variable {s t u : State} {ps : List Part}

/-! ### The arbiter (R102, R103) -/

/-- A rewrite of a section leaves the link. -/
@[simp] theorem State.refresh_link (x : Section) : (s.refresh x).link = s.link := by
  unfold State.refresh; split_ifs <;> rfl

/-- A rewrite of a section leaves the engine. -/
@[simp] theorem State.refresh_erase (x : Section) : (s.refresh x).erase = s.erase := by
  unfold State.refresh; split_ifs <;> rfl

/-- The link once it has been granted. -/
theorem State.grant_link (q : Requester) :
    (s.grant q).link = { s.link with
      state := .busy, granted := some q
      sectorAsks := if q = .sector then false else s.link.sectorAsks
      engineAsks := if q = .engine then false else s.link.engineAsks
      losses := if q = .engine then 0 else s.link.losses } := by
  cases q <;> simp [State.grant, State.tellEngine]

/-- A grant to the engine is one of its events (R110). -/
theorem State.grant_eraseInbox (q : Requester) :
    (s.grant q).erase.inbox = s.erase.inbox ++ if q = .engine then [.grant] else [] := by
  cases q <;> simp [State.grant, State.tellEngine]

/-- A boundary at a link that is held, or that serves nobody, is none. -/
theorem State.boundary_of_held (h : (s.linkServes && s.link.open_) = false) : s.boundary = s := by
  rw [State.boundary, h]; rfl

/-- A link that is open is READY and granted to nobody. -/
theorem Link.open_iff {l : Link} : l.open_ = true ↔ l.state = .ready ∧ l.inFlight = none ∧ l.granted = none := by
  simp [Link.open_, and_assoc]

/-- The decision between two requests: a WIPE head, and a REQUEST head that has lost its share's number, win (R103). -/
theorem arbitrate_eq (list : List EraseEntry) (losses : Nat) :
    arbitrate list losses =
      if list.head?.all fun h => h.wipe || h.share ≤ losses then (.engine, 0) else (.sector, losses + 1) := by
  cases list with
  | nil => rfl
  | cons h l => cases hw : h.wipe <;> simp [arbitrate, hw]

/-- A boundary at an open link gives what R102 and R103 say. -/
theorem State.boundary_arbitrated (serves : s.linkServes = true) (free : s.link.open_ = true) :
    s.boundary.arbitrated s.erase.list s.link.losses s.link.sectorAsks s.link.engineAsks := by
  obtain ⟨ready, -, ungranted⟩ := Link.open_iff.1 free
  unfold State.boundary State.arbitrated
  rw [serves, free]
  cases sec : s.link.sectorAsks <;> cases eng : s.link.engineAsks
  · simp [ready, ungranted]
  · simp [State.grant_link, sec]
  · simp [State.grant_link, eng]
  · rw [arbitrate_eq]
    cases s.erase.list.head?.all fun h => h.wipe || h.share ≤ s.link.losses <;> simp [State.grant_link, sec, eng]

/-- A boundary decides who holds the link, and leaves it otherwise as it was. -/
theorem State.boundary_link : ∃ st g sec eng n, s.boundary.link =
    { s.link with state := st, granted := g, sectorAsks := sec, engineAsks := eng, losses := n } := by
  have granted (q : Requester) : ∃ st g sec eng n, (s.grant q).link =
      { s.link with state := st, granted := g, sectorAsks := sec, engineAsks := eng, losses := n } :=
    ⟨_, _, _, _, _, State.grant_link q⟩
  unfold State.boundary
  split_ifs
  · exact ⟨_, _, _, _, _, State.grant_link _⟩
  · exact granted _
  · exact granted _
  all_goals exact ⟨s.link.state, s.link.granted, s.link.sectorAsks, s.link.engineAsks, s.link.losses, rfl⟩

/-- The event that a boundary gives the engine is its grant (R110). -/
theorem State.boundary_eraseInbox (h : s.link.granted = none) :
    s.boundary.erase.inbox = s.erase.inbox ++ s.boundary.grantEvent := by
  have granted (t : State) (q : Requester) (e : t.erase.inbox = s.erase.inbox) :
      (t.grant q).erase.inbox = s.erase.inbox ++ (t.grant q).grantEvent := by
    rw [State.grant_eraseInbox, State.grantEvent, State.grant_link, e]
    cases q <;> simp
  have none : s.erase.inbox = s.erase.inbox ++ s.grantEvent := by simp [State.grantEvent, h]
  unfold State.boundary
  split_ifs
  · exact granted _ _ rfl
  · exact granted _ _ rfl
  · exact granted _ _ rfl
  · exact none
  · exact none

/-- A link made READY with nothing in flight. -/
theorem State.linkReady_link : s.linkReady.link = { s.link with state := .ready, inFlight := none, granted := none } := by
  simp [State.linkReady]

theorem State.linkReady_erase : s.linkReady.erase = s.erase := by simp [State.linkReady]

/-- A link made READY is open. -/
theorem State.linkReady_open : s.linkReady.link.open_ = true := by rw [State.linkReady_link]; rfl

theorem State.linkReady_serves : s.linkReady.linkServes = s.linkServes := by
  have device : s.linkReady.device = s.device := State.sameBut_agree State.linkReady_sameBut .device
  rw [State.linkServes, State.linkReady_link, device]
  rfl

/-- What a link made READY, and then its boundary, gives. -/
theorem State.linkReady_boundary_arbitrated (serves : s.linkServes = true) :
    s.linkReady.boundary.arbitrated s.erase.list s.link.losses s.link.sectorAsks s.link.engineAsks := by
  have h := State.boundary_arbitrated (State.linkReady_serves.trans serves) (State.linkReady_open (s := s))
  rwa [State.linkReady_erase, State.linkReady_link] at h

/-- A link made READY that serves nobody stays granted to nobody. -/
theorem State.linkReady_boundary_of_unserved (serves : s.linkServes = false) : s.linkReady.boundary = s.linkReady :=
  State.boundary_of_held (by rw [State.linkReady_serves, serves]; rfl)

/-- The engine's events once the link has been made READY and its boundary has come. -/
theorem State.linkReady_boundary_eraseInbox :
    s.linkReady.boundary.erase.inbox = s.erase.inbox ++ s.linkReady.boundary.grantEvent := by
  rw [State.boundary_eraseInbox (by rw [State.linkReady_link]), State.linkReady_erase]

/-! ### The end of the active sector request (R91, R17) -/

/-- The results of a sector request that ends without a media error. -/
theorem SectorPath.results_of_ne {p : SectorPath} {st : Status} (h : st ≠ .flashError) : p.results st = [] := if_neg h

/-- The buffers that are zeroed rest on the path and the memory. -/
theorem State.zeroed_mem_congr (sector : t.sector = s.sector) (mem : t.exch.mem = s.exch.mem) (st : Status) :
    (t.zeroed st).exch.mem = (s.zeroed st).exch.mem := by
  unfold State.zeroed
  rw [sector]
  split_ifs
  · exact congrArg (zeroBuffers _ _) mem
  · exact mem

/-- The memory of a request let go is zeroed where its status calls for it. -/
theorem State.sectorReleased_mem (st : Status) : (s.sectorReleased st).exch.mem = (s.zeroed st).exch.mem := by
  have withdrawn : s.withdrawSector.exch.mem = s.exch.mem := State.sameBut_agree State.withdrawSector_sameBut .mem
  unfold State.sectorReleased State.zeroed
  extract_lets t u
  have ht : t.exch.mem = s.exch.mem := withdrawn
  show u.exch.mem = _
  unfold u
  split_ifs
  · exact congrArg (zeroBuffers _ _) ht
  · exact ht

/-- A request let go leaves the path idle. -/
theorem State.sectorReleased_sector (st : Status) : (s.sectorReleased st).sector = { warned := s.sector.warned } := by
  have withdrawn : s.withdrawSector.sector = s.sector := State.sameBut_agree State.withdrawSector_sameBut .sector
  unfold State.sectorReleased
  extract_lets t u
  have hu : u.sector = s.sector := by
    unfold u
    split_ifs <;> exact withdrawn
  show ({ warned := u.sector.warned } : SectorPath) = _
  rw [hu]

/-- A request let go has withdrawn from the link. -/
theorem State.sectorReleased_link (st : Status) : (s.sectorReleased st).link = s.withdrawSector.link := by
  unfold State.sectorReleased
  extract_lets t u
  show u.link = _
  unfold u
  split_ifs <;> rfl

/-- What of the engine's events stands when a request has been let go. -/
theorem State.sectorReleased_eraseInbox (st : Status) :
    (s.sectorReleased st).erase.inbox = s.withdrawSector.erase.inbox := by
  unfold State.sectorReleased
  extract_lets t u
  show u.erase.inbox = _
  unfold u
  split_ifs <;> rfl

/-- The guard when a request has been let go: no order of it is left. -/
theorem State.sectorReleased_guard (st : Status) :
    (s.sectorReleased st).guard.wait = s.guard.wait ∧ (s.sectorReleased st).guard.inbox =
      s.guard.inbox.filter fun o => o ≠ .sectorCheck && o ≠ .sectorDecision := by
  have withdrawn := State.sameBut_agree (State.withdrawSector_sameBut (s := s)) .guardInbox
  unfold State.sectorReleased
  extract_lets t u
  have hu : u.guard = t.guard := by
    unfold u
    split_ifs <;> rfl
  show u.guard.wait = _ ∧ u.guard.inbox = _
  rw [hu]
  exact ⟨withdrawn.2, congrArg (List.filter _) withdrawn.1⟩

/-- The state in which the active request's slot has been completed, its volume's timer not yet reloaded. -/
def State.sectorDone (s : State) (r : Request) (st : Status) : State :=
  (s.sectorReleased st).complete r st s.sector.done (s.sector.results st)

/-- From there the end reloads at most a timer. -/
theorem State.endSector_of_done {r : Request} (h : s.sectorHead = some r) (st : Status) :
    (s.sectorDone r st).sameBut [.volumes] (s.endSector st) := by
  rw [State.endSector_of_head h]
  split
  · exact State.reloadIdle_sameBut _
  · exact State.sameBut_refl

/-- The end of the active request leaves the path idle. -/
theorem State.endSector_sector {r : Request} (h : s.sectorHead = some r) (st : Status) :
    (s.endSector st).sector = { warned := s.sector.warned } := by
  have done : (s.sectorDone r st).sector = (s.sectorReleased st).sector :=
    State.sameBut_agree (State.complete_sameBut _ _ _ _) .sector
  have ended : (s.endSector st).sector = (s.sectorDone r st).sector := State.sameBut_agree (State.endSector_of_done h st) .sector
  rw [ended, done, State.sectorReleased_sector]

/-- The end of the active request completes its slot, the filled buffers zeroed (R17, R94). -/
theorem State.endSector_completed {r : Request} (ok : s.memOk = true) (h : s.sectorHead = some r) (st : Status) :
    (s.zeroed st).completed (s.endSector st) r st s.sector.done (s.sector.results st) := by
  have ok' : (s.sectorReleased st).memOk = true := (State.sectorReleased_quietly st).1 ok
  have done := State.complete_completed ok' r st s.sector.done (s.sector.results st)
  exact (State.endSector_of_done h st).completed (State.completed_of_mem done (State.sectorReleased_mem st))

/-- The link after the end of the active request is the one it has withdrawn from. -/
theorem State.endSector_link {r : Request} (h : s.sectorHead = some r) (st : Status) :
    (s.endSector st).link = s.withdrawSector.link := by
  have done : (s.sectorDone r st).link = (s.sectorReleased st).link :=
    State.sameBut_agree (State.complete_sameBut _ _ _ _) .link
  have ended : (s.endSector st).link = (s.sectorDone r st).link := State.sameBut_agree (State.endSector_of_done h st) .link
  rw [ended, done, State.sectorReleased_link]

/-- What the end of the active request gives to the guard and the engine. -/
theorem State.endSector_givesRequests {r : Request} (h : s.sectorHead = some r) (st : Status) :
    (s.sectorReleased st).givesRequests (s.endSector st) :=
  (State.complete_givesRequests _ _ _ _).trans (State.endSector_of_done h st).givesRequests

/-- The guard after the end of the active request: no order of it is left, requests may have come (R165). -/
theorem State.endSector_guard (st : Status) :
    (s.endSector st).guard.wait = s.guard.wait ∧
      ∀ r, s.sectorHead = some r → ∃ l : List Request, (s.endSector st).guard.inbox =
        (s.guard.inbox.filter fun o => o ≠ .sectorCheck && o ≠ .sectorDecision) ++ l.map .request := by
  cases h : s.sectorHead with
  | none => rw [State.endSector_of_none h]; simp
  | some r =>
    obtain ⟨wait, ⟨l, inbox⟩, -⟩ := State.endSector_givesRequests h st
    obtain ⟨wait', inbox'⟩ := State.sectorReleased_guard (s := s) st
    exact ⟨wait.trans wait', fun _ _ => ⟨l, by rw [inbox, inbox']⟩⟩

/-- A grant handed back by the sector path goes to the engine when it asks (R91, R102, R103). -/
theorem State.withdrawSector_returned (granted : s.link.granted = some .sector) :
    if s.linkServes && s.link.engineAsks then
      s.withdrawSector.link.state = .busy ∧ s.withdrawSector.link.granted = some .engine ∧
        s.withdrawSector.link.losses = 0 ∧ s.withdrawSector.erase.inbox = s.erase.inbox ++ [.grant]
    else s.withdrawSector.link.state = .ready ∧ s.withdrawSector.link.granted = none ∧
      s.withdrawSector.link.losses = s.link.losses := by
  let u := s.modLink fun l => { l with sectorAsks := false }
  have back : s.withdrawSector = u.linkReady.boundary := by
    simp [State.withdrawSector, State.handBack, granted, u]
  have inbox := State.linkReady_boundary_eraseInbox (s := u)
  rw [back]
  cases serves : s.linkServes with
  | false =>
    rw [State.linkReady_boundary_of_unserved (s := u) serves, State.linkReady_link]
    simp [u]
  | true =>
    have decided : if s.link.engineAsks && true then _ else _ := State.linkReady_boundary_arbitrated (s := u) serves
    cases asks : s.link.engineAsks with
    | false =>
      rw [asks] at decided
      exact decided
    | true =>
      rw [asks] at decided
      obtain ⟨busy, engine, none, -⟩ := decided
      refine ⟨busy, engine, none, ?_⟩
      rw [inbox, State.grantEvent, if_pos engine]
      rfl

/-- A request that ends holding an unused grant has handed it back before (R91). -/
theorem State.endSector_grantReturned {r : Request} (h : s.sectorHead = some r) (granted : s.link.granted = some .sector)
    (st : Status) : s.grantReturned (s.endSector st) := by
  obtain ⟨-, -, l, inbox⟩ := State.endSector_givesRequests h st
  have returned := State.withdrawSector_returned granted
  unfold State.grantReturned
  rw [State.endSector_link h, inbox, State.sectorReleased_eraseInbox]
  split_ifs at returned ⊢
  · obtain ⟨a, b, c, d⟩ := returned
    exact ⟨a, b, c, l.map .request, by simp [d]⟩
  · exact returned

/-! ### A volume leaves OPEN or OPEN_RO under an active request (R17) -/

/-- With nothing in flight the active request for the volume ends LOCKED_DURING. -/
theorem State.volumeLeft_of_waiting {v : Vol} (hv : s.sector.vol = v)
    (h : s.sector.phase = .waitingGrant ∨ s.sector.phase = .checking) : s.volumeLeft v = s.endSector .lockedDuring := by
  rcases h with h | h <;> simp [State.volumeLeft, State.stopSector, hv, h]

/-- With a command in flight its end is decided, unless it was before. -/
theorem State.volumeLeft_of_inFlight {v : Vol} (hv : s.sector.vol = v) (h : s.sector.phase = .inFlight) :
    s.volumeLeft v = if s.sector.ended.isSome then s else
      (s.modSector fun p => { p with ended := some .lockedDuring }).modLink fun l =>
        { l with inFlight := l.inFlight.map fun f => { f with withdrawn := true } } := by
  simp [State.volumeLeft, State.stopSector, hv, h]

/-- A volume without the active request is left in peace. -/
theorem State.volumeLeft_of_ne {v : Vol} (hv : s.sector.vol ≠ v) : s.volumeLeft v = s := by simp [State.volumeLeft, hv]

/-- What the active request for a volume that is shut and left comes to. -/
theorem State.shut_lockedDuring (v : Vol) (g : Volume → Volume) : s.lockedDuring ((s.modVol v g).volumeLeft v) v := by
  intro ok _ hv r head
  let m := s.modVol v g
  refine ⟨fun waiting => ?_, fun flying => ?_⟩
  · have left : m.volumeLeft v = m.endSector .lockedDuring := State.volumeLeft_of_waiting (s := m) hv waiting
    have done := State.endSector_completed (s := m) ok head .lockedDuring
    have zeroed : (m.zeroed .lockedDuring).exch.mem = (s.zeroed .lockedDuring).exch.mem :=
      State.zeroed_mem_congr (s := s) (t := m) rfl rfl _
    rw [left]
    refine ⟨?_, State.completed_of_mem done zeroed⟩
    rw [State.endSector_sector (s := m) head]
  · rw [State.volumeLeft_of_inFlight (s := m) hv flying]
    show State.sector (if s.sector.ended.isSome then m else _) = _
    split_ifs with ended
    · obtain ⟨st, h⟩ := Option.isSome_iff_exists.1 ended
      show s.sector = _
      cases e : s.sector
      simp_all
    · have none : s.sector.ended = none := by simpa using ended
      show ({ s.sector with ended := some .lockedDuring } : SectorPath) = _
      rw [none]; rfl

/-- The command in flight of a request for a volume that is shut and left is withdrawn. -/
theorem State.shut_commandWithdrawn {v : Vol} (hv : s.sector.vol = v) (g : Volume → Volume) :
    s.commandWithdrawn ((s.modVol v g).volumeLeft v) := by
  intro flying none
  have open_ : ¬(s.modVol v g).sector.ended.isSome = true := by
    show ¬s.sector.ended.isSome = true
    simp [none]
  rw [State.volumeLeft_of_inFlight (s := s.modVol v g) hv flying, if_neg open_]
  rfl

/-- An unused grant of a request that so ends has been handed back (R91). -/
theorem State.shut_grantReturned {v : Vol} {r : Request} (hv : s.sector.vol = v) (head : s.sectorHead = some r)
    (waiting : s.sector.phase = .waitingGrant ∨ s.sector.phase = .checking) (granted : s.link.granted = some .sector)
    (g : Volume → Volume) : s.grantReturned ((s.modVol v g).volumeLeft v) := by
  rw [State.volumeLeft_of_waiting (s := s.modVol v g) hv waiting]
  exact State.endSector_grantReturned (s := s.modVol v g) head granted _

/-- What is said of the active request rests on the path, the queue and the memory before. -/
theorem State.lockedDuring_of {v : Vol} (h : u.lockedDuring t v) (sector : u.sector = s.sector) (exch : u.exch = s.exch)
    (vol : u.vol v = s.vol v) : s.lockedDuring t v := by
  intro ok isOpen hv r head
  have zeroed : (u.zeroed .lockedDuring).exch.mem = (s.zeroed .lockedDuring).exch.mem :=
    State.zeroed_mem_congr sector (by rw [exch]) _
  obtain ⟨waiting, flying⟩ := h (by rw [exch]; exact ok) (by rw [vol]; exact isOpen) (by rw [sector]; exact hv) r
    (by rw [State.sectorHead, exch]; exact head)
  simp only [sector] at waiting flying
  exact ⟨fun w => ⟨(waiting w).1, State.completed_of_mem (waiting w).2 zeroed⟩, flying⟩

/-- And on the path, the slots, the queues and the DONE flag after. -/
theorem State.lockedDuring_congr {v : Vol} (h : s.lockedDuring u v) (sector : t.sector = u.sector)
    (mem : t.exch.mem = u.exch.mem) (queues : t.exch.queuesOnly = u.exch.queuesOnly)
    (attn : t.attending .done = u.attending .done) : s.lockedDuring t v := by
  intro ok isOpen hv r head
  obtain ⟨waiting, flying⟩ := h ok isOpen hv r head
  rw [← sector] at waiting flying
  exact ⟨fun w => ⟨(waiting w).1, State.completed_congr (waiting w).2 mem queues attn⟩, flying⟩

/-- A step that leaves those leaves what is said of the active request. -/
theorem State.sameBut.lockedDuring {v : Vol} (k : u.sameBut ps t) (h : s.lockedDuring u v)
    (w : ps.contains .sector = false := by decide) (w' : ps.contains .mem = false := by decide)
    (w'' : ps.contains .queues = false := by decide) (a : ps.contains .attn = false := by decide) : s.lockedDuring t v :=
  State.lockedDuring_congr h (State.sameBut_agree k .sector w) (State.sameBut_agree k .mem w')
    (State.sameBut_agree k .queues w'') (k.attending _ a)

/-- So does the guard's report. -/
theorem State.reportVolumes_lockedDuring {v : Vol} (h : s.lockedDuring u v) : s.lockedDuring u.reportVolumes v :=
  have k : u.sameBut [.attn, .pageVolumes] u.reportVolumes := State.reportVolumes_sameBut
  State.lockedDuring_congr h (State.sameBut_agree k .sector) (State.sameBut_agree k .mem) (State.sameBut_agree k .queues)
    (State.reportVolumes_attending_ne (by decide))

/-- A step that leaves the link leaves a withdrawn command. -/
theorem State.sameBut.commandWithdrawn (k : u.sameBut ps t) (h : s.commandWithdrawn u)
    (w : ps.contains .link = false := by decide) : s.commandWithdrawn t := fun flying none => by
  have link : t.link = u.link := State.sameBut_agree k .link w
  rw [link]; exact h flying none

/-- A step that leaves the link and the engine's events leaves a grant handed back. -/
theorem State.sameBut.grantReturned (k : u.sameBut ps t) (h : s.grantReturned u) (w : ps.contains .link = false := by decide)
    (w' : ps.contains .eraseInbox = false := by decide) : s.grantReturned t := by
  have link : t.link = u.link := State.sameBut_agree k .link w
  have inbox : t.erase.inbox = u.erase.inbox := State.sameBut_agree k .eraseInbox w'
  unfold State.grantReturned at h ⊢
  rw [link, inbox]; exact h

end Sys2Proof.Machine
end

section
namespace Sys2Proof.Machine
set_option Elab.async false
variable {s t u : State} {ps : List Part}

/-! ### The end of a sector request leaves the store but for the setting it is given -/

/-- The store is as it was but for the request it may have been given. -/
def State.storeKept (s t : State) : Prop := ({ t.store with settings := none } : Store) = { s.store with settings := none }

theorem State.storeKept.trans (h : s.storeKept t) (k : t.storeKept u) : s.storeKept u := Eq.trans k h

theorem State.storeKept_of_store (h : t.store = s.store) : s.storeKept t := by rw [State.storeKept, h]

/-- A step that leaves the store's three parts leaves the store. -/
theorem State.sameBut.store (h : s.sameBut ps t) (w : ps.contains .array = false := by decide)
    (w' : ps.contains .commits = false := by decide) (w'' : ps.contains .storeRest = false := by decide) :
    t.store = s.store := by
  have nv : t.store.nv = s.store.nv := State.sameBut_agree h .array w
  obtain ⟨queue, room, current⟩ := State.sameBut_agree h .commits w'
  have rest : t.store.rest = s.store.rest := State.sameBut_agree h .storeRest w''
  calc t.store = { t.store.rest with
        nv := t.store.nv, queue := t.store.queue, room := t.store.room, current := t.store.current } := rfl
    _ = { s.store.rest with
        nv := s.store.nv, queue := s.store.queue, room := s.store.room, current := s.store.current } := by
      rw [nv, queue, room, current, rest]
    _ = s.store := rfl

/-- What a store that is kept has. -/
theorem State.storeKept.fields (h : s.storeKept t) :
    t.storeTakes = s.storeTakes ∧ t.store.policy = s.store.policy ∧ t.store.device = s.store.device ∧
      t.standing = s.standing := by
  have same : ∀ {α : Type} (f : Store → α), f { t.store with settings := none } = f { s.store with settings := none } :=
    fun f => congrArg f h
  exact ⟨same fun x => decide (x.mode = .running), same Store.policy, same Store.device,
    same fun x => x.current.toList ++ x.queue ++ x.room⟩

theorem State.dispatch_storeKept : s.storeKept s.dispatch := by
  unfold State.dispatch
  split
  · rfl
  · split_ifs
    · rfl
    · split <;> rfl

theorem State.takeInto_storeKept (n : RSlot) (k : Kind) : s.storeKept (s.takeInto n k) := by
  unfold State.takeInto
  extract_lets r t
  split_ifs
  · exact State.storeKept.trans rfl State.dispatch_storeKept
  · rfl

theorem State.promote_storeKept (q : QueueId) : s.storeKept (s.promote q) := by
  unfold State.promote
  split_ifs
  · split <;> rfl
  · rfl

/-- A completion may give the store a request, and leaves it otherwise. -/
theorem State.complete_storeKept (r : Request) (st : Status) (d : Nat) (l : List Byte) : s.storeKept (s.complete r st d l) := by
  have chain := State.settleChain_rel (R := State.storeKept) (fun _ => rfl) State.storeKept.trans (fun _ _ => rfl)
    (fun _ _ _ => rfl) (fun _ _ _ _ _ _ => rfl) (fun _ => State.takeInto_storeKept) chainRounds r.slot r.offset st s
  let f := (State.settleChain chainRounds r.slot r.offset st s).1.finishSlot r.slot st
    (State.settleChain chainRounds r.slot r.offset st s).2 d l
  have freed : f.storeKept (f.slotFreed r.slot) := by
    unfold State.slotFreed
    extract_lets u
    exact (((State.storeKept.trans (t := u) rfl (State.promote_storeKept _)).trans (State.promote_storeKept _)).trans
      (State.promote_storeKept _)).trans State.dispatch_storeKept
  exact State.storeKept.trans (t := f) chain freed

/-- Letting a request go is no matter of the store. -/
theorem State.sectorReleased_storeKept (st : Status) : s.storeKept (s.sectorReleased st) := by
  have withdrawn : s.withdrawSector.store = s.store := State.withdrawSector_sameBut.store
  unfold State.sectorReleased
  extract_lets t u
  have hu : u.store = t.store := by unfold u; split_ifs <;> rfl
  exact State.storeKept_of_store (hu.trans withdrawn)

theorem State.endSector_storeKept (st : Status) : s.storeKept (s.endSector st) := by
  cases h : s.sectorHead with
  | none => rw [State.endSector_of_none h]; rfl
  | some r =>
    rw [State.endSector_of_head h]
    have done := (s.sectorReleased_storeKept st).trans (State.complete_storeKept r st s.sector.done (s.sector.results st))
    split
    · exact done.trans (State.storeKept_of_store (State.reloadIdle_sameBut _).store)
    · exact done

theorem State.stopSector_storeKept (st : Status) : s.storeKept (s.stopSector st) := by
  unfold State.stopSector
  split
  case h_3 => split_ifs <;> rfl
  case h_1 | h_2 => rfl
  all_goals exact State.endSector_storeKept st

theorem State.volumeLeft_storeKept (v : Vol) : s.storeKept (s.volumeLeft v) := by
  unfold State.volumeLeft
  split
  · exact State.stopSector_storeKept _
  · rfl

theorem State.lockVolume_storeKept (v : Vol) : s.storeKept (s.lockVolume v) := by
  unfold State.lockVolume
  split
  · exact State.storeKept.trans rfl (State.volumeLeft_storeKept v)
  · rfl

theorem State.faultVolume_storeKept (v : Vol) : s.storeKept (s.faultVolume v) := by
  unfold State.faultVolume
  split
  · exact State.storeKept.trans rfl (State.volumeLeft_storeKept v)
  · rfl

/-! ### Fault orders (R10) -/

/-- What the guard writes of a volume that has been shut. -/
theorem Volume.shut_persisted (x : Volume) {st : VState} (h : st ≠ .opened) (h' : st ≠ .openRo) :
    (x.shut st).persisted = { x.data with state := st } := by
  rw [Volume.persisted, Volume.shut_isOpen x h h']
  rfl

/-- What is said of the active request for a volume that a fault shuts (R17). -/
theorem State.faultVolume_lockedDuring (v : Vol) : s.lockedDuring (s.faultVolume v) v := by
  unfold State.faultVolume
  by_cases h : (s.vol v).isOpen = true
  · rw [if_pos h]; exact State.shut_lockedDuring v _
  · exact fun _ isOpen => absurd isOpen h

/-- A volume that is open is shut and left by a fault. -/
theorem State.faultVolume_of_open {v : Vol} (h : (s.vol v).isOpen = true) :
    s.faultVolume v = (s.modVol v fun x => x.shut .fault).volumeLeft v := if_pos h

/-- The state of a fault order that changes its volume, reported. -/
def State.faulted (s : State) (v : Vol) : State := (s.faultVolume v).reportVolumes

/-- A fault order for a volume that is LOCKED, OPEN or OPEN_RO. -/
theorem State.exec_faultOrder {v : Vol} {rest : List GuardOrder} (alive : s.alive = true) (free : s.guardFree = true)
    (head : s.guard.inbox = .fault v :: rest) :
    exec .faultOrder s = .next (s.popGuard.faultOrder v).settle :=
  congrArg go (State.takeOrder_of_head (g := fun t => t.faultOrder v) alive free head rfl)

/-- What a fault order does that changes its volume (R10, R17). -/
theorem State.faultOrder_facts (v : Vol) (takes : s.storeTakes = true)
    (shut : ((s.vol v).data.state = .locked || (s.vol v).isOpen) = true) :
    let t := s.faultOrder v
    s.volumesReported t ∧ (∀ w, t.vol w = if w = v then (s.vol v).shut .fault else s.vol w) ∧
      t.guard.wait = .commits 1 .faulted ∧ t.awaits (.volume v { (s.vol v).data with state := .fault }) .guard ∧
      s.lockedDuring t v ∧ s.sameBut (([.pageVolumes, .commits] : List Part) ++ sectorEnding) t ∧
      ((s.vol v).isOpen = true → (s.faultVolume v).sameBut [.attn, .pageVolumes, .guardInbox, .commits, .storeRest] t) := by
  intro t
  let f := s.faultVolume v
  let m := s.faulted v
  have order : t = m.guardCommit [m.volRec v] 1 .faulted := if_pos shut
  have left : s.sameBut sectorEnding f := State.faultVolume_sameBut v
  have shown : f.sameBut [.attn, .pageVolumes] m := State.reportVolumes_sameBut
  have takes' : m.storeTakes = true := (shown.storeTakes.trans (State.faultVolume_storeKept v).fields.1).trans takes
  have commits : m.sameBut [.guardInbox, .commits, .storeRest] t := by
    rw [order]; exact State.guardCommit_sameBut_of_takes takes' _ _ _
  have vol (w : Vol) : m.vol w = if w = v then (s.vol v).shut .fault else s.vol w :=
    (shown.vol w).trans (State.faultVolume_vol v w)
  have record : m.volRec v = .volume v { (s.vol v).data with state := .fault } := by
    rw [State.volRec, vol, if_pos rfl, Volume.shut_persisted _ (by decide) (by decide)]
  have report : s.volumesReported m := State.volumesReported_reportVolumes (State.sameBut_agree left .pageVolumes)
    (State.sameBut_agree left .startUp) ((State.faultVolume_quietly v).2 _ (by decide))
  have during : s.lockedDuring m v := State.reportVolumes_lockedDuring (State.faultVolume_lockedDuring v)
  refine ⟨commits.volumesReported report, fun w => (commits.vol w).trans (vol w), ?_, ?_, commits.lockedDuring during, ?_,
    fun _ => State.sameBut_then shown commits⟩
  · rw [order]; exact (State.guardCommit_guard takes' _ _ _).2
  · rw [order, ← record]; exact State.guardCommit_awaits takes' _ _ _
  · exact State.sameBut_then (State.sameBut_then (rs := .pageVolumes :: sectorEnding) left shown) commits

/-! ### Erase end orders (R13) -/

/-- ERASE_END with its order at the head of a free guard's inbox. -/
theorem State.exec_eraseEnd {v : Vol} {x : EraseResult} {n : Nat} {rest : List GuardOrder} (alive : s.alive = true)
    (free : s.guardFree = true) (head : s.guard.inbox = .eraseEnd v x n :: rest) :
    exec .eraseEnd s = .next (s.popGuard.eraseEndOrder v x n).settle :=
  congrArg go (State.takeOrder_of_head (g := fun t => t.eraseEndOrder v x n) alive free head rfl)

/-- What an erase end order does to a volume that is ERASING. -/
theorem State.eraseEndOrder_facts (v : Vol) (x : EraseResult) (n : Nat) (takes : s.storeTakes = true)
    (erasing : (s.vol v).data.state = .erasing) :
    let t := s.eraseEndOrder v x n
    (∀ w, t.vol w = if w = v then { s.vol v with data := VolRec.ended (s.vol v).data x n } else s.vol w) ∧
      t.guard.wait = .commits 1 (.ended v) ∧ t.awaits (.volume v (VolRec.ended (s.vol v).data x n)) .guard ∧ s.volumesReported t ∧
      s.sameBut [.volumes, .guardInbox, .attn, .pageVolumes, .commits, .storeRest] t := by
  intro t
  let f := s.modVol v fun y => { y with data := VolRec.ended y.data x n }
  let m := f.reportVolumes
  have order : t = m.guardCommit [m.volRec v] 1 (.ended v) := if_pos erasing
  have changed : s.sameBut [.volumes] f := State.modVol_sameBut v _
  have shown : f.sameBut [.attn, .pageVolumes] m := State.reportVolumes_sameBut
  have takes' : m.storeTakes = true := (shown.storeTakes.trans changed.storeTakes).trans takes
  have commits : m.sameBut [.guardInbox, .commits, .storeRest] t := by
    rw [order]; exact State.guardCommit_sameBut_of_takes takes' _ _ _
  have vol (w : Vol) : m.vol w = if w = v then { s.vol v with data := VolRec.ended (s.vol v).data x n } else s.vol w := by
    rw [shown.vol, State.modVol_vol]
    simp only [eq_comm]
  have record : m.volRec v = .volume v (VolRec.ended (s.vol v).data x n) := by
    rw [State.volRec, vol, if_pos rfl]
    rfl
  have report : s.volumesReported m := State.volumesReported_reportVolumes rfl rfl rfl
  refine ⟨fun w => (commits.vol w).trans (vol w), ?_, ?_, commits.volumesReported report, ?_⟩
  · rw [order]; exact (State.guardCommit_guard takes' _ _ _).2
  · rw [order, ← record]; exact State.guardCommit_awaits takes' _ _ _
  · exact State.sameBut_then (State.sameBut_then (rs := [.volumes, .attn, .pageVolumes]) changed shown) commits

/-- The engine's answer to an erase end order sets no flag. -/
theorem State.volumeEnded_flags (v : Vol) :
    s.sameBut [.guardInbox, .eraseList, .eraseRest, .commits, .storeRest] (s.volumeEnded v) := by
  unfold State.volumeEnded
  split
  · split_ifs
    · exact State.sameBut_mono (State.removeEntry_sameBut v)
    · exact State.sameBut_refl
  · exact State.abortFrom_sameBut _ _ _ _
  · exact State.sameBut_refl

end Sys2Proof.Machine

open Sys2Proof Sys2Proof.Machine

/-- Settles O30: a fault order and an erase end order, each by whether its volume is in a state that the order changes. -/
theorem faultAndEraseEndOrders : Obligations.FaultAndEraseEndOrders := by
  refine ⟨fun s v rest alive free takes head => ?_, fun s v x n rest alive free takes head => ?_⟩
  · let p := s.popGuard
    let f := p.faultOrder v
    have popped : s.sameBut [.guardInbox] p := State.popGuard_sameBut
    have settled : f.sameBut showing f.settle := State.settle_sameBut
    refine ⟨f.settle, State.exec_faultOrder alive free head, ?_⟩
    split_ifs with shut
    · obtain ⟨report, vol, wait, awaited, during, frame, left⟩ := State.faultOrder_facts (s := p) v takes shut
      have during' : s.lockedDuring f v := State.lockedDuring_of during rfl rfl rfl
      refine ⟨⟨settled.volumesReported report, fun w => (settled.vol w).trans (vol w),
        (State.sameBut_agree settled .guardInbox).2.trans wait, settled.awaits awaited, settled.lockedDuring during',
        fun isOpen hv => ?_⟩, State.sameBut_then (State.sameBut_then (rs := [.pageVolumes, .commits] ++ sectorEnding)
          popped frame) settled⟩
      have after : (p.faultVolume v).sameBut (.attn :: .pageVolumes :: .guardInbox :: .commits :: .storeRest :: showing) f.settle :=
        State.sameBut_then (left isOpen) settled
      rw [State.faultVolume_of_open (s := p) isOpen] at after
      refine ⟨after.commandWithdrawn (State.shut_commandWithdrawn (s := p) hv _), fun head' waiting granted => ?_⟩
      obtain ⟨r, hr⟩ := Option.ne_none_iff_exists'.1 head'
      exact after.grantReturned (State.shut_grantReturned (s := p) hv hr waiting granted _)
    · have same : f = p := if_neg shut
      have quiet : s.sameBut (.guardInbox :: showing) f.settle := by
        rw [same]; exact State.sameBut_then popped State.settle_sameBut
      refine ⟨⟨State.sameBut_agree quiet .volumes, ?_, State.sameBut_agree quiet .attn⟩, State.sameBut_mono quiet⟩
      rw [(State.sameBut_agree settled .guardInbox).2, same]
      exact State.wait_of_free free
  · let p := s.popGuard
    let e := p.eraseEndOrder v x n
    have popped : s.sameBut [.guardInbox] p := State.popGuard_sameBut
    have settled : e.sameBut showing e.settle := State.settle_sameBut
    refine ⟨e.settle, State.exec_eraseEnd alive free head, ?_⟩
    by_cases erasing : (s.vol v).data.state = .erasing
    · obtain ⟨vol, wait, awaited, report, frame⟩ := State.eraseEndOrder_facts (s := p) v x n takes erasing
      rw [if_pos erasing]
      refine ⟨fun w hw => ((settled.vol w).trans (vol w)).trans (if_neg hw), ((settled.vol v).trans (vol v)).trans (if_pos rfl),
        (State.sameBut_agree settled .guardInbox).2.trans wait, settled.awaits awaited, settled.volumesReported report,
        State.sameBut_then (State.sameBut_then (rs := [.volumes, .guardInbox, .attn, .pageVolumes, .commits, .storeRest])
          popped frame) settled⟩
    · have same : e = p.volumeEnded v := if_neg erasing
      have ended : p.sameBut [.guardInbox, .eraseList, .eraseRest, .commits, .storeRest] e := by
        rw [same]; exact State.volumeEnded_flags v
      have quiet : s.sameBut ([.guardInbox, .eraseList, .eraseRest, .commits, .storeRest] ++ showing) e.settle :=
        State.sameBut_then (State.sameBut_then (rs := [.guardInbox, .eraseList, .eraseRest, .commits, .storeRest])
          popped ended) settled
      rw [if_neg erasing]
      exact ⟨fun w _ => quiet.vol w, quiet.vol v, quiet.attending _, State.sameBut_mono quiet⟩
end

section
namespace Sys2Proof.Machine
set_option Elab.async false
variable {s t u : State} {ps : List Part}

/-! ### The walk of an acceptance sets no flag but DONE (R111) -/

theorem State.acceptDone_quietly (a : Acceptance) : s.quietly (s.acceptDone a) := by
  unfold State.acceptDone
  extract_lets -lift t u
  have ht : s.quietly t := (State.setJob_sameBut _).quietly
  have hu : t.quietly u := by
    unfold u
    split
    · exact State.complete_quietly _ _ _ _
    · exact (State.tellLockout_sameBut _).quietly
    all_goals exact State.quietly_refl
  exact (ht.trans hu).trans State.engineRun_sameBut.quietly

theorem State.acceptFrom_quietly (a : Acceptance) (l : List Vol) : s.quietly (s.acceptFrom a l) := by
  induction l generalizing s a with
  | nil => exact State.acceptDone_quietly a
  | cons v l ih =>
    unfold State.acceptFrom
    split
    · exact ih a
    · exact (((State.tellGuard_sameBut _).quietly).trans (State.tellCred_sameBut _).quietly).trans
        (State.setJob_sameBut _).quietly
    · extract_lets -lift m b
      split_ifs
      · exact ih _
      · exact (((State.relist_sameBut _).quietly).trans (State.setJob_sameBut _).quietly).trans
          (State.queueRec_sameBut _ _).quietly

theorem State.volumeRetired_quietly (v : Vol) (b : Bool) : s.quietly (s.volumeRetired v b) := by
  unfold State.volumeRetired
  split
  · split
    · exact State.acceptFrom_quietly _ _
    · exact State.quietly_refl
  · exact State.quietly_refl

/-! ### The list changed (R109, R114) -/

/-- The list is the one it is changed to. -/
theorem State.relist_list (l : List EraseEntry) : (s.relist l).erase.list = l := by
  unfold State.relist
  extract_lets -lift t
  split
  · rfl
  · rename_i h _
    have withdrawn : t.sameBut granting t.withdrawEngine := State.withdrawEngine_sameBut
    split_ifs
    · exact State.sameBut_agree withdrawn .eraseList
    · have kept : t.withdrawEngine.sameBut [.eraseRest, .commits, .storeRest]
          ((t.withdrawEngine.modErase fun e => { e with pace := false }).checkpointOf h) :=
        State.sameBut_then (State.setPace_sameBut _) (State.checkpointOf_sameBut _)
      exact State.agree_trans (p := .eraseList) (State.sameBut_agree withdrawn .eraseList) (State.sameBut_agree kept .eraseList)

/-- A withdrawal of the engine that holds no grant leaves what is in flight. -/
theorem State.withdrawEngine_inFlight (h : s.link.granted ≠ some .engine) :
    s.withdrawEngine.link.inFlight = s.link.inFlight := by
  unfold State.withdrawEngine
  split_ifs
  · have : (s.modLink fun l => { l with engineAsks := false, losses := 0 }).handBack .engine =
        s.modLink fun l => { l with engineAsks := false, losses := 0 } := if_neg h
    rw [this]; rfl
  · rfl

theorem State.relist_inFlight (l : List EraseEntry) (h : s.link.granted ≠ some .engine) :
    (s.relist l).link.inFlight = s.link.inFlight := by
  unfold State.relist
  extract_lets -lift t
  split
  · rfl
  · rename_i e _
    have withdrawn : t.withdrawEngine.link.inFlight = s.link.inFlight := State.withdrawEngine_inFlight (s := t) h
    split_ifs
    · exact withdrawn
    · have kept : t.withdrawEngine.sameBut [.eraseRest, .commits, .storeRest]
          ((t.withdrawEngine.modErase fun x => { x with pace := false }).checkpointOf e) :=
        State.sameBut_then (State.setPace_sameBut _) (State.checkpointOf_sameBut _)
      have link : _ = t.withdrawEngine.link := State.sameBut_agree kept .link
      rw [link]; exact withdrawn

/-- The entry of an accepted volume stands in the list, and the guard waits for the record of it (R112 step 4). -/
theorem State.enterVolume_of_accept {a : Acceptance} (job : s.erase.job = .accept a) (v : Vol) :
    (s.enterVolume v).erase.list = placeEntry (s.newEntry v a.plan a.wipe) s.erase.list ∧
      (s.enterVolume v).awaits (.eraseList (s.enterVolume v).erase.list) .guard := by
  let r := s.relist (placeEntry (s.newEntry v a.plan a.wipe) s.erase.list)
  have entered : s.enterVolume v = r.queueRec r.listRec [.guard] := by simp only [State.enterVolume, job, r]
  have kept : (r.queueRec r.listRec [.guard]).erase.list = r.erase.list :=
    State.sameBut_agree (State.queueRec_sameBut _ _) .eraseList
  rw [entered, kept]
  exact ⟨State.relist_list _, State.queueRec_awaits r.listRec (by simp)⟩

/-- An engine that holds no grant leaves what is in flight as it enters a volume. -/
theorem State.enterVolume_inFlight (v : Vol) (h : s.link.granted ≠ some .engine) :
    (s.enterVolume v).link.inFlight = s.link.inFlight := by
  unfold State.enterVolume
  split
  · rename_i a _
    let r := s.relist (placeEntry (s.newEntry v a.plan a.wipe) s.erase.list)
    have link : (r.queueRec r.listRec [.guard]).link = r.link := State.sameBut_agree (State.queueRec_sameBut _ _) .link
    show (r.queueRec r.listRec [.guard]).link.inFlight = _
    rw [link]
    exact State.relist_inFlight _ h
  · rfl

/-- A volume shut and left with a command in flight leaves the link to whom it is granted. -/
theorem State.shut_granted {v : Vol} (hv : s.sector.vol = v) (flying : s.sector.phase = .inFlight)
    (none : s.sector.ended = none) {g : Volume → Volume} :
    ((s.modVol v g).volumeLeft v).link.granted = s.link.granted := by
  have open_ : ¬(s.modVol v g).sector.ended.isSome = true := by
    show ¬s.sector.ended.isSome = true
    simp [none]
  rw [State.volumeLeft_of_inFlight (s := s.modVol v g) hv flying, if_neg open_]
  rfl

/-! ### Erase acceptance orders (R12) -/

/-- What is said of the active request for a volume that is locked (R17). -/
theorem State.lockVolume_lockedDuring (v : Vol) : s.lockedDuring (s.lockVolume v) v := by
  unfold State.lockVolume
  by_cases h : (s.vol v).isOpen = true
  · rw [if_pos h]; exact State.shut_lockedDuring v _
  · exact fun _ isOpen => absurd isOpen h

/-- A volume that is open is shut and left by a lock. -/
theorem State.lockVolume_of_open {v : Vol} (h : (s.vol v).isOpen = true) :
    s.lockVolume v = (s.modVol v fun x => x.shut .locked).volumeLeft v := if_pos h

/-- The volume locked and set to ERASING, reported, the engine not yet told. -/
def State.erasing (s : State) (v : Vol) : State := ((s.lockVolume v).modVol v fun x => x.shut .erasing).reportVolumes

/-- What the guard has done by then. -/
theorem State.erasing_facts (v : Vol) :
    let m := s.erasing v
    (∀ w, m.vol w = if w = v then (s.vol v).shut .erasing else s.vol w) ∧ s.volumesReported m ∧ s.lockedDuring m v ∧
      s.storeKept m ∧ s.sameBut (.pageVolumes :: sectorEnding) m ∧ (s.lockVolume v).sameBut [.volumes, .attn, .pageVolumes] m := by
  intro m
  let l := s.lockVolume v
  let c := l.modVol v fun x => x.shut .erasing
  have locked : s.sameBut sectorEnding l := State.lockVolume_sameBut v
  have changed : l.sameBut [.volumes] c := State.modVol_sameBut v _
  have shown : c.sameBut [.attn, .pageVolumes] m := State.reportVolumes_sameBut
  have before : s.sameBut sectorEnding c := State.sameBut_then locked changed
  refine ⟨fun w => ?_, State.volumesReported_reportVolumes (State.sameBut_agree before .pageVolumes)
    (State.sameBut_agree before .startUp) ((State.lockVolume_quietly v).2 _ (by decide)),
    State.reportVolumes_lockedDuring (changed.lockedDuring (State.lockVolume_lockedDuring v)),
    (State.lockVolume_storeKept v).trans (State.storeKept_of_store (shown.store.trans changed.store)),
    State.sameBut_then before shown, State.sameBut_then changed shown⟩
  rw [shown.vol, State.modVol_vol, State.lockVolume_vol, State.lockVolume_vol]
  rcases eq_or_ne w v with rfl | h
  · rw [if_pos rfl, if_pos rfl]
    split_ifs <;> rfl
  · rw [if_neg h.symm, if_neg h, if_neg (by simp [h])]

/-- What an erase acceptance does that sets its volume to ERASING (R12, R112, R17). -/
theorem State.startErasing_facts (v : Vol) :
    let t := s.startErasing v
    (∀ w, t.vol w = if w = v then (s.vol v).shut .erasing else s.vol w) ∧ t.guard.wait = .commits 2 (.accepted v) ∧
      t.awaits (.volume v { (s.vol v).data with state := .erasing }) .guard ∧ s.volumesReported t ∧ s.lockedDuring t v ∧
      ((s.vol v).isOpen = true → s.sector.vol = v → s.link.granted ≠ some .engine → s.commandWithdrawn t) ∧
      (∀ a, s.erase.job = .accept a → t.erase.list = placeEntry (s.newEntry v a.plan a.wipe) s.erase.list ∧
        t.awaits (.eraseList t.erase.list) .guard) ∧
      s.sameBut (([.pageVolumes, .commits] : List Part) ++ sectorEnding ++ accepting) t := by
  intro t
  let m := s.erasing v
  let e := m.enterVolume v
  let q := e.queueRec (e.volRec v) [.guard]
  have entered : m.sameBut ([.eraseList, .eraseRest, .commits, .storeRest] ++ granting) e := State.enterVolume_sameBut v
  have queued : e.sameBut [.commits, .storeRest] q := State.queueRec_sameBut _ _
  have waits : q.sameBut [.guardInbox] t := State.guardWaits_sameBut _
  have after : m.sameBut (.guardInbox :: ([.eraseList, .eraseRest, .commits, .storeRest] ++ granting)) t :=
    State.sameBut_then (State.sameBut_then (rs := [.eraseList, .eraseRest, .commits, .storeRest] ++ granting) entered queued) waits
  obtain ⟨vol, report, during, store, frame, fromLock⟩ := State.erasing_facts (s := s) v
  have record : e.volRec v = .volume v { (s.vol v).data with state := .erasing } := by
    rw [State.volRec, entered.vol, vol, if_pos rfl, Volume.shut_persisted _ (by decide) (by decide)]
  refine ⟨fun w => (after.vol w).trans (vol w), rfl, ?_, after.volumesReported report, after.lockedDuring during, ?_, ?_,
    State.sameBut_then frame after⟩
  · rw [← record]
    exact waits.awaits (State.queueRec_awaits _ (by simp))
  · intro isOpen hv granted flying none
    rw [State.lockVolume_of_open isOpen] at fromLock
    have link : m.link = _ := State.sameBut_agree fromLock .link
    have granted' : m.link.granted ≠ some .engine := by
      rw [link, State.shut_granted hv flying none]; exact granted
    have last : t.link = e.link := State.sameBut_agree (State.sameBut_then (rs := [.guardInbox, .commits, .storeRest])
      queued waits) .link
    rw [last, State.enterVolume_inFlight v granted', link]
    exact State.shut_commandWithdrawn hv _ flying none
  · intro a job
    have rest : ({ m.erase with list := [], inbox := [] } : Erase) = { s.erase with list := [], inbox := [] } :=
      State.sameBut_agree frame .eraseRest
    have list : m.erase.list = s.erase.list := State.sameBut_agree frame .eraseList
    have policy : m.store.policy = s.store.policy := store.fields.2.1
    have entry : m.newEntry v a.plan a.wipe = s.newEntry v a.plan a.wipe := by simp only [State.newEntry, policy]
    obtain ⟨placed, awaited⟩ := State.enterVolume_of_accept (s := m) ((congrArg Erase.job rest).trans job) v
    have last : t.erase.list = e.erase.list := State.sameBut_agree (State.sameBut_then (rs := [.guardInbox, .commits, .storeRest])
      queued waits) .eraseList
    rw [last]
    refine ⟨by rw [placed, list, entry], waits.awaits (State.awaits_queueRec awaited (by simp [Rec.id, State.volRec]) _)⟩

/-- What an erase acceptance does that retires its volume (R12). -/
theorem State.retire_facts (v : Vol) (takes : s.storeTakes = true) :
    let t := s.retire v
    (∀ w, t.vol w = if w = v then (s.vol v).gone else s.vol w) ∧ t.guard.wait = .commits 1 (.retired v) ∧
      t.awaits (.volume v VolRec.absent) .guard ∧ s.volumesReported t ∧
      s.sameBut [.volumes, .attn, .pageVolumes, .guardInbox, .commits, .storeRest] t := by
  intro t
  let c := s.modVol v Volume.gone
  let m := c.reportVolumes
  have changed : s.sameBut [.volumes] c := State.modVol_sameBut v _
  have shown : c.sameBut [.attn, .pageVolumes] m := State.reportVolumes_sameBut
  have takes' : m.storeTakes = true := (shown.storeTakes.trans changed.storeTakes).trans takes
  have commits : m.sameBut [.guardInbox, .commits, .storeRest] t := State.guardCommit_sameBut_of_takes takes' _ _ _
  have vol (w : Vol) : m.vol w = if w = v then (s.vol v).gone else s.vol w := by
    rw [shown.vol, State.modVol_vol]
    simp only [eq_comm]
  have record : m.volRec v = .volume v VolRec.absent := by
    rw [State.volRec, vol, if_pos rfl]
    rfl
  refine ⟨fun w => (commits.vol w).trans (vol w), (State.guardCommit_guard takes' _ _ _).2, ?_,
    commits.volumesReported (State.volumesReported_reportVolumes rfl rfl rfl),
    State.sameBut_then (State.sameBut_then (rs := [.volumes, .attn, .pageVolumes]) changed shown) commits⟩
  rw [← record]
  exact State.guardCommit_awaits takes' _ _ _

/-- ERASE_ACCEPTANCE with its order at the head of a free guard's inbox. -/
theorem State.exec_eraseAcceptance {v : Vol} {rest : List GuardOrder} (alive : s.alive = true) (free : s.guardFree = true)
    (head : s.guard.inbox = .eraseAccept v :: rest) :
    exec .eraseAcceptance s = .next (s.popGuard.eraseAcceptance v).settle :=
  congrArg go (State.takeOrder_of_head (g := fun t => t.eraseAcceptance v) alive free head rfl)

/-- The three things that an erase acceptance does, by the state of its volume. -/
theorem State.eraseAcceptance_eq (v : Vol) (awake : s.device ≠ .halted) :
    s.eraseAcceptance v =
      if (s.vol v).data.state = .absent ∨ (s.vol v).data.state = .erasing then s.volumeRetired v false
      else if (s.vol v).data.state = .fault ∧ s.extentClear v = false then s.retire v
      else s.startErasing v := by
  rw [State.eraseAcceptance, if_neg awake]
  cases (s.vol v).data.state <;> simp
  cases s.extentClear v <;> rfl

end Sys2Proof.Machine

open Sys2Proof Sys2Proof.Machine

/-- Settles O31: by the state of the volume, and for a FAULT one by whether its extent is clear. -/
theorem eraseAcceptances : Obligations.EraseAcceptances := by
  intro s v rest alive free takes awake head st
  let p := s.popGuard
  let e := p.eraseAcceptance v
  have popped : s.sameBut [.guardInbox] p := State.popGuard_sameBut
  have settled : e.sameBut showing e.settle := State.settle_sameBut
  have acts : e = _ := State.eraseAcceptance_eq (s := p) v awake
  refine ⟨e.settle, State.exec_eraseAcceptance alive free head, ?_⟩
  by_cases passed : st = .absent ∨ st = .erasing
  · have same : e = p.volumeRetired v false := acts.trans (if_pos passed)
    have told : p.sameBut accepting e := by rw [same]; exact State.volumeRetired_sameBut v false
    have flag : e.attending .volume = p.attending .volume := by
      rw [same]; exact (State.volumeRetired_quietly v false).2 _ (by decide)
    have quiet : s.sameBut (accepting ++ showing) e.settle :=
      State.sameBut_then (State.sameBut_then (rs := accepting) popped told) settled
    refine ⟨fun w _ => quiet.vol w, ?_, State.sameBut_mono quiet⟩
    rw [if_pos passed]
    exact ⟨quiet.vol v, (settled.attending _).trans flag⟩
  replace acts := acts.trans (if_neg passed)
  by_cases lost : st = .fault ∧ s.extentClear v = false
  · have same : e = p.retire v := acts.trans (if_pos lost)
    obtain ⟨vol, wait, awaited, report, frame⟩ := State.retire_facts (s := p) v takes
    rw [← same] at vol wait awaited report frame
    refine ⟨fun w hw => ((settled.vol w).trans (vol w)).trans (if_neg hw), ?_, State.sameBut_then (State.sameBut_then
      (rs := [.volumes, .attn, .pageVolumes, .guardInbox, .commits, .storeRest]) popped frame) settled⟩
    rw [if_neg passed, if_pos lost]
    exact ⟨((settled.vol v).trans (vol v)).trans (if_pos rfl), (State.sameBut_agree settled .guardInbox).2.trans wait,
      settled.awaits awaited, settled.volumesReported report⟩
  · have same : e = p.startErasing v := acts.trans (if_neg lost)
    obtain ⟨vol, wait, awaited, report, during, withdrawn, entry, frame⟩ := State.startErasing_facts (s := p) v
    rw [← same] at vol wait awaited report during withdrawn entry frame
    refine ⟨fun w hw => ((settled.vol w).trans (vol w)).trans (if_neg hw), ?_, State.sameBut_then (State.sameBut_then
      (rs := [.pageVolumes, .commits] ++ sectorEnding ++ accepting) popped frame) settled⟩
    rw [if_neg passed, if_neg lost]
    refine ⟨((settled.vol v).trans (vol v)).trans (if_pos rfl), (State.sameBut_agree settled .guardInbox).2.trans wait,
      settled.awaits awaited, settled.volumesReported report,
      settled.lockedDuring (State.lockedDuring_of during rfl rfl rfl),
      fun isOpen hv granted => settled.commandWithdrawn (withdrawn isOpen hv granted), fun a job => ?_⟩
    have list : e.settle.erase.list = e.erase.list := State.sameBut_agree settled .eraseList
    rw [list]
    exact ⟨(entry a job).1, settled.awaits (entry a job).2⟩
end

section
namespace Sys2Proof.Machine
set_option Elab.async false
variable {s t u : State} {ps : List Part}

/-! ### The sector path asks for the link (R88, R89, R102) -/

/-- What a boundary has given rests on the link. -/
theorem State.arbitrated_congr {list : List EraseEntry} {n : Nat} {sec eng : Bool} (h : u.arbitrated list n sec eng)
    (link : t.link = u.link) : t.arbitrated list n sec eng := by
  simpa only [State.arbitrated, link] using h

/-- What a request of the sector path has come to rests on the link. -/
theorem State.sectorAsked_congr (h : s.sectorAsked u) (link : t.link = u.link) : s.sectorAsked t := by
  unfold State.sectorAsked at h ⊢
  split_ifs at h ⊢
  · exact State.arbitrated_congr h link
  · rw [link, h]

/-- In FAULT the request ends LINK_FAULT. -/
theorem State.askSector_of_fault (h : s.link.state = .fault) : s.askSector = s.endSector .linkFault := if_pos h

/-- A link that serves nobody answers with the warning or the halt. -/
theorem State.askSector_of_unserved (h : s.link.state ≠ .fault) (serves : s.linkServes = false) :
    s.askSector = s.endSector s.linkRefusal := by
  rw [State.askSector, if_neg h, if_pos (by simp [serves])]

/-- A link that serves holds the request, or decides on it at once. -/
theorem State.askSector_of_served (h : s.link.state ≠ .fault) (serves : s.linkServes = true) :
    s.sectorAsked s.askSector ∧ s.askSector.sector = { s.sector with phase := .waitingGrant } ∧
      s.sameBut (.sector :: granting) s.askSector := by
  let w := s.modSector fun p => { p with phase := .waitingGrant }
  let a := w.modLink fun l => { l with sectorAsks := true }
  have asks : s.askSector = a.boundary := by
    rw [State.askSector, if_neg h, if_neg (by simp [serves])]
  have decided : a.sameBut granting a.boundary := State.boundary_sameBut
  rw [asks]
  refine ⟨?_, State.sameBut_agree decided .sector, State.sameBut_then (State.sameBut_then (rs := [.sector, .link])
    (State.modSector_sameBut _) (State.modLink_sameBut _)) decided⟩
  unfold State.sectorAsked
  split_ifs with free
  · exact State.boundary_arbitrated (s := a) serves free
  · rw [State.boundary_of_held (s := a) (by
      show (s.linkServes && s.link.open_) = false
      simp [free])]
    rfl

/-! ### The guard decision (R15) -/

/-- The decision rests on the table, the device's state and the critical flag. -/
theorem State.guardDecision_congr (device : t.device = s.device) (guard : t.guard = s.guard) (r : Request) :
    t.guardDecision r = s.guardDecision r := by
  simp only [State.guardDecision, State.vol, device, guard]
  rfl

/-- No check of the decision gives FLASH_ERROR. -/
theorem State.guardDecision_ne_flashError (r : Request) : s.guardDecision r ≠ some .flashError := by
  rw [guardDecisionTable s r]
  cases volOfIndex (r.byte 4).toNat <;> dsimp only <;> split_ifs <;> simp

/-- A request that passes every check is for a volume that is open. -/
theorem State.open_of_guardDecision {r : Request} (h : s.guardDecision r = none) :
    ∃ v, volOfIndex (r.byte 4).toNat = some v ∧ (s.vol v).isOpen = true := by
  rw [guardDecisionTable s r] at h
  cases hv : volOfIndex (r.byte 4).toNat with
  | none =>
    simp only [hv] at h
    split_ifs at h
  | some v =>
    refine ⟨v, rfl, ?_⟩
    simp only [hv] at h
    cases hs : (s.vol v).data.state with
    | opened | openRo => simp [Volume.isOpen, hs]
    | absent | fault | erasing | blank | locked =>
      simp [hs] at h
      split_ifs at h

/-- The decision on a request for the volume that is being defined (R21). -/
theorem State.guardDecision_of_defines {r : Request} (h : s.definesFor r = true) (awake : s.device ≠ .halted) :
    s.guardDecision r = some (if s.guard.critical then .hot else .absent) := by
  have absent : ∃ v, volOfIndex (r.byte 4).toNat = some v ∧ (s.vol v).data.state = .absent := by
    unfold State.definesFor at h
    split at h
    · simp at h; exact ⟨_, h⟩
    · simp at h; exact ⟨_, h⟩
    · cases h
  obtain ⟨v, hv, hs⟩ := absent
  unfold State.guardDecision
  rw [if_neg awake]
  simp only [hv, hs]
  split_ifs <;> rfl

/-! ### A sector request begins (R88) -/

/-- A READ_SECTORS or WRITE_SECTORS that is to be begun is decided, or waits for its decision at the guard. -/
theorem State.exec_sectors {r : Request} {write : Bool} (alive : s.alive = true) (head : s.sectorHead = some r)
    (kind : r.kind = (if write then .writeSectors else .readSectors)) (idle : s.sector.phase = .idle)
    (unwarned : s.sector.warned = false) (awake : s.device ≠ .halted) (started : s.device ≠ .starting) :
    exec (if write then .writeSectors else .readSectors) s = .next
      (if s.guardReady || s.definesFor r then ((s.enterDeciding r).applyDecision r).settle
       else (s.enterDeciding r).tellGuard .sectorDecision) := by
  have decides : s.decideSector r =
      if s.guardReady || s.definesFor r then ((s.enterDeciding r).applyDecision r).settle
      else (s.enterDeciding r).tellGuard .sectorDecision := by
    simp only [State.decideSector, idle, unwarned, awake, started, decide_false, Bool.or_self]
    rfl
  have begins (k : Kind) (h : r.kind = k) : s.beginSector k = s.decideSector r := by
    simp [State.beginSector, alive, head, h]
  rw [← decides]
  cases write with
  | false => exact congrArg go (begins .readSectors kind)
  | true => exact congrArg go (begins .writeSectors kind)

/-- The path as it stands while a request is decided. -/
theorem State.enterDeciding_sector {r : Request} {write : Bool}
    (kind : r.kind = (if write then .writeSectors else .readSectors)) :
    (s.enterDeciding r).sector = { s.sector with phase := .deciding, slot := r.slot, write := write } := by
  cases write <;> simp [State.enterDeciding, kind]

/-- The path of a request that has become active. -/
theorem State.activate_sector (r : Request) (v : Vol) :
    (s.activate r v).sector = { s.sector with
      phase := .waitingGrant, vol := v, absFirst := (s.vol v).data.first + r.field 8 4, relFirst := r.field 8 4
      count := r.field 6 2, firstBuf := (r.byte 5).toNat % 16, k := 0, done := 0, errorSector := none, ended := none } := rfl

theorem State.reloadIdle_sector (v : Vol) : (s.reloadIdle v).sector = s.sector := rfl

/-- A reload leaves the record of its volume. -/
theorem Volume.reloaded_data (x : Volume) : x.reloaded.data = x.data := by
  unfold Volume.reloaded
  split_ifs <;> rfl

/-- A request that the guard refuses, nothing of it done. -/
theorem State.endSector_of_fresh {r : Request} {st : Status} (ok : s.memOk = true) (head : s.sectorHead = some r)
    (fresh : s.sector.done = 0) (h : st ≠ .flashError) :
    (s.endSector st).sector.phase = .idle ∧ s.completed (s.endSector st) r st 0 [] := by
  have done := State.endSector_completed ok head st
  have zeroed : (s.zeroed st).exch.mem = s.exch.mem := by
    unfold State.zeroed
    rw [fresh]
    split_ifs <;> rfl
  rw [SectorPath.results_of_ne h, fresh] at done
  refine ⟨?_, State.completed_of_mem done zeroed⟩
  rw [State.endSector_sector head]

/-- A request that the guard refuses ends with its status, its volume's timer reloaded if that is open (R9, R15). -/
theorem State.decision_refused {r : Request} {st : Status} (ok : s.memOk = true) (head : s.sectorHead = some r)
    (fresh : s.sector.done = 0) (refused : s.guardDecision r = some st) :
    let t := ((s.enterDeciding r).applyDecision r).settle
    t.sector.phase = .idle ∧ s.completed t r st 0 [] ∧
      (∀ v, volOfIndex (r.byte 4).toNat = some v → (∀ w, w ≠ v → t.vol w = s.vol w) ∧
        t.vol v = if (s.vol v).isOpen then { s.vol v with idle := idlePeriod (s.vol v).data.idleCode } else s.vol v) ∧
      s.sameBut (sectorEnding ++ showing) t := by
  let d := s.enterDeciding r
  have entered : s.sameBut [.sector] d := State.modSector_sameBut _
  have decision : d.guardDecision r = s.guardDecision r := State.guardDecision_congr rfl rfl r
  have ended : d.applyDecision r = d.endSector st := by simp only [State.applyDecision, decision, refused]
  have settled : (d.endSector st).sameBut showing (d.endSector st).settle := State.settle_sameBut
  obtain ⟨free, finished⟩ := State.endSector_of_fresh (s := d) ok head fresh
    (fun e => State.guardDecision_ne_flashError r (refused.trans (congrArg some e)))
  have idle : (d.endSector st).settle.sector = (d.endSector st).sector := State.sameBut_agree settled .sector
  rw [ended]
  refine ⟨(congrArg SectorPath.phase idle).trans free, settled.completed (State.completed_of_mem finished rfl), fun v volume => ?_,
    State.sameBut_then (State.sameBut_then (rs := sectorEnding) entered (State.endSector_sameBut st)) settled⟩
  have ends : d.endedVol = some v := by
    have head' : d.sectorHead = some r := head
    have deciding : d.sector.phase = .deciding := rfl
    simp [State.endedVol, head', deciding, volume]
  have vol (w : Vol) : (d.endSector st).settle.vol w = if v = w then (s.vol w).reloaded else s.vol w := by
    rw [settled.vol, State.endSector_vol, ends]
    simp only [Option.some.injEq]
    rfl
  exact ⟨fun w hw => (vol w).trans (if_neg hw.symm), (vol v).trans (if_pos rfl)⟩

/-- The path's request as it goes to ask for the link: active, its volume's timer reloaded. -/
def State.decided (s : State) (r : Request) (v : Vol) : State := ((s.enterDeciding r).reloadIdle v).activate r v

/-- A request that the guard passes asks for the link. -/
theorem State.decision_passed {r : Request} {v : Vol} (passed : s.guardDecision r = none)
    (volume : volOfIndex (r.byte 4).toNat = some v) :
    (s.enterDeciding r).applyDecision r = (s.decided r v).askSector := by
  have decision : (s.enterDeciding r).guardDecision r = s.guardDecision r := State.guardDecision_congr rfl rfl r
  simp only [State.applyDecision, decision, passed, volume]
  rfl

theorem State.decided_sameBut (r : Request) (v : Vol) : s.sameBut [.sector, .volumes] (s.decided r v) := by
  have entered : s.sameBut [.sector] (s.enterDeciding r) := State.modSector_sameBut _
  exact State.sameBut_then entered
    (State.sameBut_then (rs := [.sector, .volumes]) (State.reloadIdle_sameBut v) (State.activate_sameBut r v))

/-- A request that the guard passes, at a link in FAULT or under a supply warning (R102). -/
theorem State.decision_closed {r : Request} (ok : s.memOk = true) (head : s.sectorHead = some r)
    (passed : s.guardDecision r = none) (closed : s.link.state = .fault ∨ s.link.warned = true) :
    let t := ((s.enterDeciding r).applyDecision r).settle
    t.sector.phase = .idle ∧ s.completed t r (if s.link.state = .fault then .linkFault else .power) 0 [] ∧
      s.sameBut (sectorEnding ++ showing) t := by
  obtain ⟨v, volume, -⟩ := State.open_of_guardDecision passed
  let a := s.decided r v
  have active : s.sameBut [.sector, .volumes] a := State.decided_sameBut r v
  have ends : a.askSector = a.endSector (if s.link.state = .fault then .linkFault else .power) := by
    by_cases fault : s.link.state = .fault
    · rw [if_pos fault]; exact State.askSector_of_fault (s := a) fault
    · have warned : s.link.warned = true := closed.resolve_left fault
      have refusal : a.linkRefusal = .power := if_pos warned
      rw [if_neg fault, ← refusal]
      exact State.askSector_of_unserved (s := a) fault (by
        show (!s.link.warned && _) = false
        rw [warned]; rfl)
  rw [State.decision_passed passed volume, ends]
  generalize hst : (if s.link.state = .fault then Status.linkFault else .power) = st
  have other : st ≠ .flashError := by rw [← hst]; split_ifs <;> simp
  have settled : (a.endSector st).sameBut showing (a.endSector st).settle := State.settle_sameBut
  obtain ⟨free, finished⟩ := State.endSector_of_fresh (s := a) ok head rfl other
  have idle : (a.endSector st).settle.sector = (a.endSector st).sector := State.sameBut_agree settled .sector
  exact ⟨(congrArg SectorPath.phase idle).trans free, settled.completed (State.completed_of_mem finished rfl),
    State.sameBut_then (State.sameBut_then (rs := sectorEnding) active (State.endSector_sameBut st)) settled⟩

/-- A request that the guard passes, at a link that serves (R88, R102). -/
theorem State.decision_served {r : Request} {v : Vol} {write : Bool}
    (kind : r.kind = (if write then .writeSectors else .readSectors)) (awake : s.device ≠ .halted)
    (passed : s.guardDecision r = none) (volume : volOfIndex (r.byte 4).toNat = some v) (sound : s.link.state ≠ .fault)
    (served : s.link.warned = false) :
    let t := ((s.enterDeciding r).applyDecision r).settle
    t.sector = { s.sector with
      phase := .waitingGrant, slot := r.slot, write := write, vol := v
      absFirst := (s.vol v).data.first + r.field 8 4, relFirst := r.field 8 4, count := r.field 6 2
      firstBuf := (r.byte 5).toNat % 16, k := 0, done := 0, errorSector := none, ended := none } ∧
      (∀ w, w ≠ v → t.vol w = s.vol w) ∧ t.vol v = { s.vol v with idle := idlePeriod (s.vol v).data.idleCode } ∧
      s.sectorAsked t ∧ s.sameBut (([.sector, .volumes] : List Part) ++ granting ++ showing) t := by
  obtain ⟨x, volume', isOpen⟩ := State.open_of_guardDecision passed
  obtain rfl : v = x := Option.some.inj (volume.symm.trans volume')
  let d := s.enterDeciding r
  let a := s.decided r v
  have serves : a.linkServes = true := by
    show (!s.link.warned && decide (s.device ≠ .halted)) = true
    simp [served, awake]
  obtain ⟨asked, path, frame⟩ := State.askSector_of_served (s := a) sound serves
  rw [State.decision_passed passed volume]
  have settled : a.askSector.sameBut showing a.askSector.settle := State.settle_sameBut
  have vol (w : Vol) : a.askSector.settle.vol w = if v = w then (s.vol w).reloaded else s.vol w := by
    rw [settled.vol, frame.vol]
    show ((d.reloadIdle v).activate r v).vol w = _
    rw [State.sameBut.vol (State.activate_sameBut r v), State.reloadIdle_vol]
    rfl
  refine ⟨?_, fun w hw => (vol w).trans (if_neg hw.symm), ?_, State.sectorAsked_congr asked
    (State.sameBut_agree settled .link), State.sameBut_then (State.sameBut_then (rs := [.sector, .volumes] ++ granting)
      (State.decided_sameBut r v) frame) settled⟩
  · have last : a.askSector.settle.sector = a.askSector.sector := State.sameBut_agree settled .sector
    have first : ((d.reloadIdle v).vol v).data.first = (s.vol v).data.first := by
      rw [State.reloadIdle_vol, if_pos rfl, Volume.reloaded_data]; rfl
    rw [last, path]
    show ({ ((d.reloadIdle v).activate r v).sector with phase := .waitingGrant } : SectorPath) = _
    rw [State.activate_sector, first, State.reloadIdle_sector, State.enterDeciding_sector kind]
  · rw [vol, if_pos rfl, Volume.reloaded, if_pos isOpen]

end Sys2Proof.Machine

open Sys2Proof Sys2Proof.Machine

/-- Settles O37: by the guard's answer, and for a request that passes by the state of the link. -/
theorem sectorRequestsBegin : Obligations.SectorRequestsBegin := by
  intro s r write alive ok head kind idle fresh unwarned awake started
  have taken (h : s.guardReady = true ∨ s.definesFor r = true) :
      (if s.guardReady || s.definesFor r then ((s.enterDeciding r).applyDecision r).settle
        else (s.enterDeciding r).tellGuard .sectorDecision) = ((s.enterDeciding r).applyDecision r).settle :=
    if_pos (by simpa using h)
  refine ⟨_, State.exec_sectors alive head kind idle unwarned awake started, fun busy other => ?_,
    fun defines => State.guardDecision_of_defines defines awake, fun st now refused => ?_, fun ready passed closed => ?_,
    fun v ready passed volume sound served => ?_⟩
  · rw [if_neg (by simp [busy, other])]
    have entered : s.sameBut [.sector] (s.enterDeciding r) := State.modSector_sameBut _
    exact ⟨State.enterDeciding_sector kind, rfl, State.sameBut_then entered (State.tellGuard_sameBut _)⟩
  · rw [taken now]
    exact State.decision_refused ok head fresh refused
  · rw [taken (.inl ready)]
    exact State.decision_closed ok head passed closed
  · rw [taken (.inl ready)]
    exact State.decision_served kind awake passed volume sound served
end

section
namespace Sys2Proof.Machine
set_option Elab.async false
variable {s t u : State} {ps : List Part}

/-! ### A tick of the 1 ms timebase (R65, R79, R84, R97, R100, R141, R163) -/

/-- The state of a tick before the second is counted: the scan, and the timers. -/
def State.counted (s : State) : State :=
  (if s.keypad.scanning then s.keyScan s.keypad.contacts else { s with ms := s.ms + 1 }).countMs

/-- The start of a second. -/
def State.newSecond (s : State) : State := { s with msOfSecond := 0 }

/-- A tick within a second. -/
theorem State.tick_of_ms (alive : s.alive = true) (h : s.counted.msOfSecond + 1 < 1000) :
    s.tick = { s.counted with msOfSecond := s.counted.msOfSecond + 1 } := by
  rw [State.tick, if_pos alive]
  exact if_pos h

/-- The tick that ends a second. -/
theorem State.tick_of_second (alive : s.alive = true) (h : 1000 ≤ s.counted.msOfSecond + 1) :
    s.tick = s.counted.newSecond.secondTick := by
  rw [State.tick, if_pos alive]
  exact if_neg (by simpa [State.counted] using h)

/-- A scan that finds nothing left due reads the matrix alone. -/
theorem State.keyScan_of_quiet (h : s.scanDue = false) (levels : BitVec 12) :
    s.keyScan levels = ({ s with ms := s.ms + 1 } : State).modKeypad fun k => k.scan levels := by
  simp [State.keyScan, h]

/-- What the timers are when nothing was left due by a scan. -/
theorem State.counted_of_quiet (h : s.scanDue = false) :
    s.counted = (({ s with ms := s.ms + 1 } : State).modKeypad fun k =>
      if s.keypad.scanning then k.scan s.keypad.contacts else k).countMs := by
  unfold State.counted
  split_ifs with scanning
  · rw [State.keyScan_of_quiet h]
  · rfl

/-- A scan and the timers change no more than the millisecond and their counts. -/
theorem State.counted_sameBut (h : s.scanDue = false) :
    s.sameBut [.time, .scanRegs, .link, .assembler, .indicator, .scanner, .deriv, .supply] s.counted := by
  rw [State.counted_of_quiet h]
  have (b : Bool) : s.sameBut [.time, .scanRegs, .link, .assembler, .indicator, .scanner, .deriv, .supply]
      (({ s with ms := s.ms + 1 } : State).modKeypad fun k => if b then k.scan s.keypad.contacts else k).countMs := by
    cases b <;> (intro p; cases p <;> first | exact .inl (by decide) | exact .inr (by repeat' constructor))
  exact this _

/-! ### The second begins whatever the scan does -/

theorem State.pushKey_newSecond (e : KeyEvent) : s.newSecond.pushKey e = (s.pushKey e).newSecond := by
  unfold State.pushKey
  rw [apply_ite State.newSecond]
  rfl

theorem State.acceptKey_newSecond (x : Key) : s.newSecond.acceptKey x = (s.acceptKey x).newSecond := by
  unfold State.acceptKey
  simp only [apply_ite State.newSecond, ← State.pushKey_newSecond]
  rfl

theorem State.giveHold_newSecond (x : Key) : s.newSecond.giveHold x = (s.giveHold x).newSecond :=
  State.pushKey_newSecond (s := s.modKeypad fun k => k.setKey x fun y => { y with holdGiven := true }) _

theorem State.giveChord_newSecond : s.newSecond.giveChord = s.giveChord.newSecond :=
  State.pushKey_newSecond (s := s.modKeypad fun k => { k with chordGiven := true }) _

theorem State.refresh_newSecond (x : Section) : s.newSecond.refresh x = (s.refresh x).newSecond := by
  unfold State.refresh
  rw [apply_ite State.newSecond]
  rfl

theorem State.settle_newSecond : s.newSecond.settle = s.settle.newSecond := by
  unfold State.settle
  simp only [apply_ite State.newSecond, ← State.refresh_newSecond]
  rfl

/-- What the scan left due is taken whatever the second. -/
theorem State.catchUp_newSecond : s.newSecond.catchUp = s.catchUp.newSecond := by
  have keys (l : List Key) : ∀ s : State,
      l.foldl (fun t x => if t.keyDue x then t.acceptKey x else t) s.newSecond =
        (l.foldl (fun t x => if t.keyDue x then t.acceptKey x else t) s).newSecond := by
    induction l with
    | nil => exact fun _ => rfl
    | cons x l ih =>
      intro s
      rw [List.foldl_cons, List.foldl_cons, ← ih, apply_ite State.newSecond, ← State.acceptKey_newSecond]
      rfl
  have hold (x : Key) (t : State) : (if t.newSecond.holdDue x then t.newSecond.giveHold x else t.newSecond) =
      (if t.holdDue x then t.giveHold x else t).newSecond := by
    rw [apply_ite State.newSecond, ← State.giveHold_newSecond]
    rfl
  have chord (t : State) : (if t.newSecond.chordDue then t.newSecond.giveChord else t.newSecond) =
      (if t.chordDue then t.giveChord else t).newSecond := by
    rw [apply_ite State.newSecond, ← State.giveChord_newSecond]
    rfl
  simp only [State.catchUp, keys, hold, chord]

theorem State.keyScan_newSecond (levels : BitVec 12) : s.newSecond.keyScan levels = (s.keyScan levels).newSecond := by
  have caught : (if s.newSecond.scanDue then s.newSecond.catchUp.settle else s.newSecond) =
      (if s.scanDue then s.catchUp.settle else s).newSecond := by
    rw [apply_ite State.newSecond, ← State.settle_newSecond, ← State.catchUp_newSecond]
    rfl
  unfold State.keyScan
  rw [caught]
  rfl

/-- The scan and the timers do not read how far the second has run. -/
theorem State.counted_newSecond : s.newSecond.counted = s.counted.newSecond := by
  have scanned : (if s.newSecond.keypad.scanning then s.newSecond.keyScan s.newSecond.keypad.contacts
        else { s.newSecond with ms := s.newSecond.ms + 1 }) =
      (if s.keypad.scanning then s.keyScan s.keypad.contacts else { s with ms := s.ms + 1 }).newSecond := by
    rw [apply_ite State.newSecond, ← State.keyScan_newSecond]
    rfl
  unfold State.counted
  rw [scanned]
  rfl

/-! ### The whole second (R9, R37, R57, R133) -/

/-- A key accepted down. -/
theorem State.pressKey_sameBut (x : Key) : s.sameBut [.scanner] (s.modKeypad fun k => k.pressKey x) := by
  unfold State.modKeypad Keypad.pressKey
  dsimp only
  split_ifs <;> (intro p; cases p <;> first | exact .inl (by decide) | exact .inr (by repeat' constructor))

/-- A key accepted up. -/
theorem State.releaseKey_sameBut (x : Key) : s.sameBut [.scanner] (s.modKeypad fun k => k.releaseKey x) := by
  unfold State.modKeypad Keypad.releaseKey
  dsimp only
  split_ifs <;> (intro p; cases p <;> first | exact .inl (by decide) | exact .inr (by repeat' constructor))

/-- A key accepted. -/
theorem State.acceptKey_sameBut (x : Key) : s.sameBut [.scanner, .keyQueue] (s.acceptKey x) := by
  unfold State.acceptKey
  extract_lets y up down
  split_ifs
  · exact State.sameBut_then (State.releaseKey_sameBut x) (State.pushKey_sameBut _)
  · exact State.sameBut_mono (State.releaseKey_sameBut x)
  · exact State.sameBut_mono (State.pressKey_sameBut x)
  · exact State.sameBut_then (State.pressKey_sameBut x) (State.pushKey_sameBut _)

/-- A hold given. -/
theorem State.giveHold_sameBut (x : Key) : s.sameBut [.scanner, .keyQueue] (s.giveHold x) := by
  have set : s.sameBut [.scanner] (s.modKeypad fun k => k.setKey x fun y => { y with holdGiven := true }) := by
    intro p; cases p <;> first | exact .inl (by decide) | exact .inr (by repeat' constructor)
  exact State.sameBut_then set (State.pushKey_sameBut _)

/-- The chord given. -/
theorem State.giveChord_sameBut : s.sameBut [.scanner, .keyQueue] s.giveChord := by
  have set : s.sameBut [.scanner] (s.modKeypad fun k => { k with chordGiven := true }) := by
    intro p; cases p <;> first | exact .inl (by decide) | exact .inr (by repeat' constructor)
  exact State.sameBut_then set (State.pushKey_sameBut _)

/-- What a scan leaves due is taken at the keypad alone. -/
theorem State.catchUp_sameBut : s.sameBut [.scanner, .keyQueue] s.catchUp := by
  have keys : s.sameBut [.scanner, .keyQueue] (allKeys.foldl (fun t x => if t.keyDue x then t.acceptKey x else t) s) :=
    foldl_sameBut (fun t x => by split_ifs; exacts [State.acceptKey_sameBut x, State.sameBut_refl]) _
  have hold (t : State) (x : Key) : t.sameBut [.scanner, .keyQueue] (if t.holdDue x then t.giveHold x else t) := by
    split_ifs
    exacts [State.giveHold_sameBut x, State.sameBut_refl]
  have chord (t : State) : t.sameBut [.scanner, .keyQueue] (if t.chordDue then t.giveChord else t) := by
    split_ifs
    exacts [State.giveChord_sameBut, State.sameBut_refl]
  exact State.sameBut_trans (State.sameBut_trans keys (hold _ .enter)) (State.sameBut_trans (hold _ .clear) (chord _))

/-- What a scan leaves as it was. -/
theorem State.keyScan_keeps (levels : BitVec 12) : (s.keyScan levels).msOfSecond = s.msOfSecond ∧
    (s.keyScan levels).power = s.power ∧ (s.keyScan levels).guard.vols = s.guard.vols := by
  have caught : s.sameBut [.scanner, .keyQueue, .indicator, .pageKeypad] (if s.scanDue then s.catchUp.settle else s) := by
    split_ifs
    exacts [State.sameBut_then State.catchUp_sameBut State.settle_sameBut, State.sameBut_refl]
  exact ⟨(State.sameBut_agree caught .time).2, State.sameBut_agree caught .power, State.sameBut_agree caught .volumes⟩

/-- What the scan and the timers of a tick leave as it was. -/
theorem State.counted_keeps :
    s.counted.msOfSecond = s.msOfSecond ∧ s.counted.power = s.power ∧ s.counted.guard.vols = s.guard.vols := by
  unfold State.counted
  split_ifs
  · exact State.keyScan_keeps s.keypad.contacts
  · exact ⟨rfl, rfl, rfl⟩

theorem State.alive_congr (h : t.power = s.power) : t.alive = s.alive := by rw [State.alive, h, State.alive]

/-- What the three steps of a second at its other units leave. -/
def State.second (s : State) : State :=
  let t := s.after (exec .lockoutTick s)
  let u := t.after (exec .windowTick t)
  u.after (exec (.temperatureSample u.temp.sensor) u)

theorem State.secondTick_eq : s.secondTick = s.second.countIdle.expireIdle := rfl

/-- What the idle timers' expiry at a second can change. -/
abbrev expiring : List Part := .pageVolumes :: (sectorEnding ++ showing)

/-- The expiry of one idle timer, if it stands at 0. -/
def State.expireOne (s : State) (v : Vol) : State :=
  if (s.vol v).idle = some 0 then s.after (exec (.idleTimerExpiry v) s) else s

/-- The expiry at a second is that of each volume in turn. -/
theorem State.expireIdle_eq : s.expireIdle = allVols.foldl State.expireOne s := rfl

theorem State.expireOne_of_zero (v : Vol) (alive : s.alive = true) (h : (s.vol v).idle = some 0) :
    s.expireOne v = s.idleExpired v := by
  have run : exec (.idleTimerExpiry v) s = .next (s.idleExpired v) :=
    congrArg go (if_pos (by simp [alive, h]))
  rw [State.expireOne, if_pos h, run]
  rfl

theorem State.idleExpired_sameBut (v : Vol) : s.sameBut expiring (s.idleExpired v) := by
  unfold State.idleExpired
  split_ifs
  · have locked : s.sameBut expiring (s.lockVolume v).reportVolumes :=
      State.sameBut_then (State.lockVolume_sameBut v) State.reportVolumes_sameBut
    exact State.sameBut_then locked State.settle_sameBut
  · exact State.sameBut_then (State.modVol_sameBut v _) (State.tellGuard_sameBut _)

theorem State.expireOne_sameBut (v : Vol) : s.sameBut expiring (s.expireOne v) := by
  unfold State.expireOne
  split_ifs
  · have run : s.after (exec (.idleTimerExpiry v) s) = if s.alive && (s.vol v).idle.isSome then s.idleExpired v else s := rfl
    rw [run]
    split_ifs
    · exact State.idleExpired_sameBut v
    · exact State.sameBut_refl
  · exact State.sameBut_refl

theorem State.expireIdle_sameBut : s.sameBut expiring s.expireIdle :=
  State.expireIdle_eq ▸ foldl_sameBut (fun _ v => State.expireOne_sameBut v) _

/-- What the expiry of a volume's timer does to each volume: it is locked at once, or its lock stands behind the orders that
wait. -/
theorem State.idleExpired_vol_ne {v w : Vol} (h : w ≠ v) : (s.idleExpired v).vol w = s.vol w := by
  unfold State.idleExpired
  split_ifs
  · rw [State.settle_sameBut.vol, State.reportVolumes_sameBut.vol, State.lockVolume_vol, if_neg fun e => h e.1]
  · rw [(State.tellGuard_sameBut _).vol, State.modVol_vol, if_neg h.symm]

/-- A volume whose timer has run out is locked, or its lock waits at the guard. -/
def State.lockedOrWaits (s t : State) (v : Vol) : Prop :=
  t.vol v = (s.vol v).shut .locked ∨ (t.vol v = { s.vol v with idle := none } ∧ .lock (single v) ∈ t.guard.inbox)

theorem State.idleExpired_lockedOrWaits {v : Vol} (isOpen : (s.vol v).isOpen = true) : s.lockedOrWaits (s.idleExpired v) v := by
  unfold State.idleExpired
  split_ifs
  · refine .inl ?_
    rw [State.settle_sameBut.vol, State.reportVolumes_sameBut.vol, State.lockVolume_vol, if_pos ⟨rfl, isOpen⟩]
  · refine .inr ⟨?_, List.mem_append_right _ (List.mem_singleton.mpr rfl)⟩
    rw [(State.tellGuard_sameBut _).vol, State.modVol_vol, if_pos rfl]

/-- An order that waits at the guard still waits when an idle timer has run out. -/
theorem State.expireOne_waits {o : GuardOrder} (v : Vol) (h : o ∈ s.guard.inbox) : o ∈ (s.expireOne v).guard.inbox := by
  have busy : s.guardReady = false := by
    have ne : s.guard.inbox ≠ [] := List.ne_nil_of_mem h
    simp [State.guardReady, ne]
  unfold State.expireOne
  split_ifs
  · have run : s.after (exec (.idleTimerExpiry v) s) = if s.alive && (s.vol v).idle.isSome then s.idleExpired v else s := rfl
    rw [run]
    split_ifs
    · rw [State.idleExpired, if_neg (by simp [busy])]
      exact List.mem_append_left _ h
    · exact h
  · exact h

/-- A volume whose timer does not stand at 0 stays as it was. -/
theorem State.expireOne_vol {v w : Vol} (alive : s.alive = true) (h : (s.vol w).idle ≠ some 0) : (s.expireOne v).vol w = s.vol w := by
  by_cases zero : (s.vol v).idle = some 0
  · rw [State.expireOne_of_zero v alive zero, State.idleExpired_vol_ne]
    rintro rfl
    exact h zero
  · rw [State.expireOne, if_neg zero]

/-- The part stays alive. -/
theorem State.expireOne_alive (v : Vol) (alive : s.alive = true) : (s.expireOne v).alive = true :=
  (State.alive_congr (State.sameBut_agree (State.expireOne_sameBut v) .power)).trans alive

/-- No timer that does not stand at 0 expires. -/
theorem State.expireIdle_vol (l : List Vol) {w : Vol} (alive : s.alive = true) (h : (s.vol w).idle ≠ some 0) :
    (l.foldl State.expireOne s).vol w = s.vol w := by
  induction l generalizing s with
  | nil => rfl
  | cons v l ih =>
    have kept : (s.expireOne v).vol w = s.vol w := State.expireOne_vol alive h
    rw [List.foldl_cons, ih (State.expireOne_alive v alive) (kept ▸ h), kept]

theorem State.lockedOrWaits_idle {v : Vol} (h : s.lockedOrWaits t v) : (t.vol v).idle = none := by
  rcases h with h | ⟨h, -⟩ <;> exact congrArg Volume.idle h

/-- A lock that was made or waits stays so while further timers expire. -/
theorem State.expireIdle_lockedOrWaits (l : List Vol) {w : Vol} (alive : t.alive = true) (h : s.lockedOrWaits t w) :
    s.lockedOrWaits (l.foldl State.expireOne t) w := by
  have kept : (l.foldl State.expireOne t).vol w = t.vol w :=
    State.expireIdle_vol l alive (by rw [State.lockedOrWaits_idle h]; simp)
  exact h.imp kept.trans fun ⟨vol, lock⟩ => ⟨kept.trans vol,
    l.foldlRecOn State.expireOne (motive := fun u : State => _ ∈ u.guard.inbox) lock fun _ waits v _ =>
      State.expireOne_waits v waits⟩

/-- Every open volume whose timer stands at 0 is locked, or its lock waits. -/
theorem State.expireIdle_of_zero (l : List Vol) {w : Vol} (alive : s.alive = true) (mem : w ∈ l)
    (zero : (s.vol w).idle = some 0) (isOpen : (s.vol w).isOpen = true) :
    s.lockedOrWaits (l.foldl State.expireOne s) w := by
  induction l generalizing s with
  | nil => cases mem
  | cons v l ih =>
    have alive' := State.expireOne_alive v alive
    rw [List.foldl_cons]
    rcases eq_or_ne w v with rfl | h
    · refine State.expireIdle_lockedOrWaits l alive' ?_
      rw [State.expireOne_of_zero w alive zero]
      exact State.idleExpired_lockedOrWaits isOpen
    · have kept : (s.expireOne v).vol w = s.vol w := by
        by_cases due : (s.vol v).idle = some 0
        · rw [State.expireOne_of_zero v alive due, State.idleExpired_vol_ne h]
        · rw [State.expireOne, if_neg due]
      have := ih alive' ((List.mem_cons.mp mem).resolve_left h) (kept ▸ zero) (kept ▸ isOpen)
      rwa [State.lockedOrWaits, kept] at this

theorem State.countIdle_vol (v : Vol) :
    s.countIdle.vol v = { s.vol v with idle := (s.vol v).idle.map fun n => n - 1 } := by
  simp [State.countIdle, State.vol]

theorem State.countIdle_sameBut : s.sameBut [.volumes] s.countIdle := by
  intro p; cases p <;> first | exact .inl (by decide) | exact .inr (by repeat' constructor)

/-- The timers of a tick, one millisecond on. -/
theorem State.counted_timers (h : s.scanDue = false) :
    s.counted.ms = s.ms + 1 ∧ s.counted.guard = s.guard ∧
      s.counted.exch = { s.exch with scanLeft := s.exch.scanLeft - 1 } ∧
      s.counted.link = { s.link with probeLeft := s.link.probeLeft.map (· - 1)
                                     inFlight := s.link.inFlight.map fun f => { f with left := f.left - 10 } } ∧
      s.counted.keypad.timeout = s.keypad.timeout.map (· - 1) ∧ s.counted.keypad.flashLeft = s.keypad.flashLeft - 1 ∧
      s.counted.keypad.phaseLeft = s.keypad.phaseLeft - 1 ∧
      s.counted.cred.deriv = (s.cred.deriv.map fun d => { d with left := d.left - 1 }) ∧
      s.counted.supply = s.supply.count1 := by
  rw [State.counted_of_quiet h]
  have keypad (b : Bool) :
      (if b then s.keypad.scan s.keypad.contacts else s.keypad).timeout = s.keypad.timeout ∧
        (if b then s.keypad.scan s.keypad.contacts else s.keypad).flashLeft = s.keypad.flashLeft ∧
        (if b then s.keypad.scan s.keypad.contacts else s.keypad).phaseLeft = s.keypad.phaseLeft := by
    cases b <;> exact ⟨rfl, rfl, rfl⟩
  obtain ⟨timeout, flash, phase⟩ := keypad s.keypad.scanning
  exact ⟨rfl, rfl, rfl, rfl, congrArg (Option.map _) timeout, congrArg (· - 1) flash, congrArg (· - 1) phase, rfl, rfl⟩

/-- What the three steps of a second can change. -/
abbrev seconding : List Part :=
  [.temp, .guardInbox, .eraseInbox, .pageTemperature, .lockoutRest] ++ lockoutTicking ++ enrollEnding ++ showing

/-- A LOCKOUT_TICK has a next state. -/
theorem State.exec_lockoutTick : ∃ t, exec .lockoutTick s = .next t ∧ s.sameBut seconding t := by
  refine ⟨_, rfl, ?_⟩
  split_ifs
  · exact State.sameBut_then (State.tellLockout_sameBut _) State.takeTicks_sameBut
  · exact State.sameBut_mono (State.tellLockout_sameBut _)
  · exact State.sameBut_refl

/-- A WINDOW_TICK has a next state. -/
theorem State.exec_windowTick : ∃ t, exec .windowTick s = .next t ∧ s.sameBut seconding t := by
  refine ⟨_, rfl, ?_⟩
  split_ifs
  · exact State.sameBut_then (State.tellCred_sameBut _) State.takeWindowTicks_sameBut
  · exact State.sameBut_mono (State.tellCred_sameBut _)
  · exact State.sameBut_refl

/-- A TEMPERATURE_SAMPLE has a next state. -/
theorem State.exec_temperatureSample (x : Int) : ∃ t, exec (.temperatureSample x) s = .next t ∧ s.sameBut seconding t := by
  refine ⟨_, rfl, ?_⟩
  split_ifs
  · exact State.sameBut_mono (State.sample_sameBut _)
  · exact State.sameBut_mono (State.modTemp_sameBut _)

/-- The second at the units other than the guard is its three steps in their order. -/
theorem State.second_steps : ∃ a b, exec .lockoutTick s = .next a ∧ exec .windowTick a = .next b ∧
    exec (.temperatureSample b.temp.sensor) b = .next s.second ∧ s.sameBut seconding s.second := by
  obtain ⟨a, ha, fa⟩ := State.exec_lockoutTick (s := s)
  obtain ⟨b, hb, fb⟩ := State.exec_windowTick (s := a)
  obtain ⟨c, hc, fc⟩ := State.exec_temperatureSample (s := b) b.temp.sensor
  have second : s.second = c := by
    have after {s t : State} {o : Host.Outcome State Fault Refusal} (h : o = .next t) : s.after o = t := by rw [h]; rfl
    rw [State.second, after ha, after hb, after hc]
  exact ⟨a, b, ha, hb, second ▸ hc, second ▸ State.sameBut_trans fa (State.sameBut_trans fb fc)⟩

/-- The part, once the second has been counted. -/
theorem State.secondTick_sameBut : s.second.sameBut expiring s.secondTick :=
  State.sameBut_then State.countIdle_sameBut State.expireIdle_sameBut

/-- The volumes and the power before the idle timers count. -/
theorem State.second_keeps : s.second.alive = s.alive ∧ ∀ v, s.second.vol v = s.vol v := by
  obtain ⟨_, _, _, _, _, frame⟩ := State.second_steps (s := s)
  exact ⟨State.alive_congr (State.sameBut_agree frame .power), fun v => frame.vol v⟩

/-- The idle timers at a second, the other units' steps taken (R9). -/
theorem State.expireIdle_countIdle_vol (alive : s.alive = true) (v : Vol) :
    ((s.vol v).idle = none → s.countIdle.expireIdle.vol v = s.vol v) ∧
      ∀ n, (s.vol v).idle = some n →
        (1 < n → s.countIdle.expireIdle.vol v = { s.vol v with idle := some (n - 1) }) ∧
          (n ≤ 1 → (s.vol v).isOpen = true → s.lockedOrWaits s.countIdle.expireIdle v) := by
  have counted := State.countIdle_vol (s := s) v
  have stays (h : (s.countIdle.vol v).idle ≠ some 0) : s.countIdle.expireIdle.vol v = s.countIdle.vol v :=
    State.expireIdle_vol allVols (s := s.countIdle) alive h
  generalize hx : s.vol v = x at counted
  refine ⟨fun stopped => ?_, fun n runs => ⟨fun more => ?_, fun last isOpen => ?_⟩⟩
  · rw [stays (by rw [counted, stopped]; simp), counted, stopped, Option.map_none, ← stopped]
  · rw [stays (by rw [counted, runs]; simp; omega), counted, runs, Option.map_some]
  · have zero : (s.countIdle.vol v).idle = some 0 := by
      rw [counted, runs, Option.map_some, Nat.sub_eq_zero_of_le last]
    have expired : s.countIdle.lockedOrWaits s.countIdle.expireIdle v :=
      State.expireIdle_of_zero allVols (s := s.countIdle) alive (by simp [allVols]) zero (by rw [counted]; exact isOpen)
    rw [State.lockedOrWaits, counted] at expired
    rw [State.lockedOrWaits, hx]
    exact expired

/-- The idle timers at a second (R9). -/
theorem State.secondTick_vol (alive : s.alive = true) (v : Vol) :
    ((s.vol v).idle = none → s.secondTick.vol v = s.vol v) ∧
      ∀ n, (s.vol v).idle = some n →
        (1 < n → s.secondTick.vol v = { s.vol v with idle := some (n - 1) }) ∧
          (n ≤ 1 → (s.vol v).isOpen = true → s.lockedOrWaits s.secondTick v) := by
  obtain ⟨kept, vols⟩ := State.second_keeps (s := s)
  have timer := State.expireIdle_countIdle_vol (kept.trans alive) v
  rw [State.lockedOrWaits, vols, ← State.secondTick_eq] at timer
  exact timer

/-! ### The orders of a lock (R4, R7, R8, R9) -/

/-- A signal at the head of the guard's inbox is no order. -/
theorem State.exec_of_signal {x : Signal} {rest : List GuardOrder} (head : s.guard.inbox = .signal x :: rest) {c : Instr}
    (h : c = .openOrder ∨ c = .faultOrder ∨ c = .lockOrder ∨ c = .eraseAcceptance ∨ c = .eraseEnd ∨ c = .capacityReport ∨
      c = .lock) : exec c s = .next s := by
  rcases h with rfl | rfl | rfl | rfl | rfl | rfl | rfl <;> exact congrArg go (State.takeOrder_of_other head rfl)

/-- A set locked and reported. -/
theorem State.lockSet_settled (m : VolSet) :
    let t := (s.lockSet m).reportVolumes.settle
    s.locks t m ∧ s.volumesReported t ∧ s.sameBut expiring t := by
  intro t
  have locked : s.sameBut sectorEnding (s.lockSet m) := State.lockSet_sameBut m
  have shown : (s.lockSet m).sameBut [.attn, .pageVolumes] (s.lockSet m).reportVolumes := State.reportVolumes_sameBut
  have settled : (s.lockSet m).reportVolumes.sameBut showing t := State.settle_sameBut
  exact ⟨settled.locks (shown.locks (State.lockSet_locks m)), settled.volumesReported (State.lockSet_reported m),
    State.sameBut_then (State.sameBut_then (rs := expiring) locked shown) settled⟩

/-- A lock order, taken. -/
theorem State.exec_lockOrder {m : VolSet} {rest : List GuardOrder} (alive : s.alive = true) (free : s.guardFree = true)
    (head : s.guard.inbox = .lock m :: rest) :
    exec .lockOrder s = .next (s.popGuard.lockSet m).reportVolumes.settle :=
  congrArg go (State.takeOrder_of_head (g := fun t => (t.lockSet m).reportVolumes) alive free head rfl)

/-- A volume is the one of its set. -/
theorem inSet_single (v w : Vol) : inSet (single v) w = decide (w = v) := by
  revert v w; decide

/-- The expiry of a running idle timer. -/
theorem State.exec_idleTimerExpiry {v : Vol} (alive : s.alive = true) (runs : (s.vol v).idle.isSome = true) :
    exec (.idleTimerExpiry v) s = .next (s.idleExpired v) := congrArg go (if_pos (by simp [alive, runs]))

/-- At a guard with nothing waiting the volume is locked at once. -/
theorem State.idleExpired_of_ready {v : Vol} (ready : s.guardReady = true) :
    s.locks (s.idleExpired v) (single v) ∧ s.volumesReported (s.idleExpired v) := by
  have locked : s.sameBut sectorEnding (s.lockVolume v) := State.lockVolume_sameBut v
  have eq : s.idleExpired v = (s.lockVolume v).reportVolumes.settle := if_pos ready
  refine ⟨fun w => ?_, ?_⟩
  · rw [eq, State.settle_sameBut.vol, State.reportVolumes_sameBut.vol, State.lockVolume_vol, inSet_single]
    rcases eq_or_ne w v with rfl | h <;> simp [*]
  · rw [eq]
    exact State.settle_sameBut.volumesReported (State.volumesReported_reportVolumes (State.sameBut_agree locked .pageVolumes)
      (State.sameBut_agree locked .startUp) ((State.lockVolume_quietly v).2 _ (by decide)))

/-- At a guard that is held, or with orders waiting, the lock stands behind them. -/
theorem State.idleExpired_of_busy {v : Vol} (busy : s.guardReady = false) :
    s.idleExpired v = (s.modVol v fun x => { x with idle := none }).tellGuard (.lock (single v)) :=
  if_neg (by simp [busy])

/-- The lock of an open volume and the active request for it (R17, R91). -/
theorem State.lockVolume_active {v : Vol} {r : Request} (ok : s.memOk = true) (isOpen : (s.vol v).isOpen = true)
    (hv : s.sector.vol = v) (head : s.sectorHead = some r) :
    let t := s.lockVolume v
    t.vol v = (s.vol v).shut .locked ∧
      (s.sector.phase = .waitingGrant ∨ s.sector.phase = .checking →
        t.sector.phase = .idle ∧ (s.zeroed .lockedDuring).completed t r .lockedDuring s.sector.done [] ∧
          (s.link.granted = some .sector → s.grantReturned t)) ∧
      (s.sector.phase = .inFlight → s.sector.ended = none →
        t.sector = { s.sector with ended := some .lockedDuring } ∧
          t.link.inFlight = s.link.inFlight.map fun f => { f with withdrawn := true }) := by
  intro t
  have left : t = (s.modVol v fun x => x.shut .locked).volumeLeft v := State.lockVolume_of_open isOpen
  obtain ⟨waits, flies⟩ := State.lockVolume_lockedDuring v ok isOpen hv r head
  refine ⟨?_, fun waiting => ?_, fun flying open_ => ⟨?_, ?_⟩⟩
  · rw [State.lockVolume_vol, if_pos ⟨rfl, isOpen⟩]
  · obtain ⟨idle, done⟩ := waits waiting
    exact ⟨idle, done, fun granted => left ▸ State.shut_grantReturned hv head waiting granted _⟩
  · rw [flies flying, open_]; rfl
  · exact (left ▸ State.shut_commandWithdrawn hv _ : s.commandWithdrawn t) flying open_

end Sys2Proof.Machine
open Sys2Proof Sys2Proof.Machine

/-- Settles O29: the tick and the second are the model's `tick`, cut where it is counted; a lock is the model's `lockVolume`. -/
theorem locksAreOrdered : Obligations.LocksAreOrdered := by
  refine ⟨fun s empty => ⟨fun idle => ?_, fun c due => ?_⟩, fun s alive quiet early => ?_, fun s alive full => ?_,
    fun s alive full => ?_, fun s x rest c head => State.exec_of_signal head, fun s alive free => ⟨fun m rest head => ?_, ?_⟩,
    fun s v alive busy runs => ?_, fun s v r ok isOpen hv head => State.lockVolume_active ok isOpen hv head⟩
  · simp only [step, empty, idle]
  · simp only [step, empty, due]
  · obtain ⟨ms, guard, exch, link, timeout, flash, phase, deriv, supply⟩ := State.counted_timers quiet
    intro t
    have eq : t = { s.counted with msOfSecond := s.counted.msOfSecond + 1 } :=
      State.tick_of_ms alive (by rwa [State.counted_keeps.1])
    have later : s.counted.sameBut [.time] { s.counted with msOfSecond := s.counted.msOfSecond + 1 } := by
      intro p; cases p <;> first | exact .inl (by decide) | exact .inr (by repeat' constructor)
    refine eq ▸ ⟨ms, congrArg (· + 1) State.counted_keeps.1, guard, exch, congrArg Link.probeLeft link,
      congrArg Link.inFlight link, timeout, flash, phase, deriv, ?_,
      State.sameBut_then (State.counted_sameBut quiet) later⟩
    show s.counted.supply.count = _
    rw [supply, Supply.count1]
    split_ifs <;> rfl
  · obtain ⟨ms, power, vols⟩ := State.counted_keeps (s := s)
    intro t
    have eq : t = s.counted.newSecond.secondTick := State.tick_of_second alive (by rwa [ms])
    have alive' : s.counted.newSecond.alive = true := (State.alive_congr power).trans alive
    obtain ⟨_, _, _, _, _, frame⟩ := State.second_steps (s := s.counted.newSecond)
    have ticked := State.sameBut_then (rs := seconding ++ expiring) frame State.secondTick_sameBut
    refine ⟨eq ▸ (State.sameBut_agree ticked .time).2, fun v => ?_⟩
    have kept : s.counted.newSecond.vol v = s.vol v := State.vol_congr vols v
    have timer := State.secondTick_vol alive' v
    rw [State.lockedOrWaits, kept] at timer
    exact eq ▸ timer
  · intro counted
    have start : counted = s.counted.newSecond := by
      have early : s.newSecond.counted.msOfSecond + 1 < 1000 := by rw [State.counted_keeps.1]; exact (by decide : 0 + 1 < 1000)
      have tick : s.newSecond.tick = _ := State.tick_of_ms alive early
      have again : counted = s.newSecond.tick.newSecond := rfl
      rw [again, tick, State.counted_newSecond]
      rfl
    obtain ⟨a, b, ha, hb, hc, _⟩ := State.second_steps (s := s.counted.newSecond)
    rw [start]
    refine ⟨a, b, _, ha, hb, hc, ?_⟩
    rw [State.tick_of_second alive (by rwa [State.counted_keeps.1])]
    exact State.secondTick_sameBut
  · obtain ⟨locks, report, frame⟩ := State.lockSet_settled (s := s.popGuard) m
    exact ⟨_, State.exec_lockOrder alive free head, State.locks_congr locks rfl, report,
      State.sameBut_then State.popGuard_sameBut frame⟩
  · intro v runs empty
    have ready : s.guardReady = true := by simp [State.guardReady, free, empty]
    obtain ⟨locks, report⟩ := State.idleExpired_of_ready (v := v) ready
    exact ⟨_, State.exec_idleTimerExpiry alive runs, locks, report, State.idleExpired_sameBut v⟩
  · refine ⟨_, State.exec_idleTimerExpiry alive runs, ?_⟩
    rw [State.idleExpired_of_busy busy]
    refine ⟨rfl, fun w => ?_, rfl, State.sameBut_then (State.modVol_sameBut v _) (State.tellGuard_sameBut _)⟩
    rw [(State.tellGuard_sameBut _).vol, State.modVol_vol]
    exact if_congr eq_comm rfl rfl
end

section
namespace Sys2Proof.Machine
set_option Elab.async false
variable {s t u : State} {ps : List Part}

/-! ### What a frame keeps of the guard, the engine and the sections -/

/-- The guard outside the frame. -/
theorem State.sameBut.guard (h : s.sameBut ps t) (w : ps.contains .volumes = false := by decide)
    (w' : ps.contains .guardInbox = false := by decide) (w'' : ps.contains .guardFlags = false := by decide) :
    t.guard = s.guard := by
  have vols : t.guard.vols = s.guard.vols := State.sameBut_agree h .volumes w
  obtain ⟨inbox, wait⟩ := State.sameBut_agree h .guardInbox w'
  obtain ⟨critical, warned⟩ := State.sameBut_agree h .guardFlags w''
  cases hs : s.guard
  cases ht : t.guard
  simp_all

/-- A rewrite of a section shows it as it stands. -/
theorem State.refresh_rewritten (x : Section) : s.rewritten (s.refresh x) x := by
  have body : (s.refresh x).body x = s.body x := by
    unfold State.refresh
    split_ifs
    · rfl
    · cases x <;> rfl
  rw [State.rewritten, body, State.refresh_get]

/-- The link section shows the link alone. -/
theorem State.linkBody_congr (h : t.link = s.link) : t.linkBody = s.linkBody := by simp only [State.linkBody, h]

/-- What a rewrite of the link section shows rests on the link and the section. -/
theorem State.rewritten_link_congr (h : s.rewritten u .link) (link : t.link = u.link) (page : t.page.link = u.page.link) :
    s.rewritten t .link := by
  have body : t.body .link = u.body .link := State.linkBody_congr link
  rw [State.rewritten, body]
  exact page.trans h

/-- The erase section shows the engine and the extents. -/
theorem State.eraseBody_congr (h : t.erase = s.erase) (vols : t.guard.vols = s.guard.vols) : t.eraseBody = s.eraseBody := by
  simp only [State.eraseBody, State.stripesOf, State.vol, h, vols]

/-- What a rewrite of the erase section shows rests on the engine, the extents and the section. -/
theorem State.rewritten_erase_congr (h : s.rewritten u .erase) (erase : t.erase = u.erase)
    (vols : t.guard.vols = u.guard.vols) (page : t.page.erase = u.page.erase) : s.rewritten t .erase := by
  have body : t.body .erase = u.body .erase := State.eraseBody_congr erase vols
  rw [State.rewritten, body]
  exact page.trans h

/-- The engine outside the frame. -/
theorem State.sameBut.erase (h : s.sameBut ps t) (w : ps.contains .eraseList = false := by decide)
    (w' : ps.contains .eraseInbox = false := by decide) (w'' : ps.contains .eraseRest = false := by decide) :
    t.erase = s.erase := by
  have list : t.erase.list = s.erase.list := State.sameBut_agree h .eraseList w
  have inbox : t.erase.inbox = s.erase.inbox := State.sameBut_agree h .eraseInbox w'
  have rest : ({ t.erase with list := [], inbox := [] } : Erase) = { s.erase with list := [], inbox := [] } :=
    State.sameBut_agree h .eraseRest w''
  cases hs : s.erase
  cases ht : t.erase
  simp_all

/-! ### A grant to the sector path (R16, R89, R90) -/

/-- A SECTOR_GRANT with a grant, or with a check that waits. -/
theorem State.exec_sectorGrant (alive : s.alive = true) (h : s.link.granted = some .sector ∨ s.sector.phase = .checking) :
    exec .sectorGrant s = .next s.sectorGranted.settle := congrArg go (if_pos (by simpa [alive] using h))

/-- The check has its turn: at a guard with nothing waiting, or as the order at its front. -/
def State.checksNow (s : State) : Prop :=
  (s.sector.phase = .waitingGrant ∧ s.guardReady = true) ∨
    (s.sector.phase = .checking ∧ s.guardFree = true ∧ s.guard.inbox.head? = some .sectorCheck)

/-- An empty inbox has no head to take. -/
theorem State.popGuard_of_nil (h : s.guard.inbox = []) : s.popGuard = s := by
  have same : ({ s.guard with inbox := s.guard.inbox.tail } : Guard) = s.guard := by
    cases hg : s.guard
    simp_all
  show ({ s with guard := { s.guard with inbox := s.guard.inbox.tail } } : State) = s
  rw [same]

/-- The check, made. -/
theorem State.sectorGranted_of_turn (h : s.checksNow) : s.sectorGranted = s.popGuard.checkSector := by
  rcases h with ⟨phase, ready⟩ | ⟨phase, free, head⟩
  · have empty : s.guard.inbox = [] := by simp [State.guardReady] at ready; exact ready.2
    simp only [State.sectorGranted, phase, ready, if_true, State.popGuard_of_nil empty]
  · simp [State.sectorGranted, phase, free, head]

/-- The command of the sector in turn is issued. -/
theorem State.issueSector_facts :
    let t := s.issueSector
    t.sector = { s.sector with phase := .inFlight } ∧
      t.link = { s.link with
        state := .busy, granted := none, inFlight := some s.sectorCommand
        staging := if s.sector.write then s.sectorData else s.link.staging } ∧
      s.rewritten t .link ∧ s.sameBut [.sector, .link, .pageLink] t := by
  let w := if s.sector.write then s.modLink fun l => { l with staging := s.sectorData } else s
  let p := w.modSector fun p => { p with phase := .inFlight }
  let i := p.modLink fun l => { l with state := .busy, inFlight := some s.sectorCommand, granted := none }
  have staged : s.sameBut [.link] w := by
    unfold w
    split_ifs
    exacts [State.modLink_sameBut _, State.sameBut_refl]
  have link : w.link = { s.link with staging := if s.sector.write then s.sectorData else s.link.staging } := by
    unfold w
    split_ifs <;> rfl
  have eq : s.issueSector = i.refresh .link := rfl
  have frame : s.sameBut [.sector, .link] i :=
    State.sameBut_then (State.sameBut_then (rs := [.sector, .link]) staged (State.modSector_sameBut _)) (State.modLink_sameBut _)
  have page : i.page.get .link = s.page.get .link := State.sameBut_agree frame .pageLink
  have shown : i.rewritten (i.refresh .link) .link := State.refresh_rewritten .link
  rw [State.rewritten, page] at shown
  rw [eq]
  refine ⟨?_, ?_, shown, State.sameBut_then frame (State.refresh_sameBut .link)⟩
  · have refreshed : (i.refresh .link).sector = i.sector := State.sameBut_agree (State.refresh_sameBut .link) .sector
    have path : w.sector = s.sector := State.sameBut_agree staged .sector
    rw [refreshed]
    show ({ w.sector with phase := .inFlight } : SectorPath) = _
    rw [path]
  · rw [State.refresh_link]
    show ({ w.link with state := .busy, inFlight := some s.sectorCommand, granted := none } : Link) = _
    rw [link]

/-- The check ends a request whose volume is no longer open (R16). -/
theorem State.checkSector_of_shut (h : ((s.vol s.sector.vol).isOpen && (s.vol s.sector.vol).keyHeld) = false) :
    s.checkSector = s.endSector .lockedDuring := if_neg (by simp [h])

/-- The check passes a request with its grant to the link. -/
theorem State.checkSector_of_granted (h : ((s.vol s.sector.vol).isOpen && (s.vol s.sector.vol).keyHeld) = true)
    (granted : s.link.granted = some .sector) : s.checkSector = s.issueSector := by
  rw [State.checkSector, if_pos h, if_pos granted]

/-- A request whose grant was taken back asks again. -/
theorem State.checkSector_of_ungranted (h : ((s.vol s.sector.vol).isOpen && (s.vol s.sector.vol).keyHeld) = true)
    (ungranted : s.link.granted ≠ some .sector) : s.checkSector = s.askSector := by
  rw [State.checkSector, if_pos h, if_neg ungranted]

/-- What the end of a request in its check is: the order taken, the request ended, the indicators shown. -/
theorem State.checked_ends {r : Request} (ok : s.memOk = true) (head : s.sectorHead = some r) {st : Status}
    (other : st ≠ .flashError) :
    let t := (s.popGuard.endSector st).settle
    t.sector.phase = .idle ∧ (s.zeroed st).completed t r st s.sector.done [] ∧ .sectorCheck ∉ t.guard.inbox := by
  intro t
  let p := s.popGuard
  have settled : (p.endSector st).sameBut showing t := State.settle_sameBut
  have done := State.endSector_completed (s := p) ok head st
  have results : p.sector.results st = [] := SectorPath.results_of_ne other
  rw [results] at done
  have zeroed : (p.zeroed st).exch.mem = (s.zeroed st).exch.mem := State.zeroed_mem_congr (s := s) (t := p) rfl rfl st
  refine ⟨?_, settled.completed (State.completed_of_mem done zeroed), ?_⟩
  · have path : t.sector = (p.endSector st).sector := State.sameBut_agree settled .sector
    rw [path, State.endSector_sector (s := p) head]
  · obtain ⟨l, inbox⟩ := (State.endSector_guard (s := p) st).2 r head
    rw [settled.guard, inbox]
    simp

/-! ### A grant to the erase engine (R110, R118, R119) -/

/-- A link that has been granted is not open. -/
theorem State.grant_open (q : Requester) : (s.grant q).link.open_ = false := by
  rw [State.grant_link]
  simp [Link.open_]

/-- A boundary gives nothing, or the link. -/
theorem State.boundary_same_or_held : s.boundary = s ∨ s.boundary.link.open_ = false := by
  unfold State.boundary
  split_ifs
  · exact .inr (State.grant_open _)
  · exact .inr (State.grant_open _)
  · exact .inr (State.grant_open _)
  all_goals exact .inl rfl

/-- A boundary leaves nothing for another. -/
theorem State.boundary_boundary : s.boundary.boundary = s.boundary := by
  rcases State.boundary_same_or_held (s := s) with same | held
  · exact congrArg State.boundary same
  · exact State.boundary_of_held (by rw [held, Bool.and_false])

/-- The grant at the front of a free engine's events is taken. -/
theorem State.exec_stripeGrant {rest : List EngineEvent} (alive : s.alive = true) (free : s.engineFree = true)
    (granted : s.link.granted = some .engine) (head : s.erase.inbox = .grant :: rest) :
    exec .stripeGrant s = .next s.popEngine.stripeGranted.boundary.settle := by
  have took : s.popEngine.link.granted = some .engine := granted
  refine congrArg go ?_
  simp [State.takeEvent, alive, free, head, took]

/-- An event taken leaves the rest. -/
theorem State.popEngine_erase {e : EngineEvent} {rest : List EngineEvent} (head : s.erase.inbox = e :: rest) :
    s.popEngine.erase = { s.erase with inbox := rest } := by
  show ({ s.erase with inbox := s.erase.inbox.tail } : Erase) = _
  rw [head]; rfl

/-- The stripe of an entry as its grant begins it. -/
def State.begun (s : State) (e : EraseEntry) : State :=
  (s.modEntry e.vol fun x => { x with begun := true }).modErase fun x => { x with flying := some e.vol }

/-- A grant that is used issues the head's stripe. -/
theorem State.stripeGranted_of_stripe {e : EraseEntry} {p : Pass} {c : LinkCmd} (head : s.eraseHead = some e)
    (pass : e.pass = some p) (command : p.command = some c) (runs : s.engineRuns = true) :
    s.stripeGranted = ((s.begun e).issue (s.stripeCommand e p c)).refresh .erase := by
  simp only [State.stripeGranted, head, pass, command, runs, if_true]
  rfl

/-- A grant of no use is handed back. -/
theorem State.stripeGranted_of_useless
    (h : ∀ e p, s.eraseHead = some e → e.pass = some p → p = .key ∨ s.engineRuns = false) :
    s.stripeGranted = s.handBack .engine := by
  unfold State.stripeGranted
  split
  · rfl
  next e head =>
    split
    · rfl
    next p pass =>
      split
      · rfl
      next c command =>
        have stopped : s.engineRuns = false := (h e p head pass).resolve_left (by rintro rfl; cases command)
        rw [if_neg (by simp [stopped])]

/-- A grant that the engine hands back. -/
theorem State.handBack_engine (granted : s.link.granted = some .engine) :
    s.handBack .engine = s.dropGrant.linkReady.boundary := by
  simp [State.handBack, granted]

/-- What is known of the link and the events when a grant has been handed back by the engine. -/
theorem State.handBack_engine_facts (granted : s.link.granted = some .engine) :
    let t := s.handBack .engine
    t.link.inFlight = none ∧
      (if s.linkServes && (s.link.sectorAsks || s.link.engineAsks) then
        t.arbitrated s.erase.list s.link.losses s.link.sectorAsks s.link.engineAsks
       else t.link.state = .ready ∧ t.link.granted = none ∧ t.link.losses = s.link.losses) ∧
      t.erase.inbox = (s.erase.inbox.filter (· ≠ .grant)) ++ t.grantEvent := by
  let d := s.dropGrant
  rw [State.handBack_engine granted]
  refine ⟨?_, ?_, State.linkReady_boundary_eraseInbox (s := d)⟩
  · obtain ⟨st, g, sec, eng, n, link⟩ := State.boundary_link (s := d.linkReady)
    rw [link, State.linkReady_link]
  · have decided (serves : s.linkServes = true) :
        d.linkReady.boundary.arbitrated s.erase.list s.link.losses s.link.sectorAsks s.link.engineAsks :=
      State.linkReady_boundary_arbitrated (s := d) serves
    split_ifs with asked
    · simp only [Bool.and_eq_true] at asked
      exact decided asked.1
    · cases serves : s.linkServes with
      | false =>
        rw [State.linkReady_boundary_of_unserved (s := d) serves, State.linkReady_link]
        exact ⟨rfl, rfl, rfl⟩
      | true =>
        simp only [serves, Bool.true_and, Bool.or_eq_true, not_or, Bool.not_eq_true] at asked
        have free := decided serves
        rw [asked.1, asked.2] at free
        exact free

/-- The stripe issued. -/
theorem State.stripe_facts (e : EraseEntry) (f : InFlight) :
    let t := ((s.begun e).issue f).refresh .erase
    t.link = { s.link with state := .busy, granted := none, inFlight := some f } ∧
      t.erase = { s.erase with
        flying := some e.vol
        list := s.erase.list.map fun x => if x.vol = e.vol then { x with begun := true } else x } ∧
      s.rewritten t .link ∧ s.rewritten t .erase ∧
      s.sameBut [.eraseList, .eraseInbox, .eraseRest, .pageErase, .link, .pageLink] t := by
  let b := s.begun e
  let l := b.modLink fun l => { l with state := .busy, inFlight := some f, granted := none }
  let i := l.refresh .link
  have begun : s.sameBut [.eraseList, .eraseInbox, .eraseRest] b :=
    State.sameBut_then (State.modEntry_sameBut _ _) (State.modErase_sameBut _)
  have changed : s.sameBut [.eraseList, .eraseInbox, .eraseRest, .link] l := State.sameBut_then begun (State.modLink_sameBut _)
  have shown : l.sameBut [.pageLink] i := State.refresh_sameBut .link
  have listed : i.sameBut [.pageErase] (i.refresh .erase) := State.refresh_sameBut .erase
  have link : l.rewritten i .link := State.refresh_rewritten .link
  have erase : i.rewritten (i.refresh .erase) .erase := State.refresh_rewritten .erase
  have linkPage : l.page.get .link = s.page.get .link := State.sameBut_agree changed .pageLink
  have erasePage : i.page.get .erase = s.page.get .erase :=
    (State.sameBut_agree shown .pageErase).trans (State.sameBut_agree changed .pageErase)
  rw [State.rewritten, linkPage] at link
  rw [State.rewritten, erasePage] at erase
  refine ⟨?_, ?_, State.rewritten_link_congr link (State.sameBut_agree listed .link) (State.sameBut_agree listed .pageLink), erase,
    State.sameBut_then (State.sameBut_then (rs := [.eraseList, .eraseInbox, .eraseRest, .link, .pageLink]) changed shown) listed⟩
  · show (i.refresh .erase).link = _
    rw [State.refresh_link, State.refresh_link]
    rfl
  · show (i.refresh .erase).erase = _
    rw [State.refresh_erase, State.refresh_erase]
    rfl

/-- The part as it stands once the check of a granted request has been made. -/
theorem State.granted_check_facts (ok : s.memOk = true) (granted : s.link.granted = some .sector) :
    let v := s.vol s.sector.vol
    let t := s.popGuard.checkSector.settle
    if v.isOpen && v.keyHeld then
      t.sector = { s.sector with phase := .inFlight } ∧
        t.link = { s.link with
          state := .busy, granted := none, inFlight := some s.sectorCommand
          staging := if s.sector.write then s.sectorData else s.link.staging } ∧
        t.guard = { s.guard with inbox := s.guard.inbox.tail } ∧
        s.rewritten t .link ∧ s.sameBut (([.sector, .link, .pageLink, .guardInbox] : List Part) ++ showing) t
    else
      (∀ r, s.sectorHead = some r → t.sector.phase = .idle ∧
        (s.zeroed .lockedDuring).completed t r .lockedDuring s.sector.done [] ∧ s.grantReturned t) ∧
        s.sameBut (sectorEnding ++ showing) t := by
  intro v t
  let p := s.popGuard
  have popped : s.sameBut [.guardInbox] p := State.popGuard_sameBut
  have settled : p.checkSector.sameBut showing t := State.settle_sameBut
  by_cases sound : (v.isOpen && v.keyHeld) = true
  · rw [if_pos sound]
    have issued : p.checkSector = p.issueSector := State.checkSector_of_granted (s := p) sound granted
    rw [issued] at settled
    obtain ⟨sector, link, shown, frame⟩ := State.issueSector_facts (s := p)
    have path : t.sector = p.issueSector.sector := State.sameBut_agree settled .sector
    have held : t.link = p.issueSector.link := State.sameBut_agree settled .link
    exact ⟨path.trans sector, held.trans link, settled.guard.trans frame.guard,
      State.rewritten_link_congr (s := s) shown held (State.sameBut_agree settled .pageLink),
      State.sameBut_then (State.sameBut_then (rs := [.sector, .link, .pageLink, .guardInbox]) popped frame) settled⟩
  · rw [if_neg sound]
    have ended : p.checkSector = p.endSector .lockedDuring :=
      State.checkSector_of_shut (s := p) (Bool.eq_false_of_not_eq_true sound)
    refine ⟨fun r head => ?_, ?_⟩
    · obtain ⟨idle, done, -⟩ := State.checked_ends ok head (st := .lockedDuring) (by decide)
      have returned : s.grantReturned (p.endSector .lockedDuring) := State.endSector_grantReturned (s := p) head granted _
      rw [← ended] at idle done returned
      exact ⟨idle, done, settled.grantReturned returned⟩
    · rw [ended] at settled
      exact State.sameBut_then (State.sameBut_then (rs := sectorEnding) popped (State.endSector_sameBut _)) settled

/-- A request in its check that asks for the link again: the order taken, the link asked, the indicators shown. -/
theorem State.checked_asks (sound : s.link.state ≠ .fault) (serves : s.linkServes = true) :
    let t := s.popGuard.askSector.settle
    t.sector = { s.sector with phase := .waitingGrant } ∧ s.sectorAsked t ∧
      t.guard = { s.guard with inbox := s.guard.inbox.tail } ∧
      s.sameBut (([.sector, .guardInbox] : List Part) ++ granting ++ showing) t := by
  intro t
  let p := s.popGuard
  have popped : s.sameBut [.guardInbox] p := State.popGuard_sameBut
  obtain ⟨asked, path, frame⟩ := State.askSector_of_served (s := p) sound serves
  have settled : p.askSector.sameBut showing t := State.settle_sameBut
  have sector : t.sector = p.askSector.sector := State.sameBut_agree settled .sector
  have asked' : p.sectorAsked t := State.sectorAsked_congr asked (State.sameBut_agree settled .link)
  exact ⟨sector.trans path, asked', settled.guard.trans frame.guard,
    State.sameBut_then (State.sameBut_then (rs := [.sector, .guardInbox] ++ granting) popped frame) settled⟩

/-- A request in its check has ended with a status, nothing of it waiting at the guard. -/
def State.checkEnded (s : State) (r : Request) (t : State) (st : Status) : Prop :=
  t.sector.phase = .idle ∧ (s.zeroed st).completed t r st s.sector.done [] ∧ .sectorCheck ∉ t.guard.inbox ∧
    s.sameBut (sectorEnding ++ showing) t

/-- A check that ends its request. -/
theorem State.checkEnded_of_ends {r : Request} (ok : s.memOk = true) (head : s.sectorHead = some r) {st : Status}
    (other : st ≠ .flashError) (e : s.popGuard.checkSector = s.popGuard.endSector st) :
    s.checkEnded r s.popGuard.checkSector.settle st := by
  obtain ⟨idle, done, out⟩ := State.checked_ends ok head other
  have settled : (s.popGuard.endSector st).sameBut showing (s.popGuard.endSector st).settle := State.settle_sameBut
  have popped : s.sameBut [.guardInbox] s.popGuard := State.popGuard_sameBut
  rw [e]
  exact ⟨idle, done, out, State.sameBut_then (State.sameBut_then (rs := sectorEnding) popped (State.endSector_sameBut _)) settled⟩

/-- The part as it stands once the check of a request whose grant was taken back has been made. -/
theorem State.ungranted_check_facts {r : Request} (ok : s.memOk = true) (head : s.sectorHead = some r)
    (ungranted : s.link.granted ≠ some .sector) :
    let t := s.popGuard.checkSector.settle
    if ((s.vol s.sector.vol).isOpen && (s.vol s.sector.vol).keyHeld) = false then s.checkEnded r t .lockedDuring
    else if s.link.state = .fault then s.checkEnded r t .linkFault
    else if s.linkServes = false then s.checkEnded r t (if s.link.warned then .power else .halted)
    else
      t.sector = { s.sector with phase := .waitingGrant } ∧ s.sectorAsked t ∧
        t.guard = { s.guard with inbox := s.guard.inbox.tail } ∧
        s.sameBut (([.sector, .guardInbox] : List Part) ++ granting ++ showing) t := by
  intro t
  by_cases shut : ((s.vol s.sector.vol).isOpen && (s.vol s.sector.vol).keyHeld) = false
  · rw [if_pos shut]
    exact State.checkEnded_of_ends ok head (by decide) (State.checkSector_of_shut (s := s.popGuard) shut)
  have asks : s.popGuard.checkSector = s.popGuard.askSector :=
    State.checkSector_of_ungranted (s := s.popGuard) (Bool.eq_true_of_not_eq_false shut) ungranted
  rw [if_neg shut]
  by_cases fault : s.link.state = .fault
  · rw [if_pos fault]
    exact State.checkEnded_of_ends ok head (by decide) (asks.trans (State.askSector_of_fault (s := s.popGuard) fault))
  rw [if_neg fault]
  by_cases unserved : s.linkServes = false
  · rw [if_pos unserved]
    exact State.checkEnded_of_ends ok head (by split_ifs <;> decide)
      (asks.trans (State.askSector_of_unserved (s := s.popGuard) fault unserved))
  · have eq : t = s.popGuard.askSector.settle := congrArg State.settle asks
    rw [if_neg unserved, eq]
    exact State.checked_asks fault (Bool.eq_true_of_not_eq_false unserved)

/-- The part as it stands once a stripe has been issued. -/
theorem State.stripe_grant_facts {rest : List EngineEvent} {e : EraseEntry} {p : Pass} {c : LinkCmd}
    (inbox : s.erase.inbox = .grant :: rest) (head : s.eraseHead = some e)
    (pass : e.pass = some p) (command : p.command = some c) (runs : s.engineRuns = true) :
    let t := s.popEngine.stripeGranted.boundary.settle
    t.link = { s.link with state := .busy, granted := none, inFlight := some (s.stripeCommand e p c) } ∧
      t.erase = { s.erase with
        inbox := rest, flying := some e.vol
        list := s.erase.list.map fun x => if x.vol = e.vol then { x with begun := true } else x } ∧
      s.rewritten t .link ∧ s.rewritten t .erase ∧
      s.sameBut (([.eraseList, .eraseRest, .pageErase] : List Part) ++ granting ++ showing) t := by
  intro t
  let q := s.popEngine
  have popped : s.sameBut [.eraseInbox] q := State.popEngine_sameBut
  have events : q.erase = { s.erase with inbox := rest } := State.popEngine_erase inbox
  obtain ⟨link, erase, linkShown, eraseShown, frame⟩ := State.stripe_facts (s := q) e (s.stripeCommand e p c)
  generalize hi : ((q.begun e).issue (s.stripeCommand e p c)).refresh .erase = i at link erase linkShown eraseShown frame
  have issued : q.stripeGranted = i := (State.stripeGranted_of_stripe (s := q) head pass command runs).trans hi
  have held : i.boundary = i := State.boundary_of_held (by rw [link]; simp [Link.open_])
  have eq : t = i.settle := by
    show q.stripeGranted.boundary.settle = _
    rw [issued, held]
  have settled : i.sameBut showing t := eq ▸ State.settle_sameBut
  have last : t.erase = i.erase := settled.erase
  have held' : t.link = i.link := State.sameBut_agree settled .link
  refine ⟨held'.trans link, ?_,
    State.rewritten_link_congr (s := s) linkShown held' (State.sameBut_agree settled .pageLink),
    State.rewritten_erase_congr (s := s) eraseShown last settled.vols (State.sameBut_agree settled .pageErase),
    State.sameBut_then (State.sameBut_then (rs := [.eraseList, .eraseRest, .pageErase] ++ granting) popped frame) settled⟩
  rw [last, erase, events]

/-- The part as it stands once a grant of no use has been handed back. -/
theorem State.stripe_return_facts {rest : List EngineEvent} (inbox : s.erase.inbox = .grant :: rest)
    (granted : s.link.granted = some .engine)
    (useless : ∀ e p, s.eraseHead = some e → e.pass = some p → p = .key ∨ s.engineRuns = false) :
    let t := s.popEngine.stripeGranted.boundary.settle
    t.link.inFlight = none ∧
      (if s.linkServes && (s.link.sectorAsks || s.link.engineAsks) then
        t.arbitrated s.erase.list s.link.losses s.link.sectorAsks s.link.engineAsks
       else t.link.state = .ready ∧ t.link.granted = none ∧ t.link.losses = s.link.losses) ∧
      t.erase.inbox = (rest.filter (· ≠ .grant)) ++ t.grantEvent ∧ s.sameBut (granting ++ showing) t := by
  intro t
  let q := s.popEngine
  have popped : s.sameBut [.eraseInbox] q := State.popEngine_sameBut
  have events : q.erase.inbox = rest := congrArg Erase.inbox (State.popEngine_erase inbox)
  have back : q.stripeGranted = q.handBack .engine := State.stripeGranted_of_useless (s := q) useless
  have once : (q.handBack .engine).boundary = q.handBack .engine := by
    rw [State.handBack_engine (s := q) granted]
    exact State.boundary_boundary
  have eq : t = (q.handBack .engine).settle := by
    show q.stripeGranted.boundary.settle = _
    rw [back, once]
  obtain ⟨landed, decided, told⟩ := State.handBack_engine_facts (s := q) granted
  have settled : (q.handBack .engine).sameBut showing t := eq ▸ State.settle_sameBut
  have link : t.link = (q.handBack .engine).link := State.sameBut_agree settled .link
  refine ⟨link ▸ landed, ?_, ?_, State.sameBut_then (State.sameBut_then (rs := granting) popped (State.handBack_sameBut _)) settled⟩
  · have decided' : if s.linkServes && (s.link.sectorAsks || s.link.engineAsks) then _ else _ := decided
    rw [link]
    split_ifs at decided' ⊢
    · exact State.arbitrated_congr decided' link
    · exact decided'
  · have last : t.erase.inbox = (q.handBack .engine).erase.inbox := State.sameBut_agree settled .eraseInbox
    rw [last, told, events, State.grantEvent, State.grantEvent, link]

/-- A boundary at which somebody asks grants the link. -/
theorem State.arbitrated_asked {list : List EraseEntry} {n : Nat} {sec eng : Bool} (h : t.arbitrated list n sec eng)
    (asked : (sec || eng) = true) :
    t.link.state = .busy ∧
      if eng && (!sec || list.head?.all fun h => h.wipe || h.share ≤ n) then t.link.granted = some .engine ∧ t.link.losses = 0
      else t.link.granted = some .sector ∧ t.link.losses = if eng then n + 1 else n := by
  unfold State.arbitrated at h
  dsimp only at h
  by_cases wins : (eng && (!sec || list.head?.all fun h => h.wipe || h.share ≤ n)) = true
  · rw [if_pos wins] at h ⊢
    obtain ⟨busy, granted, none, -⟩ := h
    exact ⟨busy, granted, none⟩
  · have sector : sec = true := by
      cases sec with
      | true => rfl
      | false => simp_all
    rw [if_neg wins, if_pos sector] at h
    rw [if_neg wins]
    obtain ⟨busy, granted, losses, -⟩ := h
    exact ⟨busy, granted, losses⟩

/-- A boundary at which the engine does not ask grants it nothing. -/
theorem State.arbitrated_quiet {list : List EraseEntry} {n : Nat} {sec : Bool} (h : t.arbitrated list n sec false) :
    t.link.granted ≠ some .engine := by
  unfold State.arbitrated at h
  cases sec with
  | true =>
    obtain ⟨-, granted, -⟩ := h
    simp [granted]
  | false =>
    obtain ⟨-, granted, -⟩ := h
    simp [granted]

/-- The command of a stripe (R97, R107, R119). -/
theorem State.stripeCommand_eq (e : EraseEntry) {p : Pass} (h : p ≠ .key) :
    ∃ c, p.command = some c ∧
      let expect := if p = .discard then s.link.ed.toNat else s.link.ef.toNat
      let r := (s.vol e.vol).data
      s.stripeCommand e p c =
        { cmd := if p = .fill then .write else if p = .verify then .read else .discard
          first := r.first + 256 * e.nextStripe, count := min 256 (r.count - 256 * e.nextStripe), owner := .engine
          data := if p = .fill then List.replicate (min 256 (r.count - 256 * e.nextStripe)) 0 else []
          expect := expect, left := max 10000 (4 * expect) } := by
  cases p with
  | key => exact absurd rfl h
  | fill | verify | discard => exact ⟨_, rfl, rfl⟩

end Sys2Proof.Machine

open Sys2Proof Sys2Proof.Machine

/-- Settles O39: by the check of the sector in turn, by the stripe at the engine's cursor, and by the arbiter's decision on a
grant that is handed back. -/
theorem grantsAreUsed : Obligations.GrantsAreUsed := by
  refine ⟨fun s ungranted unchecked => ?_, fun s alive => ⟨fun granted waiting busy => ?_, fun checking later => ?_⟩,
    fun s r alive ok head checking free front ungranted => ?_, fun s alive ok granted turn => ?_, fun s other => ?_,
    fun s rest alive free granted inbox => ⟨fun e p head pass key runs => ?_, fun useless => ?_⟩, fun l h losses => ?_⟩
  · exact congrArg go (if_neg (by simp [ungranted, unchecked]))
  · refine ⟨_, State.exec_sectorGrant alive (.inl granted), ?_⟩
    let c := (s.modSector fun p => { p with phase := .checking }).tellGuard .sectorCheck
    have waits : s.sectorGranted = c := by simp [State.sectorGranted, waiting, busy, c]
    rw [waits]
    have settled : c.sameBut showing c.settle := State.settle_sameBut
    exact ⟨State.sameBut_agree settled .sector, settled.guard,
      State.sameBut_then (State.sameBut_then (rs := [.sector, .guardInbox]) (State.modSector_sameBut _)
        (State.tellGuard_sameBut _)) settled⟩
  · refine ⟨_, State.exec_sectorGrant alive (.inr checking), ?_⟩
    have waits : s.sectorGranted = s := by
      simp only [State.sectorGranted, checking]
      exact if_neg (by rcases later with h | h <;> simp [h])
    rw [waits]
    exact State.settle_sameBut
  · refine ⟨_, State.exec_sectorGrant alive (.inr checking), ?_⟩
    rw [State.sectorGranted_of_turn (.inr ⟨checking, free, front⟩)]
    exact State.ungranted_check_facts ok head ungranted
  · refine ⟨fun m x other => Config.sectorCipher.distinct _ _ _ _ other, _, State.exec_sectorGrant alive (.inl granted), ?_⟩
    rw [State.sectorGranted_of_turn turn]
    exact State.granted_check_facts ok granted
  · refine congrArg go ?_
    unfold State.takeEvent
    rcases other with busy | other
    · exact if_neg (by simp [busy])
    · cases events : s.erase.inbox with
      | nil => simp
      | cons x rest =>
        have no : x ≠ .grant := by rintro rfl; simp [events] at other
        cases x <;> simp at no ⊢
  · obtain ⟨c, command, eq⟩ := State.stripeCommand_eq (s := s) e key
    refine ⟨_, State.exec_stripeGrant alive free granted inbox, ?_⟩
    obtain ⟨link, facts⟩ := State.stripe_grant_facts inbox head pass command runs
    exact ⟨eq ▸ link, facts⟩
  · refine ⟨_, State.exec_stripeGrant alive free granted inbox, ?_⟩
    obtain ⟨landed, decided, told, frame⟩ := State.stripe_return_facts inbox granted useless
    generalize s.popEngine.stripeGranted.boundary.settle = t at landed decided told frame
    by_cases asked : (s.linkServes && (s.link.sectorAsks || s.link.engineAsks)) = true
    · rw [if_pos asked] at decided
      have asks : (s.link.sectorAsks || s.link.engineAsks) = true := (Bool.and_eq_true _ _ ▸ asked).2
      exact ⟨landed, (if_pos asked).symm ▸ State.arbitrated_asked decided asks,
        fun quiet => State.arbitrated_quiet (quiet ▸ decided), told, frame⟩
    · rw [if_neg asked] at decided
      obtain ⟨ready, ungranted, losses⟩ := decided
      exact ⟨landed, (if_neg asked).symm ▸ ⟨ready, ungranted, losses⟩, fun _ => by simp [ungranted], told, frame⟩
  · refine ⟨fun wipe => ?_, fun request lost => ?_, fun request few => ?_⟩
    · simp [arbitrate, wipe]
    · simp [arbitrate, request, lost]
    · simp [arbitrate, request, few]
end

section
namespace Sys2Proof.Machine
set_option Elab.async false
variable {s t u : State} {ps : List Part}

/-! ### What the guard's shutting of a volume leaves of the link and of the engine's events -/

/-- The engine's events have grown, by no return of the link. -/
def State.eraseGrows (s t : State) : Prop := ∃ l, t.erase.inbox = s.erase.inbox ++ l ∧ .linkReturn ∉ l

theorem State.eraseGrows.trans (h : s.eraseGrows t) (k : t.eraseGrows u) : s.eraseGrows u := by
  obtain ⟨l, hl, no⟩ := h
  obtain ⟨m, hm, no'⟩ := k
  exact ⟨l ++ m, by rw [hm, hl, List.append_assoc], by simp [no, no']⟩

theorem State.eraseGrows_of_same (h : t.erase.inbox = s.erase.inbox) : s.eraseGrows t := ⟨[], by simp [h], by simp⟩

/-- What stood among the engine's events stands there still. -/
theorem State.eraseGrows.mem {e : EngineEvent} (h : s.eraseGrows t) (mem : e ∈ s.erase.inbox) : e ∈ t.erase.inbox := by
  obtain ⟨l, hl, -⟩ := h
  rw [hl]
  exact List.mem_append_left _ mem

/-- The link is as it was but for who holds it, who asks for it, and the mark on its command. -/
def State.linkLeft (s t : State) : Prop := ∃ st g sec eng n f, t.link =
  { s.link with state := st, granted := g, sectorAsks := sec, engineAsks := eng, losses := n, inFlight := f }

theorem State.linkLeft.trans (h : s.linkLeft t) (k : t.linkLeft u) : s.linkLeft u := by
  obtain ⟨_, _, _, _, _, _, e⟩ := h
  obtain ⟨st, g, sec, eng, n, f, e'⟩ := k
  exact ⟨st, g, sec, eng, n, f, by rw [e', e]⟩

theorem State.linkLeft_of_same (h : t.link = s.link) : s.linkLeft t := ⟨_, _, _, _, _, _, h⟩

/-- A link granted to nobody is as it was but for the sector path's request, which may be withdrawn, and the mark on its command;
its section stands. -/
def State.linkQuiet (s t : State) : Prop := s.link.granted = none →
  t.page.link = s.page.link ∧ ∃ sec f, t.link = { s.link with sectorAsks := sec, inFlight := f } ∧
    (s.link.sectorAsks = false → sec = false)

theorem State.linkQuiet.trans (h : s.linkQuiet t) (k : t.linkQuiet u) : s.linkQuiet u := by
  intro free
  obtain ⟨page, sec, f, link, asks⟩ := h free
  obtain ⟨page', sec', f', link', asks'⟩ := k (by rw [link]; exact free)
  refine ⟨page'.trans page, sec', f', by rw [link', link], fun no => asks' ?_⟩
  rw [link]; exact asks no

theorem State.linkQuiet_of_same (h : t.link = s.link) (page : t.page.link = s.page.link) : s.linkQuiet t :=
  fun _ => ⟨page, s.link.sectorAsks, s.link.inFlight, h, id⟩

/-- The guard has worked on its table: what the engine and the link see of it. -/
structure State.guardWorked (s t : State) : Prop where
  grows : s.eraseGrows t
  left : s.linkLeft t
  quiet : s.linkQuiet t

theorem State.guardWorked.trans (h : s.guardWorked t) (k : t.guardWorked u) : s.guardWorked u :=
  ⟨h.grows.trans k.grows, h.left.trans k.left, h.quiet.trans k.quiet⟩

/-- A step that leaves the link, its section and the engine's events. -/
theorem State.sameBut.guardWorked (h : s.sameBut ps t) (w : ps.contains .link = false := by decide)
    (w' : ps.contains .pageLink = false := by decide) (w'' : ps.contains .eraseInbox = false := by decide) : s.guardWorked t :=
  ⟨State.eraseGrows_of_same (State.sameBut_agree h .eraseInbox w''), State.linkLeft_of_same (State.sameBut_agree h .link w),
    State.linkQuiet_of_same (State.sameBut_agree h .link w) (State.sameBut_agree h .pageLink w')⟩

/-- The sector path withdraws from the link. -/
theorem State.withdrawSector_guardWorked : s.guardWorked s.withdrawSector := by
  let u := s.modLink fun l => { l with sectorAsks := false }
  have asked : s.linkLeft u := ⟨_, _, _, _, _, _, rfl⟩
  by_cases granted : s.link.granted = some .sector
  · have back : s.withdrawSector = u.linkReady.boundary := by
      simp [State.withdrawSector, State.handBack, granted, u]
    have inbox := State.linkReady_boundary_eraseInbox (s := u)
    obtain ⟨st, g, sec, eng, n, link⟩ := State.boundary_link (s := u.linkReady)
    rw [back]
    refine ⟨⟨_, inbox, ?_⟩, asked.trans ⟨st, g, sec, eng, n, none, ?_⟩, fun free => absurd (free.symm.trans granted) (by simp)⟩
    · unfold State.grantEvent
      split_ifs <;> simp
    · rw [link, State.linkReady_link]
  · have kept : s.withdrawSector = u := if_neg granted
    rw [kept]
    exact ⟨State.eraseGrows_of_same rfl, asked, fun _ => ⟨rfl, false, _, rfl, fun _ => rfl⟩⟩

/-- The end of the active request. -/
theorem State.endSector_guardWorked (st : Status) : s.guardWorked (s.endSector st) := by
  cases h : s.sectorHead with
  | none =>
    rw [State.endSector_of_none h]
    exact State.sameBut.guardWorked (ps := []) State.sameBut_refl
  | some r =>
    obtain ⟨grows, left, quiet⟩ := State.withdrawSector_guardWorked (s := s)
    have link := State.endSector_link h st
    obtain ⟨-, -, l, inbox⟩ := State.endSector_givesRequests h st
    rw [State.sectorReleased_eraseInbox] at inbox
    have given : s.withdrawSector.eraseGrows (s.endSector st) := ⟨l.map .request, inbox, by simp⟩
    have page : (s.endSector st).page.link = s.withdrawSector.page.link := by
      have released : (s.sectorReleased st).page.link = s.withdrawSector.page.link := by
        unfold State.sectorReleased
        extract_lets t u
        show u.page.link = _
        unfold u
        split_ifs <;> rfl
      have done : (s.sectorDone r st).page.link = (s.sectorReleased st).page.link :=
        State.sameBut_agree (State.complete_sameBut _ _ _ _) .pageLink
      exact (State.sameBut_agree (State.endSector_of_done h st) .pageLink : _).trans (done.trans released)
    exact ⟨grows.trans given, left.trans (State.linkLeft_of_same link), quiet.trans (State.linkQuiet_of_same link page)⟩

/-- The active request is stopped by an order. -/
theorem State.stopSector_guardWorked (st : Status) : s.guardWorked (s.stopSector st) := by
  have same : s.guardWorked s := State.sameBut.guardWorked (ps := []) State.sameBut_refl
  unfold State.stopSector
  split
  · exact same
  · exact same
  · split_ifs
    · exact same
    · exact ⟨State.eraseGrows_of_same rfl, ⟨_, _, _, _, _, _, rfl⟩, fun _ => ⟨rfl, _, _, rfl, id⟩⟩
  all_goals exact State.endSector_guardWorked st

/-- A volume leaves OPEN or OPEN_RO. -/
theorem State.volumeLeft_guardWorked (v : Vol) : s.guardWorked (s.volumeLeft v) := by
  unfold State.volumeLeft
  split_ifs
  · exact State.stopSector_guardWorked _
  · exact State.sameBut.guardWorked (ps := []) State.sameBut_refl

/-- A volume is shut by a fault. -/
theorem State.faultVolume_guardWorked (v : Vol) : s.guardWorked (s.faultVolume v) := by
  have shut : s.guardWorked (s.modVol v fun x => x.shut .fault) := (State.modVol_sameBut v _).guardWorked
  unfold State.faultVolume
  split_ifs
  · exact shut.trans (State.volumeLeft_guardWorked v)
  · exact shut

/-- The path's volume stays its volume, or the path is idle. -/
theorem State.volumeLeft_path (v : Vol) :
    (s.volumeLeft v).sector.vol = s.sector.vol ∨ (s.volumeLeft v).sector.phase = .idle := by
  have ended (st : Status) : (s.endSector st).sector.vol = s.sector.vol ∨ (s.endSector st).sector.phase = .idle := by
    cases head : s.sectorHead with
    | none => rw [State.endSector_of_none head]; exact .inl rfl
    | some r => rw [State.endSector_sector head]; exact .inr rfl
  unfold State.volumeLeft State.stopSector
  by_cases active : s.sector.vol = v ∧
      (s.sector.phase = .waitingGrant ∨ s.sector.phase = .checking ∨ s.sector.phase = .inFlight)
  · rw [if_pos active]
    obtain ⟨-, phase | phase | phase⟩ := active <;> rw [phase]
    · exact ended _
    · exact ended _
    · dsimp only
      split_ifs <;> exact .inl rfl
  · rw [if_neg active]
    exact .inl rfl

/-- A volume that is not the path's, or a path that is idle, is left in peace. -/
theorem State.volumeLeft_of_elsewhere {v : Vol} (h : s.sector.vol ≠ v ∨ s.sector.phase = .idle) : s.volumeLeft v = s := by
  rcases h with other | idle
  · exact State.volumeLeft_of_ne other
  · simp [State.volumeLeft, idle]

/-! ### One volume under a capacity report (R11) -/

/-- The extent of a volume that a report examines does not fit. -/
def State.lost (s : State) (cap : Nat) (v : Vol) : Bool := VState.examined (s.vol v).data.state && !fits (s.vol v).data cap

/-- The engine told of an ERASING volume. -/
def State.told (s : State) (v : Vol) : State := if (s.vol v).data.state = .erasing then s.tellEngine (.extentLost v) else s

/-- The record of a volume that has gone to FAULT. -/
def State.faultRec (s : State) (v : Vol) : Rec := .volume v { (s.vol v).data with state := .fault }

theorem State.told_sameBut (v : Vol) : s.sameBut [.eraseInbox] (s.told v) := by
  unfold State.told
  split_ifs
  exacts [State.tellEngine_sameBut _, State.sameBut_refl]

/-- A volume that fits is left alone. -/
theorem State.examineVolume_of_kept {cap : Nat} {v : Vol} (h : s.lost cap v = false) : s.examineVolume cap v = s :=
  if_neg (by rw [State.lost] at h; simp [h])

/-- One that does not goes to FAULT, its record queued. -/
theorem State.examineVolume_of_lost {cap : Nat} {v : Vol} (h : s.lost cap v = true) :
    s.examineVolume cap v = ((s.told v).faultVolume v).queueRec (s.faultRec v) [] := by
  have record : ((s.told v).faultVolume v).volRec v = s.faultRec v := by
    rw [State.volRec, State.faultVolume_vol, if_pos rfl, Volume.shut_persisted _ (by decide) (by decide),
      (State.told_sameBut v).vol]
    rfl
  rw [← record]
  exact if_pos h

/-- What the examination of a volume does to each. -/
theorem State.examineVolume_vol (cap : Nat) (v w : Vol) :
    (s.examineVolume cap v).vol w = if w = v ∧ s.lost cap v = true then (s.vol v).shut .fault else s.vol w := by
  cases h : s.lost cap v with
  | false => rw [State.examineVolume_of_kept h]; simp
  | true =>
    rw [State.examineVolume_of_lost h, State.sameBut.vol (State.queueRec_sameBut _ _), State.faultVolume_vol,
      (State.told_sameBut v).vol, (State.told_sameBut v).vol]
    simp

/-- The examination of a volume, in its frame. -/
theorem State.examineVolume_sameBut (cap : Nat) (v : Vol) : s.sameBut (.commits :: sectorEnding) (s.examineVolume cap v) := by
  cases h : s.lost cap v with
  | false => rw [State.examineVolume_of_kept h]; exact State.sameBut_refl
  | true =>
    rw [State.examineVolume_of_lost h]
    exact State.sameBut_then (State.sameBut_then (rs := sectorEnding) (State.told_sameBut v) (State.faultVolume_sameBut v))
      (State.queueRec_sameBut _ _)

/-- It sets no flag but that of a completion. -/
theorem State.examineVolume_quietly (cap : Nat) (v : Vol) : s.quietly (s.examineVolume cap v) := by
  cases h : s.lost cap v with
  | false => rw [State.examineVolume_of_kept h]; exact State.quietly_refl
  | true =>
    rw [State.examineVolume_of_lost h]
    have told : s.quietly (s.told v) := (State.told_sameBut v).quietly
    have queued : ((s.told v).faultVolume v).quietly (((s.told v).faultVolume v).queueRec (s.faultRec v) []) :=
      (State.queueRec_sameBut _ _).quietly
    exact (told.trans (State.faultVolume_quietly v)).trans queued

/-- What the engine and the link see of it. -/
theorem State.examineVolume_guardWorked (cap : Nat) (v : Vol) : s.guardWorked (s.examineVolume cap v) := by
  cases h : s.lost cap v with
  | false =>
    rw [State.examineVolume_of_kept h]
    exact State.sameBut.guardWorked (ps := []) State.sameBut_refl
  | true =>
    rw [State.examineVolume_of_lost h]
    have told : s.guardWorked (s.told v) := by
      refine ⟨?_, State.linkLeft_of_same (State.sameBut_agree (State.told_sameBut v) .link),
        State.linkQuiet_of_same (State.sameBut_agree (State.told_sameBut v) .link)
          (State.sameBut_agree (State.told_sameBut v) .pageLink)⟩
      unfold State.told
      split_ifs
      · exact ⟨[.extentLost v], rfl, by simp⟩
      · exact State.eraseGrows_of_same rfl
    exact (told.trans (State.faultVolume_guardWorked v)).trans (State.queueRec_sameBut _ _).guardWorked

/-- The engine is told of an ERASING volume whose extent is lost. -/
theorem State.examineVolume_tells {cap : Nat} {v : Vol} (h : s.lost cap v = true) (erasing : (s.vol v).data.state = .erasing) :
    .extentLost v ∈ (s.examineVolume cap v).erase.inbox := by
  have told : EngineEvent.extentLost v ∈ (s.told v).erase.inbox := by
    rw [State.told, if_pos erasing]
    exact List.mem_append_right _ (List.mem_singleton.mpr rfl)
  have after : (s.told v).guardWorked (s.examineVolume cap v) := by
    rw [State.examineVolume_of_lost h]
    exact (State.faultVolume_guardWorked v).trans (State.queueRec_sameBut _ _).guardWorked
  exact after.grows.mem told

/-- The DEVICE record and the store's mode stay as they were when a record is queued. -/
theorem State.queueRec_device (r : Rec) (ws : List Waiter) : (s.queueRec r ws).store.device = s.store.device := by
  have begins (t : State) : t.beginCommit.store.device = t.store.device := by
    unfold State.beginCommit
    split <;> rfl
  unfold State.queueRec
  split_ifs
  · rfl
  · rfl
  · exact begins _
  · rfl
  · rfl

/-- The examination leaves the DEVICE record and whether the store takes records. -/
theorem State.examineVolume_device (cap : Nat) (v : Vol) :
    (s.examineVolume cap v).storeTakes = s.storeTakes ∧ (s.examineVolume cap v).store.device = s.store.device := by
  cases h : s.lost cap v with
  | false => rw [State.examineVolume_of_kept h]; exact ⟨rfl, rfl⟩
  | true =>
    obtain ⟨takes, -, device, -⟩ := (State.faultVolume_storeKept (s := s.told v) v).fields
    have told : (s.told v).store = s.store := (State.told_sameBut v).store
    rw [State.examineVolume_of_lost h, State.queueRec_storeTakes, State.queueRec_device, takes, device]
    exact ⟨(State.told_sameBut v).storeTakes, by rw [told]⟩

/-- A record that stands rests on what stands with the store. -/
theorem State.storeKept.queued {r : Rec} (h : s.storeKept t) (k : s.queued r) : t.queued r := by
  obtain ⟨takes, -, -, standing⟩ := h.fields
  intro on
  have : ∃ q ∈ s.standing, q.data = r := k (takes ▸ on)
  rwa [← standing] at this

/-- The record of a volume shut stands with the store. -/
theorem State.examineVolume_queued {cap : Nat} {v : Vol} (h : s.lost cap v = true) :
    (s.examineVolume cap v).queued (s.faultRec v) := by
  rw [State.examineVolume_of_lost h]
  exact State.queueRec_queued _ _

/-- The record of another stands there still. -/
theorem State.examineVolume_keeps {cap : Nat} {v : Vol} {r : Rec} (k : s.queued r) (other : r.id ≠ .volume v) :
    (s.examineVolume cap v).queued r := by
  cases h : s.lost cap v with
  | false => rwa [State.examineVolume_of_kept h]
  | true =>
    rw [State.examineVolume_of_lost h]
    have told : s.storeKept (s.told v) := State.storeKept_of_store (State.told_sameBut v).store
    have other' : r.id ≠ (s.faultRec v).id := other
    exact State.queued_queueRec ((told.trans (State.faultVolume_storeKept v)).queued k) other' []

/-- What the examination of a volume leaves that is not the path's, or when the path is idle. -/
theorem State.examineVolume_of_elsewhere {v : Vol} (cap : Nat) (h : s.sector.vol ≠ v ∨ s.sector.phase = .idle) :
    s.sameBut [.volumes, .eraseInbox, .commits, .storeRest] (s.examineVolume cap v) := by
  cases k : s.lost cap v with
  | false => rw [State.examineVolume_of_kept k]; exact State.sameBut_refl
  | true =>
    have path : (s.told v).sector = s.sector := State.sameBut_agree (State.told_sameBut v) .sector
    let m := (s.told v).modVol v fun x => x.shut .fault
    have shut : (s.told v).faultVolume v = m := by
      have left : m.volumeLeft v = m := State.volumeLeft_of_elsewhere (s := m) (by
        show (s.told v).sector.vol ≠ v ∨ (s.told v).sector.phase = .idle
        rwa [path])
      unfold State.faultVolume
      split_ifs
      · exact left
      · rfl
    rw [State.examineVolume_of_lost k, shut]
    exact State.sameBut_then (State.sameBut_then (rs := [.volumes, .eraseInbox]) (State.told_sameBut v) (State.modVol_sameBut v _))
      (State.queueRec_sameBut _ _)

/-- The active request for a volume that goes to FAULT (R17). -/
theorem State.examineVolume_lockedDuring {cap : Nat} {v : Vol} (h : s.lost cap v = true) :
    s.lockedDuring (s.examineVolume cap v) v := by
  have told := State.told_sameBut (s := s) v
  have shut : (s.told v).lockedDuring ((s.told v).faultVolume v) v := State.faultVolume_lockedDuring v
  have queued : ((s.told v).faultVolume v).sameBut [.commits, .storeRest] (s.examineVolume cap v) := by
    rw [State.examineVolume_of_lost h]; exact State.queueRec_sameBut _ _
  refine State.lockedDuring_of (queued.lockedDuring shut) (State.sameBut_agree told .sector) ?_ (told.vol v)
  unfold State.told
  split_ifs <;> rfl

/-- Its command in flight is withdrawn (R17, R98). -/
theorem State.examineVolume_withdrawn {cap : Nat} {v : Vol} (h : s.lost cap v = true) (isOpen : (s.vol v).isOpen = true)
    (hv : s.sector.vol = v) : s.commandWithdrawn (s.examineVolume cap v) := by
  have told := State.told_sameBut (s := s) v
  have path : (s.told v).sector = s.sector := State.sameBut_agree told .sector
  have link : (s.told v).link = s.link := State.sameBut_agree told .link
  have left : (s.told v).commandWithdrawn ((s.told v).faultVolume v) := by
    rw [State.faultVolume_of_open (by rw [told.vol]; exact isOpen)]
    exact State.shut_commandWithdrawn (by rw [path]; exact hv) _
  have queued : ((s.told v).faultVolume v).sameBut [.commits, .storeRest] (s.examineVolume cap v) := by
    rw [State.examineVolume_of_lost h]; exact State.queueRec_sameBut _ _
  have after := queued.commandWithdrawn left
  unfold State.commandWithdrawn at after ⊢
  rwa [path, link] at after

/-- The path's volume stays its volume, or the path is idle. -/
theorem State.examineVolume_path (cap : Nat) (v : Vol) :
    (s.examineVolume cap v).sector.vol = s.sector.vol ∨ (s.examineVolume cap v).sector.phase = .idle := by
  cases h : s.lost cap v with
  | false => rw [State.examineVolume_of_kept h]; exact .inl rfl
  | true =>
    have path : (s.told v).sector = s.sector := State.sameBut_agree (State.told_sameBut v) .sector
    have queued : (s.examineVolume cap v).sector = ((s.told v).faultVolume v).sector := by
      rw [State.examineVolume_of_lost h]
      exact State.sameBut_agree (State.queueRec_sameBut _ _) .sector
    rw [queued, ← path, State.faultVolume]
    split_ifs
    · exact State.volumeLeft_path (s := (s.told v).modVol v fun x => x.shut .fault) v
    · exact .inl rfl

end Sys2Proof.Machine
end

section
namespace Sys2Proof.Machine
set_option Elab.async false
variable {s t u : State} {ps : List Part}

/-! ### All volumes under a capacity report (R11) -/

/-- Volumes examined in their order. -/
def State.examineAll (s : State) (cap : Nat) (l : List Vol) : State := l.foldl (fun t v => t.examineVolume cap v) s

/-- What every examination of a volume keeps, the examination of several keeps. -/
theorem State.examineAll_rel {R : State → State → Prop} (refl : ∀ s, R s s) (trans : ∀ {s t u}, R s t → R t u → R s u)
    {cap : Nat} (l : List Vol) (step : ∀ s, ∀ v ∈ l, R s (s.examineVolume cap v)) : R s (s.examineAll cap l) := by
  induction l generalizing s with
  | nil => exact refl s
  | cons v l ih =>
    exact trans (step s v (by simp)) (ih fun t w hw => step t w (List.mem_cons_of_mem _ hw))

theorem State.examineAll_sameBut (cap : Nat) (l : List Vol) : s.sameBut (.commits :: sectorEnding) (s.examineAll cap l) :=
  foldl_sameBut (fun _ v => State.examineVolume_sameBut cap v) _

theorem State.examineAll_quietly (cap : Nat) (l : List Vol) : s.quietly (s.examineAll cap l) :=
  foldl_quietly (fun _ v => State.examineVolume_quietly cap v) l

theorem State.examineAll_guardWorked (cap : Nat) (l : List Vol) : s.guardWorked (s.examineAll cap l) :=
  State.examineAll_rel (R := State.guardWorked) (fun _ => State.sameBut.guardWorked (ps := []) State.sameBut_refl)
    State.guardWorked.trans l fun _ v _ => State.examineVolume_guardWorked cap v

theorem State.examineAll_device (cap : Nat) (l : List Vol) :
    (s.examineAll cap l).storeTakes = s.storeTakes ∧ (s.examineAll cap l).store.device = s.store.device :=
  State.examineAll_rel (R := fun s t => t.storeTakes = s.storeTakes ∧ t.store.device = s.store.device) (fun _ => ⟨rfl, rfl⟩)
    (fun h k => ⟨k.1.trans h.1, k.2.trans h.2⟩) l fun _ v _ => State.examineVolume_device cap v

/-- A volume whose extent is lost is examined once: it is in FAULT then. -/
theorem State.lost_of_fault {cap : Nat} {v : Vol} (h : (s.vol v).data.state = .fault) : s.lost cap v = false := by
  rw [State.lost, h]; rfl

/-- Whether an extent is lost rests on the volume's record. -/
theorem State.lost_congr {cap : Nat} {v : Vol} (h : t.vol v = s.vol v) : t.lost cap v = s.lost cap v := by
  rw [State.lost, h, State.lost]

/-- Every volume whose extent is lost goes to FAULT, and every other stays as it was. -/
theorem State.examineAll_vol (cap : Nat) (l : List Vol) (w : Vol) :
    (s.examineAll cap l).vol w = if w ∈ l ∧ s.lost cap w = true then (s.vol w).shut .fault else s.vol w := by
  induction l generalizing s with
  | nil => simp [State.examineAll]
  | cons v l ih =>
    have first := State.examineVolume_vol (s := s) cap v w
    show ((s.examineVolume cap v).examineAll cap l).vol w = _
    rw [ih]
    by_cases now : w = v ∧ s.lost cap v = true
    · obtain ⟨rfl, lost⟩ := now
      rw [if_pos ⟨rfl, lost⟩] at first
      rw [State.lost_of_fault (by rw [first]; rfl), if_neg (by simp), first, if_pos ⟨by simp, lost⟩]
    · rw [if_neg now] at first
      rw [State.lost_congr first, first]
      refine if_congr ?_ rfl rfl
      simp only [List.mem_cons]
      constructor
      · exact fun ⟨mem, lost⟩ => ⟨.inr mem, lost⟩
      · rintro ⟨rfl | mem, lost⟩
        · exact absurd ⟨rfl, lost⟩ now
        · exact ⟨mem, lost⟩

/-- The volumes before one and after it. -/
theorem allVols_split (v : Vol) : ∃ l m, allVols = l ++ v :: m ∧ v ∉ l ∧ v ∉ m := by
  have all : v ∈ allVols := List.mem_finRange v
  have nodup : allVols.Nodup := List.nodup_finRange 8
  obtain ⟨l, m, split⟩ := List.append_of_mem all
  rw [split, List.nodup_append] at nodup
  obtain ⟨-, tail, apart⟩ := nodup
  exact ⟨l, m, split, fun mem => apart v mem v (by simp) rfl, (List.nodup_cons.mp tail).1⟩

/-- The examination of volumes of which none is the path's, or with the path idle. -/
theorem State.examineAll_of_elsewhere {v : Vol} {l : List Vol} (cap : Nat) (hv : v ∉ l)
    (h : s.sector.vol = v ∨ s.sector.phase = .idle) :
    s.sameBut [.volumes, .eraseInbox, .commits, .storeRest] (s.examineAll cap l) := by
  induction l generalizing s with
  | nil => exact State.sameBut_refl
  | cons w l ih =>
    have ne : v ≠ w := fun e => hv (e ▸ List.mem_cons_self)
    have first : s.sameBut [.volumes, .eraseInbox, .commits, .storeRest] (s.examineVolume cap w) :=
      State.examineVolume_of_elsewhere cap (h.imp_left fun e => e.trans_ne ne)
    have path : (s.examineVolume cap w).sector = s.sector := State.sameBut_agree first .sector
    exact State.sameBut_trans first (ih (fun mem => hv (List.mem_cons_of_mem _ mem)) (by rwa [path]))

/-- The turn of one volume: what came before left it, what came after left its end. -/
theorem State.examineAll_turn (cap : Nat) (v : Vol) : ∃ l m,
    s.examineAll cap allVols = ((s.examineAll cap l).examineVolume cap v).examineAll cap m ∧
      v ∉ l ∧ v ∉ m ∧ (s.examineAll cap l).vol v = s.vol v := by
  obtain ⟨l, m, split, hl, hm⟩ := allVols_split v
  refine ⟨l, m, ?_, hl, hm, ?_⟩
  · rw [State.examineAll, split, List.foldl_append, List.foldl_cons]
    rfl
  · rw [State.examineAll_vol, if_neg fun h => hl h.1]

/-- The record of a volume whose extent is lost stands with the store. -/
theorem State.examineAll_queued {cap : Nat} {v : Vol} (h : s.lost cap v = true) :
    (s.examineAll cap allVols).queued (s.faultRec v) := by
  obtain ⟨l, m, turn, -, hm, vol⟩ := State.examineAll_turn (s := s) cap v
  have lost : (s.examineAll cap l).lost cap v = true := (State.lost_congr vol).trans h
  have record : (s.examineAll cap l).faultRec v = s.faultRec v := by rw [State.faultRec, vol, State.faultRec]
  have now := State.examineVolume_queued lost
  rw [turn]
  refine State.examineAll_rel (R := fun s t => s.queued _ → t.queued _) (fun _ => id) (fun h k q => k (h q)) m
    (fun u w hw q => State.examineVolume_keeps q ?_) (record ▸ now)
  have ne : v ≠ w := fun e => hm (e ▸ hw)
  simpa [State.faultRec, Rec.id] using ne

/-- The engine has been told of an ERASING volume whose extent is lost. -/
theorem State.examineAll_tells {cap : Nat} {v : Vol} (h : s.lost cap v = true) (erasing : (s.vol v).data.state = .erasing) :
    .extentLost v ∈ (s.examineAll cap allVols).erase.inbox := by
  obtain ⟨l, m, turn, -, -, vol⟩ := State.examineAll_turn (s := s) cap v
  have lost : (s.examineAll cap l).lost cap v = true := (State.lost_congr vol).trans h
  rw [turn]
  exact (State.examineAll_guardWorked cap m).grows.mem (State.examineVolume_tells lost (by rw [vol]; exact erasing))

/-- The turn of the path's volume, at which alone the path's part of the state changes. -/
theorem State.examineAll_path {v : Vol} (cap : Nat) (hv : s.sector.vol = v) : ∃ b,
    s.sameBut [.volumes, .eraseInbox, .commits, .storeRest] b ∧ b.vol v = s.vol v ∧
      (b.examineVolume cap v).sameBut [.volumes, .eraseInbox, .commits, .storeRest] (s.examineAll cap allVols) := by
  obtain ⟨l, m, turn, hl, hm, vol⟩ := State.examineAll_turn (s := s) cap v
  have before := State.examineAll_of_elsewhere (s := s) cap hl (.inl hv)
  have path : (s.examineAll cap l).sector = s.sector := State.sameBut_agree before .sector
  have own : (s.examineAll cap l).sector.vol = v := by rw [path]; exact hv
  have after := (State.examineVolume_path (s := s.examineAll cap l) cap v).imp_left fun e => e.trans own
  refine ⟨s.examineAll cap l, before, vol, ?_⟩
  rw [turn]
  exact State.examineAll_of_elsewhere cap hm after

/-- A state that differs elsewhere alone has the same exchange unit. -/
theorem State.examined_exch (h : s.sameBut [.volumes, .eraseInbox, .commits, .storeRest] t) : t.exch = s.exch := by
  have mem : t.exch.mem = s.exch.mem := State.sameBut_agree h .mem
  have attn : t.exch.attn = s.exch.attn := State.sameBut_agree h .attn
  have queues : t.exch.queuesOnly = s.exch.queuesOnly := State.sameBut_agree h .queues
  have regs : t.exch.regsOnly = s.exch.regsOnly := State.sameBut_agree h .scanRegs
  cases hs : s.exch
  cases ht : t.exch
  simp_all [Exchange.queuesOnly, Exchange.regsOnly]

/-- The active request for a volume whose extent is lost (R17). -/
theorem State.examineAll_lockedDuring {cap : Nat} {v : Vol} (h : s.lost cap v = true) :
    s.lockedDuring (s.examineAll cap allVols) v := by
  intro ok isOpen hv r head
  obtain ⟨b, before, vol, after⟩ := State.examineAll_path cap hv
  have lost : b.lost cap v = true := (State.lost_congr vol).trans h
  have now : s.lockedDuring (b.examineVolume cap v) v :=
    State.lockedDuring_of (State.examineVolume_lockedDuring lost) (State.sameBut_agree before .sector)
      (State.examined_exch before) vol
  have last : s.lockedDuring (s.examineAll cap allVols) v := after.lockedDuring now
  exact last ok isOpen hv r head

/-- Its command in flight is withdrawn (R17, R98). -/
theorem State.examineAll_withdrawn {cap : Nat} {v : Vol} (h : s.lost cap v = true) (isOpen : (s.vol v).isOpen = true)
    (hv : s.sector.vol = v) : s.commandWithdrawn (s.examineAll cap allVols) := by
  obtain ⟨b, before, vol, after⟩ := State.examineAll_path cap hv
  have path : b.sector = s.sector := State.sameBut_agree before .sector
  have link : b.link = s.link := State.sameBut_agree before .link
  have lost : b.lost cap v = true := (State.lost_congr vol).trans h
  have now := State.examineVolume_withdrawn lost (by rw [vol]; exact isOpen) (by rw [path]; exact hv)
  have left := after.commandWithdrawn now
  unfold State.commandWithdrawn at left ⊢
  rwa [path, link] at left

/-- The extent of a volume is lost when it does not fit and the volume is neither ABSENT nor in FAULT. -/
theorem State.lost_iff (cap : Nat) (v : Vol) : s.lost cap v =
    ((s.vol v).data.state ≠ .absent && (s.vol v).data.state ≠ .fault &&
      decide (cap < (s.vol v).data.first + (s.vol v).data.count)) := by
  have extent : (!fits (s.vol v).data cap) = decide (cap < (s.vol v).data.first + (s.vol v).data.count) := by
    simp [fits, ← decide_not]
  rw [State.lost, extent]
  cases (s.vol v).data.state <;> rfl

end Sys2Proof.Machine
end

section
namespace Sys2Proof.Machine
set_option Elab.async false
variable {s t u : State} {ps : List Part}

/-! ### The identity (R101) -/

/-- A boundary at which nobody asks gives nothing. -/
theorem State.boundary_of_unasked (sec : s.link.sectorAsks = false) (eng : s.link.engineAsks = false) : s.boundary = s := by
  unfold State.boundary
  split_ifs <;> first | rfl | simp_all

/-- The identity taken, at the boundary that follows. -/
def State.identTaken (s : State) : State :=
  let probe := s.link.state = .fault
  let t := ((s.refresh .link).modLink fun l => { l with ident := .none, probeLeft := none }).linkReady
  let u := if probe then (t.attend .link) else t
  let w := u.modStartUp fun x => { x with next := if x.identAsked then 6 else x.next, identAsked := false }
  if probe && w.device ≠ .starting then w.tellEngine .linkReturn else w

/-- The model's `identDone` is the identity taken and the boundary that follows. -/
theorem State.identDone_eq : s.identDone = s.identTaken.boundary := rfl

/-- What the taking of the identity can change. -/
abbrev identTaking : List Part := [.link, .pageLink, .attn, .startUp, .eraseInbox]

/-- The identity taken, the boundary not yet come. -/
theorem State.identTaken_facts :
    let t := s.identTaken
    t.link = { s.link with ident := .none, probeLeft := none, state := .ready, inFlight := none, granted := none } ∧
      t.startUp = { s.startUp with next := if s.startUp.identAsked then 6 else s.startUp.next, identAsked := false } ∧
      (∀ a, a ≠ .link → t.attending a = s.attending a) ∧ (s.link.state = .fault → t.attending .link = true) ∧
      t.erase.inbox = s.erase.inbox ++ (if s.link.state = .fault ∧ s.device ≠ .starting then [.linkReturn] else []) ∧
      t.page.link = (s.page.link.replaced (s.body .link)).replaced (t.body .link) ∧ s.sameBut identTaking t := by
  intro t
  let r := s.refresh .link
  let m := r.modLink fun l => { l with ident := .none, probeLeft := none }
  let i := m.modLink fun l => { l with state := .ready, inFlight := none, granted := none }
  let d := i.refresh .link
  let u := if s.link.state = .fault then d.attend .link else d
  let w := u.modStartUp fun x => { x with next := if x.identAsked then 6 else x.next, identAsked := false }
  have eq : t = if s.link.state = .fault && w.device ≠ .starting then w.tellEngine .linkReturn else w := rfl
  have refreshed : s.sameBut [.pageLink] r := State.refresh_sameBut .link
  have changed : r.sameBut [.link] i := State.sameBut_trans (State.modLink_sameBut _) (State.modLink_sameBut _)
  have shown : i.sameBut [.pageLink] d := State.refresh_sameBut .link
  have first : s.sameBut [.link, .pageLink] d :=
    State.sameBut_then (State.sameBut_then (rs := [.link, .pageLink]) refreshed changed) shown
  have flagged : d.sameBut [.attn] u := by
    unfold u
    split_ifs
    exacts [State.attend_sameBut _, State.sameBut_refl]
  have started : u.sameBut [.startUp] w := State.modStartUp_sameBut _
  have told : w.sameBut [.eraseInbox] t := by
    rw [eq]
    split_ifs
    exacts [State.tellEngine_sameBut _, State.sameBut_refl]
  have after : d.sameBut [.attn, .startUp, .eraseInbox] t :=
    State.sameBut_then (State.sameBut_then (rs := [.attn, .startUp]) flagged started) told
  have last : u.sameBut [.startUp, .eraseInbox] t := State.sameBut_then started told
  have link : d.link = { s.link with ident := .none, probeLeft := none, state := .ready, inFlight := none, granted := none } := by
    show (i.refresh .link).link = _
    rw [State.refresh_link]
    show ({ r.link with ident := .none, probeLeft := none, state := .ready, inFlight := none, granted := none } : Link) = _
    rw [State.refresh_link]
  have held : t.link = d.link := State.sameBut_agree after .link
  refine ⟨held.trans link, ?_, fun a ha => ?_, fun fault => ?_, ?_, ?_,
    State.sameBut_then first after⟩
  · have startUp : u.startUp = s.startUp :=
      (State.sameBut_agree flagged .startUp).trans (State.sameBut_agree first .startUp)
    have same : t.startUp = w.startUp := State.sameBut_agree told .startUp
    rw [same, ← startUp]
    rfl
  · rw [last.attending, ← first.attending]
    unfold u
    split_ifs
    · exact State.attend_attending_ne ha.symm
    · rfl
  · rw [last.attending]
    unfold u
    rw [if_pos fault]
    exact State.attend_attending _
  · have inbox : w.erase.inbox = s.erase.inbox := by
      have e : w.erase.inbox = d.erase.inbox :=
        (State.sameBut_agree started .eraseInbox).trans (State.sameBut_agree flagged .eraseInbox)
      exact e.trans (State.sameBut_agree first .eraseInbox)
    have device : w.device = s.device := by
      have e : w.device = d.device := (State.sameBut_agree started .device).trans (State.sameBut_agree flagged .device)
      exact e.trans (State.sameBut_agree first .device)
    rw [eq, device, ← inbox]
    by_cases now : s.link.state = .fault ∧ s.device ≠ .starting
    · rw [if_pos (by simpa using now), if_pos now]
      rfl
    · rw [if_neg (by simpa using now), if_neg now, List.append_nil]
  · have page : t.page.link = d.page.link := State.sameBut_agree after .pageLink
    have second : d.page.get .link = (i.page.get .link).replaced (i.body .link) := State.refresh_get .link
    have one : r.page.get .link = (s.page.get .link).replaced (s.body .link) := State.refresh_get .link
    have between : i.page.get .link = r.page.get .link := State.sameBut_agree changed .pageLink
    have body : t.body .link = i.body .link :=
      State.linkBody_congr (held.trans (State.sameBut_agree shown .link : d.link = i.link))
    rw [between, one, ← body] at second
    exact page.trans second

/-- The link state that a boundary leaves at a link made READY. -/
theorem State.boundary_state (ready : s.link.state = .ready) : s.boundary.link.state ≠ .fault := by
  have granted (t : State) (q : Requester) : (t.grant q).link.state ≠ .fault := by rw [State.grant_link]; simp
  have same : s.link.state ≠ .fault := by rw [ready]; simp
  unfold State.boundary
  split_ifs
  · exact granted _ _
  · exact granted _ _
  · exact granted _ _
  · exact same
  · exact same

/-- The identity taken (R101, R100, R105, R154). -/
theorem State.identDone_facts :
    let t := s.identDone
    (∃ st g sec eng n, t.link = { s.link with
      ident := .none, probeLeft := none, inFlight := none, state := st, granted := g, sectorAsks := sec, engineAsks := eng
      losses := n }) ∧
      (s.link.sectorAsks = false → s.link.engineAsks = false → t.link.state = .ready ∧
        t.page.link = (s.page.link.replaced (s.body .link)).replaced (t.body .link)) ∧
      t.link.state ≠ .fault ∧
      t.startUp = { s.startUp with next := if s.startUp.identAsked then 6 else s.startUp.next, identAsked := false } ∧
      (∀ a, a ≠ .link → t.attending a = s.attending a) ∧
      (s.link.state = .fault → t.attending .link = true) ∧
      t.erase.inbox = s.erase.inbox ++ (if s.link.state = .fault ∧ s.device ≠ .starting then [.linkReturn] else []) ++
        t.grantEvent ∧ s.sameBut identTaking t := by
  intro t
  obtain ⟨link, startUp, flags, fault, inbox, page, frame⟩ := State.identTaken_facts (s := s)
  have decided : s.identTaken.sameBut granting s.identDone := by
    rw [State.identDone_eq]
    exact State.boundary_sameBut
  have ready : s.identTaken.link.state = .ready := by rw [link]
  have free : s.identTaken.link.granted = none := by rw [link]
  obtain ⟨st, g, sec, eng, n, after⟩ := State.boundary_link (s := s.identTaken)
  have start : t.startUp = s.identTaken.startUp := State.sameBut_agree decided .startUp
  have events : t.erase.inbox = s.identTaken.erase.inbox ++ t.grantEvent := State.boundary_eraseInbox free
  refine ⟨⟨st, g, sec, eng, n, after.trans (by rw [link])⟩, fun noSec noEng => ?_, State.boundary_state ready, start.trans startUp,
    fun a ha => (decided.attending a).trans (flags a ha), fun h => (decided.attending _).trans (fault h), ?_,
    State.sameBut_then frame decided⟩
  · have sec' : s.identTaken.link.sectorAsks = false := by rw [link]; exact noSec
    have eng' : s.identTaken.link.engineAsks = false := by rw [link]; exact noEng
    have same : t = s.identTaken := State.boundary_of_unasked (s := s.identTaken) sec' eng'
    rw [same]
    exact ⟨ready, page⟩
  · rw [events, inbox]

/-! ### The report taken from the guard's inbox (R11) -/

/-- The guard's part of a capacity report. -/
def State.guardExamined (s : State) (cap : Nat) : State := (s.examineAll cap allVols).reportVolumes

/-- Nothing but the report follows the volumes. -/
theorem State.guardExamined_shown (cap : Nat) : (s.examineAll cap allVols).sameBut [.attn, .pageVolumes] (s.guardExamined cap) :=
  State.reportVolumes_sameBut

theorem State.guardExamined_sameBut (cap : Nat) :
    s.sameBut (([.pageVolumes, .commits] : List Part) ++ sectorEnding) (s.guardExamined cap) :=
  State.sameBut_then (State.examineAll_sameBut cap allVols) (State.guardExamined_shown cap)

/-- Every volume whose extent is lost is in FAULT (R11). -/
theorem State.guardExamined_vol (cap : Nat) (v : Vol) :
    (s.guardExamined cap).vol v = if s.lost cap v then (s.vol v).shut .fault else s.vol v := by
  rw [(State.guardExamined_shown cap).vol, State.examineAll_vol]
  exact if_congr (by simp [allVols]) rfl rfl

theorem State.guardExamined_reported (cap : Nat) : s.volumesReported (s.guardExamined cap) :=
  have examined : s.sameBut (.commits :: sectorEnding) (s.examineAll cap allVols) := State.examineAll_sameBut cap allVols
  State.volumesReported_reportVolumes (State.sameBut_agree examined .pageVolumes) (State.sameBut_agree examined .startUp)
    ((State.examineAll_quietly cap allVols).2 _ (by decide))

theorem State.guardExamined_tells {cap : Nat} {v : Vol} (h : s.lost cap v = true) (erasing : (s.vol v).data.state = .erasing) :
    .extentLost v ∈ (s.guardExamined cap).erase.inbox := by
  have inbox : (s.guardExamined cap).erase.inbox = (s.examineAll cap allVols).erase.inbox :=
    State.sameBut_agree (State.guardExamined_shown cap) .eraseInbox
  rw [inbox]
  exact State.examineAll_tells h erasing

theorem State.guardExamined_kept (cap : Nat) : (s.examineAll cap allVols).storeKept (s.guardExamined cap) :=
  State.storeKept_of_store (State.guardExamined_shown cap).store

/-- A volume whose extent is lost: its record, and the active request for it (R17). -/
theorem State.guardExamined_lost {cap : Nat} {v : Vol} (h : s.lost cap v = true) :
    (s.guardExamined cap).queued (s.faultRec v) ∧ s.lockedDuring (s.guardExamined cap) v ∧
      ((s.vol v).isOpen = true → s.sector.vol = v → s.commandWithdrawn (s.guardExamined cap)) :=
  ⟨(State.guardExamined_kept cap).queued (State.examineAll_queued h),
    State.reportVolumes_lockedDuring (State.examineAll_lockedDuring h),
    fun isOpen hv => (State.guardExamined_shown cap).commandWithdrawn (State.examineAll_withdrawn h isOpen hv)⟩

theorem State.guardExamined_guardWorked (cap : Nat) : s.guardWorked (s.guardExamined cap) :=
  (State.examineAll_guardWorked cap allVols).trans (State.guardExamined_shown cap).guardWorked

theorem State.guardExamined_device (cap : Nat) :
    (s.guardExamined cap).storeTakes = s.storeTakes ∧ (s.guardExamined cap).store.device = s.store.device := by
  obtain ⟨takes, device⟩ := State.examineAll_device (s := s) cap allVols
  obtain ⟨takes', -, device', -⟩ := (State.guardExamined_kept (s := s) cap).fields
  exact ⟨takes'.trans takes, device'.trans device⟩

/-- What the taking of an identity keeps of the guard's part. -/
structure State.reportKept (m c : State) : Prop where
  frame : m.sameBut ([.commits, .storeRest] ++ identTaking) c
  flags : ∀ a, a ≠ .link → c.attending a = m.attending a
  events : ∀ e, e ∈ m.erase.inbox → e ∈ c.erase.inbox
  records : ∀ r, r.id ≠ .device → m.queued r → c.queued r

/-- What the guard's part of a report says, with whatever of the link follows it. -/
theorem State.reportKept.facts {m c : State} (k : m.reportKept c) (report : s.volumesReported m) :
    s.volumesReported c ∧ ∀ v, s.lockedDuring m v → s.lockedDuring c v :=
  ⟨State.volumesReported_congr report (State.sameBut_agree k.frame .volumes) (State.sameBut_agree k.frame .pageVolumes)
      (k.flags _ (by decide)),
    fun _ h => State.lockedDuring_congr h (State.sameBut_agree k.frame .sector) (State.sameBut_agree k.frame .mem)
      (State.sameBut_agree k.frame .queues) (k.flags _ (by decide))⟩

/-- The identity that a report brings. -/
def State.identified (s : State) (cap : BitVec 32) (ef ed : BitVec 16) : State :=
  s.modLink fun l => { l with capacity := cap, ef := ef, ed := ed, identified := true }

/-- With the capacity of the DEVICE record it is shown at once. -/
theorem State.takeIdentity_of_same {cap : BitVec 32} (h : cap = s.store.device.capacity) (ef ed : BitVec 16) :
    s.takeIdentity cap ef ed = (s.identified cap ef ed).identDone := if_pos h

/-- The DEVICE record with another capacity. -/
def State.deviceTaken (s : State) (cap : BitVec 32) (ef ed : BitVec 16) : State :=
  ((s.identified cap ef ed).modStore fun x => { x with device := { x.device with capacity := cap } }).modLink fun l =>
    { l with ident := if s.storeTakes then .commit else .none }

/-- With another it waits for the record's commit. -/
theorem State.takeIdentity_of_other {cap : BitVec 32} (h : cap ≠ s.store.device.capacity) (ef ed : BitVec 16) :
    s.takeIdentity cap ef ed =
      (s.deviceTaken cap ef ed).queueRec (.device { s.store.device with capacity := cap }) [.link] := if_neg h

theorem State.deviceTaken_sameBut (cap : BitVec 32) (ef ed : BitVec 16) :
    s.sameBut [.link, .storeRest] (s.deviceTaken cap ef ed) := by
  intro p; cases p <;> first | exact .inl (by decide) | exact .inr (by repeat' constructor)

/-- The identity, shown or waiting, leaves the guard's part. -/
theorem State.takeIdentity_reportKept (cap : BitVec 32) (ef ed : BitVec 16) : s.reportKept (s.takeIdentity cap ef ed) := by
  by_cases same : cap = s.store.device.capacity
  · rw [State.takeIdentity_of_same same]
    let i := s.identified cap ef ed
    have named : s.sameBut [.link] i := State.modLink_sameBut _
    obtain ⟨-, -, -, -, flags, -, inbox, frame⟩ := State.identDone_facts (s := i)
    have kept : i.storeKept i.identDone := State.storeKept_of_store frame.store
    refine ⟨State.sameBut_then named frame, flags, fun e mem => ?_, fun r _ q => kept.queued (s := i) q⟩
    rw [inbox]
    exact List.mem_append_left _ (List.mem_append_left _ mem)
  · rw [State.takeIdentity_of_other same]
    let d := s.deviceTaken cap ef ed
    have taken : s.sameBut [.link, .storeRest] d := State.deviceTaken_sameBut cap ef ed
    have queued (r : Rec) : d.sameBut [.commits, .storeRest] (d.queueRec r [.link]) := State.queueRec_sameBut _ _
    refine ⟨State.sameBut_then taken (queued _), fun a _ => ((queued _).attending a).trans (taken.attending a), fun e mem => ?_,
      fun r other q => ?_⟩
    swap
    · have other' : r.id ≠ (Rec.device { s.store.device with capacity := cap }).id := other
      exact State.queued_queueRec (s := d) q other' _
    exact (queued _).guardWorked.grows.mem (s := d) mem

end Sys2Proof.Machine
end

section
namespace Sys2Proof.Machine
set_option Elab.async false
variable {s t u : State} {ps : List Part}

/-! ### The identity after the report (R100, R101, R105, R154) -/

/-- The identity, held and shown: what the link, start-up and the engine are then. -/
def State.identityTaken (s t : State) (cap : BitVec 32) (ef ed : BitVec 16) : Prop :=
  t.link.ident = .none ∧ t.link.inFlight = none ∧
    (s.link.sectorAsks = false → s.link.engineAsks = false → t.link.state = .ready) ∧
    t.link.state ≠ .fault ∧ t.link.probeLeft = none ∧
    t.startUp = { s.startUp with next := if s.startUp.identAsked then 6 else s.startUp.next, identAsked := false } ∧
    (s.link.state = .fault → t.attending .link = true ∧
      (s.device ≠ .starting →
        ∃ l, t.erase.inbox = s.erase.inbox ++ l ++ .linkReturn :: t.grantEvent ∧ .linkReturn ∉ l)) ∧
    s.identityShown t { s.link with capacity := cap, ef := ef, ed := ed, identified := true }

/-- The identity, held and waiting for the commit of the DEVICE record. -/
def State.identityWaits (s t : State) (cap : BitVec 32) : Prop :=
  t.link.state = s.link.state ∧ t.page.link = s.page.link ∧ t.store.device = { s.store.device with capacity := cap } ∧
    t.link.ident = (if s.storeTakes then .commit else .none) ∧ t.awaits (.device t.store.device) .link

/-- The link section shows neither who asks nor what is in flight. -/
theorem State.linkBody_of_quiet {l : Link} {st : LinkState} {id : IdentStage} {pl : Option Nat} {f : Option InFlight}
    {g : Option Requester} {sec eng : Bool} {n : Nat}
    (h : t.link = { l with state := st, ident := id, probeLeft := pl, inFlight := f, granted := g, sectorAsks := sec
                           engineAsks := eng, losses := n }) :
    t.body .link = ({ s with link := { l with state := st } } : State).body .link := by
  show t.linkBody = State.linkBody _
  simp only [State.linkBody, h]

/-- With the capacity of the DEVICE record, the guard's part done before. -/
theorem State.identDone_identityTaken {m : State} {cap : BitVec 32} {ef ed : BitVec 16} (free : s.link.granted = none)
    (worked : s.guardWorked m) (startUp : m.startUp = s.startUp) (device : m.device = s.device) :
    s.identityTaken (m.identified cap ef ed).identDone cap ef ed := by
  let i := m.identified cap ef ed
  obtain ⟨page, sec, f, link, asks⟩ := worked.quiet free
  obtain ⟨l, inbox, no⟩ := worked.grows
  have named : i.link = { s.link with
      sectorAsks := sec, inFlight := f, capacity := cap, ef := ef, ed := ed, identified := true } := by
    show ({ m.link with capacity := cap, ef := ef, ed := ed, identified := true } : Link) = _
    rw [link]
  obtain ⟨⟨st, g, sec', eng, n, last⟩, unasked, sound, start, -, flag, events, -⟩ := State.identDone_facts (s := i)
  have quiet (noSec : s.link.sectorAsks = false) (noEng : s.link.engineAsks = false) :
      i.identDone.link.state = .ready ∧
        i.identDone.page.link = (i.page.link.replaced (i.body .link)).replaced (i.identDone.body .link) :=
    unasked (by rw [named]; exact asks noSec) (by rw [named]; exact noEng)
  have state : i.link.state = s.link.state := by rw [named]
  refine ⟨by rw [last], by rw [last], fun a b => (quiet a b).1, sound, by rw [last], ?_, fun fault => ⟨flag (state.trans fault), ?_⟩,
    fun noSec noEng => ?_⟩
  · rw [start]
    show ({ m.startUp with next := if m.startUp.identAsked then 6 else m.startUp.next, identAsked := false } : StartUp) = _
    rw [startUp]
  · intro awake
    have both : i.link.state = .fault ∧ i.device ≠ .starting := ⟨state.trans fault, by show m.device ≠ _; rw [device]; exact awake⟩
    have first : i.erase.inbox = s.erase.inbox ++ l := inbox
    rw [if_pos both, first] at events
    exact ⟨l, by simpa using events, no⟩
  · obtain ⟨ready, shown⟩ := quiet noSec noEng
    have st_ready : st = .ready := by rw [last] at ready; exact ready
    have before : i.body .link = _ := State.linkBody_of_quiet (s := s) (t := i)
      (l := { s.link with capacity := cap, ef := ef, ed := ed, identified := true }) named
    have after : i.identDone.body .link = _ := State.linkBody_of_quiet (s := s) (t := i.identDone)
      (l := { s.link with capacity := cap, ef := ef, ed := ed, identified := true }) (last.trans (by rw [named]))
    have section_ : i.page.link = s.page.link := page
    rw [before, after, section_, st_ready] at shown
    exact shown

/-- With another capacity, the guard's part done before. -/
theorem State.queueDevice_identityWaits {m : State} {cap : BitVec 32} (ef ed : BitVec 16) (free : s.link.granted = none)
    (worked : s.guardWorked m) (takes : m.storeTakes = s.storeTakes) (device : m.store.device = s.store.device) :
    s.identityWaits ((m.deviceTaken cap ef ed).queueRec (.device { m.store.device with capacity := cap }) [.link]) cap := by
  let d := m.deviceTaken cap ef ed
  let c := d.queueRec (.device { m.store.device with capacity := cap }) [.link]
  obtain ⟨page, sec, f, link, -⟩ := worked.quiet free
  have queued : d.sameBut [.commits, .storeRest] c := State.queueRec_sameBut _ _
  have held : c.link = d.link := State.sameBut_agree queued .link
  have shown : c.page.link = d.page.link := State.sameBut_agree queued .pageLink
  have record : c.store.device = { m.store.device with capacity := cap } := State.queueRec_device _ _
  refine ⟨?_, shown.trans page, by rw [record, device], ?_, ?_⟩
  · show c.link.state = _
    rw [held]
    show m.link.state = _
    rw [link]
  · show c.link.ident = _
    rw [held, ← takes]
    rfl
  · show c.awaits (.device c.store.device) .link
    rw [record]
    exact State.queueRec_awaits _ (by simp)

/-- What has been said of the identity stands when the indicators are shown. -/
theorem State.identityTaken_settle {cap : BitVec 32} {ef ed : BitVec 16} (h : s.identityTaken u cap ef ed)
    (k : u.sameBut showing t) : s.identityTaken t cap ef ed := by
  have link : t.link = u.link := State.sameBut_agree k .link
  have startUp : t.startUp = u.startUp := State.sameBut_agree k .startUp
  have inbox : t.erase.inbox = u.erase.inbox := State.sameBut_agree k .eraseInbox
  have page : t.page.link = u.page.link := State.sameBut_agree k .pageLink
  have flag : t.attending .link = u.attending .link := k.attending _
  simpa only [State.identityTaken, State.identityShown, State.grantEvent, link, startUp, inbox, page, flag] using h

theorem State.identityWaits_settle {cap : BitVec 32} (h : s.identityWaits u cap) (k : u.sameBut showing t) :
    s.identityWaits t cap := by
  obtain ⟨state, page, device, ident, awaited⟩ := h
  have link : t.link = u.link := State.sameBut_agree k .link
  have shown : t.page.link = u.page.link := State.sameBut_agree k .pageLink
  have store : t.store = u.store := k.store
  unfold State.identityWaits
  rw [link, shown, store]
  exact ⟨state, page, device, ident, k.awaits awaited⟩

/-- The identity is held from the report on. -/
theorem State.takeIdentity_link (cap : BitVec 32) (ef ed : BitVec 16) :
    (s.takeIdentity cap ef ed).link.capacity = cap ∧ (s.takeIdentity cap ef ed).link.ef = ef ∧
      (s.takeIdentity cap ef ed).link.ed = ed ∧ (s.takeIdentity cap ef ed).link.identified = true := by
  by_cases same : cap = s.store.device.capacity
  · obtain ⟨⟨st, g, sec, eng, n, link⟩, -⟩ := State.identDone_facts (s := s.identified cap ef ed)
    rw [State.takeIdentity_of_same same, link]
    exact ⟨rfl, rfl, rfl, rfl⟩
  · have link : ((s.deviceTaken cap ef ed).queueRec (.device { s.store.device with capacity := cap }) [.link]).link =
        (s.deviceTaken cap ef ed).link := State.sameBut_agree (State.queueRec_sameBut _ _) .link
    rw [State.takeIdentity_of_other same, link]
    exact ⟨rfl, rfl, rfl, rfl⟩

/-- CAPACITY_REPORT with its order at the head of a free guard's inbox. -/
theorem State.exec_capacityReport {cap : BitVec 32} {ef ed : BitVec 16} {rest : List GuardOrder} (alive : s.alive = true)
    (free : s.guardFree = true) (head : s.guard.inbox = .capacity cap ef ed :: rest) :
    exec .capacityReport s = .next (s.popGuard.capacityReport cap ef ed).settle :=
  congrArg go (State.takeOrder_of_head (g := fun t => t.capacityReport cap ef ed) alive free head rfl)

/-- A link that the guard's work has left holds the identity it held, and is taking it as before. -/
theorem State.linkLeft.identity (h : s.linkLeft t) : t.link.ident = s.link.ident ∧ t.link.capacity = s.link.capacity := by
  obtain ⟨_, _, _, _, _, _, link⟩ := h
  rw [link]
  exact ⟨rfl, rfl⟩

/-- The guard's part leaves the identity. -/
theorem State.guardExamined_identity (cap : Nat) : (s.guardExamined cap).link.ident = s.link.ident ∧
    (s.guardExamined cap).link.capacity = s.link.capacity :=
  State.linkLeft.identity (State.guardExamined_guardWorked cap).left

/-- The report: the guard's part, and the identity where one is being taken. -/
theorem State.capacityReport_eq (cap : BitVec 32) (ef ed : BitVec 16) :
    s.capacityReport cap ef ed = if s.link.ident = .guard then (s.guardExamined cap.toNat).takeIdentity cap ef ed
      else s.guardExamined cap.toNat := by
  rw [← (State.guardExamined_identity (s := s) cap.toNat).1]
  unfold State.capacityReport State.guardExamined State.examineAll
  dsimp only

/-- The report keeps the guard's part. -/
theorem State.capacityReport_reportKept (cap : BitVec 32) (ef ed : BitVec 16) :
    (s.guardExamined cap.toNat).reportKept (s.capacityReport cap ef ed) := by
  rw [State.capacityReport_eq]
  split_ifs
  · exact State.takeIdentity_reportKept cap ef ed
  · exact ⟨State.sameBut_refl, fun _ _ => rfl, fun _ => id, fun _ _ => id⟩

/-- What a report does to the identity that is being taken. -/
theorem State.capacityReport_identity (cap : BitVec 32) (ef ed : BitVec 16) (taking : s.link.ident = .guard)
    (free : s.link.granted = none) :
    if cap = s.store.device.capacity then s.identityTaken (s.capacityReport cap ef ed) cap ef ed
    else s.identityWaits (s.capacityReport cap ef ed) cap := by
  have worked := State.guardExamined_guardWorked (s := s) cap.toNat
  obtain ⟨takes, record⟩ := State.guardExamined_device (s := s) cap.toNat
  have frame := State.guardExamined_sameBut (s := s) cap.toNat
  rw [State.capacityReport_eq, if_pos taking]
  split_ifs with same
  · rw [State.takeIdentity_of_same (same.trans (by rw [record]))]
    exact State.identDone_identityTaken free worked (State.sameBut_agree frame .startUp) (State.sameBut_agree frame .device)
  · rw [State.takeIdentity_of_other (by rw [record]; exact same)]
    exact State.queueDevice_identityWaits ef ed free worked takes record

/-- What a report does to each volume (R11). -/
theorem State.capacityReport_vol (cap : BitVec 32) (ef ed : BitVec 16) (v : Vol) :
    (s.capacityReport cap ef ed).vol v = if s.lost cap.toNat v then (s.vol v).shut .fault else s.vol v := by
  rw [(State.capacityReport_reportKept cap ef ed).frame.vol, State.guardExamined_vol]

/-- What it tells of a volume whose extent is lost: its record, the engine, and the active request for it (R11, R17). -/
theorem State.capacityReport_lost {cap : BitVec 32} (ef ed : BitVec 16) {v : Vol} (h : s.lost cap.toNat v = true) :
    let c := s.capacityReport cap ef ed
    ((s.vol v).data.state = .erasing → .extentLost v ∈ c.erase.inbox) ∧ c.queued (s.faultRec v) ∧ s.lockedDuring c v ∧
      ((s.vol v).isOpen = true → s.sector.vol = v → s.link.ident ≠ .guard → s.commandWithdrawn c) := by
  have kept := State.capacityReport_reportKept (s := s) cap ef ed
  obtain ⟨-, during⟩ := kept.facts (State.guardExamined_reported cap.toNat)
  obtain ⟨queued, now, withdrawn⟩ := State.guardExamined_lost h
  refine ⟨fun erasing => kept.events _ (State.guardExamined_tells h erasing),
    kept.records _ (by simp [State.faultRec, Rec.id]) queued, during v now, fun isOpen hv other => ?_⟩
  rw [State.capacityReport_eq, if_neg other]
  exact withdrawn isOpen hv

theorem State.capacityReport_reported (cap : BitVec 32) (ef ed : BitVec 16) : s.volumesReported (s.capacityReport cap ef ed) :=
  ((State.capacityReport_reportKept cap ef ed).facts (State.guardExamined_reported cap.toNat)).1

/-- The identity held after a report. -/
theorem State.capacityReport_link (cap : BitVec 32) (ef ed : BitVec 16) :
    let l := (s.capacityReport cap ef ed).link
    (s.link.ident = .guard → l.capacity = cap ∧ l.ef = ef ∧ l.ed = ed ∧ l.identified = true) ∧
      (s.link.ident ≠ .guard → l.capacity = s.link.capacity) := by
  rw [State.capacityReport_eq]
  refine ⟨fun taking => ?_, fun other => ?_⟩
  · rw [if_pos taking]
    exact State.takeIdentity_link cap ef ed
  · rw [if_neg other]
    exact (State.guardExamined_identity cap.toNat).2

theorem State.capacityReport_sameBut (cap : BitVec 32) (ef ed : BitVec 16) :
    s.sameBut (([.pageVolumes, .commits] : List Part) ++ linkEnding) (s.capacityReport cap ef ed) :=
  State.sameBut_then (State.guardExamined_sameBut cap.toNat) (State.capacityReport_reportKept cap ef ed).frame

end Sys2Proof.Machine

open Sys2Proof Sys2Proof.Machine

/-- Settles O32: the guard's part volume by volume in their order, at most one of them the sector path's; then the identity. -/
theorem capacityReports : Obligations.CapacityReports := by
  intro s cap ef ed rest alive free head lost
  let p := s.popGuard
  have popped : s.sameBut [.guardInbox] p := State.popGuard_sameBut
  have run := State.exec_capacityReport alive free head
  have isLost (v : Vol) : p.lost cap.toNat v = lost v := State.lost_iff (s := p) cap.toNat v
  have vol := State.capacityReport_vol (s := p) cap ef ed
  have gone {v : Vol} := State.capacityReport_lost (s := p) (cap := cap) ef ed (v := v)
  have report : s.volumesReported _ := State.capacityReport_reported (s := p) cap ef ed
  obtain ⟨taken, untaken⟩ := State.capacityReport_link (s := p) cap ef ed
  have identity := State.capacityReport_identity (s := p) cap ef ed
  have frame := State.capacityReport_sameBut (s := p) cap ef ed
  simp only [isLost] at vol gone
  generalize p.capacityReport cap ef ed = c at run vol gone report taken untaken identity frame
  have settled : c.sameBut showing c.settle := State.settle_sameBut
  have inbox : c.settle.erase.inbox = c.erase.inbox := State.sameBut_agree settled .eraseInbox
  have link : c.settle.link = c.link := State.sameBut_agree settled .link
  have stands : c.storeKept c.settle := State.storeKept_of_store settled.store
  refine ⟨c.settle, run, fun v => (settled.vol v).trans (vol v), settled.volumesReported report,
    fun v h erasing => ?_, fun v h => ?_, fun taking => link ▸ taken taking, fun other => link ▸ untaken other,
    fun taking ungranted => ?_, State.sameBut_then (State.sameBut_then (rs := [.pageVolumes, .commits] ++ linkEnding)
      popped frame) settled⟩
  · obtain ⟨told, -⟩ := gone h
    exact inbox ▸ told erasing
  · obtain ⟨-, queued, during, withdrawn⟩ := gone h
    have path : s.lockedDuring c v := State.lockedDuring_of during rfl rfl rfl
    exact ⟨stands.queued queued, settled.lockedDuring path,
      fun isOpen hv other => settled.commandWithdrawn (withdrawn isOpen hv other)⟩
  · have shown := identity taking ungranted
    by_cases same : cap = s.store.device.capacity
    · rw [if_pos (c := cap = p.store.device.capacity) same] at shown
      rw [if_pos same]
      exact State.identityTaken_settle shown settled
    · rw [if_neg (c := cap = p.store.device.capacity) same] at shown
      rw [if_neg same]
      exact State.identityWaits_settle shown settled
end

section
namespace Sys2Proof.Machine
set_option Elab.async false
variable {s t u : State} {ps : List Part}

/-! ### What the other blocks' operations leave of the credential unit: all but the events that wait -/

/-- The unit without the events that wait. -/
def Credential.noEvents (c : Credential) : Credential := { c with inbox := [] }

/-- Outside these parts a frame changes nothing of the credential unit but the events that wait. -/
theorem State.sameBut.noEvents (h : s.sameBut ps t)
    (w : ([.slots, .window, .credWork, .deriv, .credRest].all fun p => !ps.contains p) = true := by decide) :
    t.cred.noEvents = s.cred.noEvents := by
  have kept (p : Part) (hp : p ∈ [Part.slots, .window, .credWork, .deriv, .credRest]) : s.agree t p :=
    State.sameBut_agree h p (by simpa using List.all_eq_true.1 w p hp)
  obtain ⟨window, key⟩ := kept .window (by decide)
  obtain ⟨verify, enroll⟩ := kept .credWork (by decide)
  obtain ⟨wait, warned, shut, halted⟩ := kept .credRest (by decide)
  have slots : t.cred.slots = _ := kept .slots (by decide)
  have deriv : t.cred.deriv = _ := kept .deriv (by decide)
  simp only [Credential.noEvents, window, key, verify, enroll, wait, warned, shut, halted, slots, deriv]

@[simp] theorem State.attend_noEvents (a : Attn) : (s.attend a).cred.noEvents = s.cred.noEvents :=
  (State.attend_sameBut _).noEvents
@[simp] theorem State.guardWaits_noEvents (w : GuardWait) : (s.guardWaits w).cred.noEvents = s.cred.noEvents :=
  (State.guardWaits_sameBut _).noEvents
@[simp] theorem State.popGuard_noEvents : (s.popGuard).cred.noEvents = s.cred.noEvents := State.popGuard_sameBut.noEvents
@[simp] theorem State.tellGuard_noEvents (o : GuardOrder) : (s.tellGuard o).cred.noEvents = s.cred.noEvents :=
  (State.tellGuard_sameBut _).noEvents
@[simp] theorem State.tellCred_noEvents (e : CredEvent) : (s.tellCred e).cred.noEvents = s.cred.noEvents :=
  (State.tellCred_sameBut _).noEvents
@[simp] theorem State.tellKeypad_noEvents (o : KeyOrder) : (s.tellKeypad o).cred.noEvents = s.cred.noEvents :=
  (State.tellKeypad_sameBut _).noEvents
@[simp] theorem State.tellEngine_noEvents (e : EngineEvent) : (s.tellEngine e).cred.noEvents = s.cred.noEvents :=
  (State.tellEngine_sameBut _).noEvents
@[simp] theorem State.popEngine_noEvents : (s.popEngine).cred.noEvents = s.cred.noEvents := State.popEngine_sameBut.noEvents
@[simp] theorem State.setJob_noEvents (j : Job) : (s.setJob j).cred.noEvents = s.cred.noEvents :=
  (State.setJob_sameBut _).noEvents
@[simp] theorem State.modEntry_noEvents (v : Vol) (g : EraseEntry → EraseEntry) :
    (s.modEntry v g).cred.noEvents = s.cred.noEvents :=
  (State.modEntry_sameBut _ _).noEvents
@[simp] theorem State.tellLockout_noEvents (e : LockEvent) : (s.tellLockout e).cred.noEvents = s.cred.noEvents :=
  (State.tellLockout_sameBut _).noEvents
@[simp] theorem State.popLockout_noEvents : (s.popLockout).cred.noEvents = s.cred.noEvents :=
  State.popLockout_sameBut.noEvents
@[simp] theorem State.lockoutWaits_noEvents (w : LockWait) : (s.lockoutWaits w).cred.noEvents = s.cred.noEvents :=
  (State.lockoutWaits_sameBut _).noEvents
@[simp] theorem State.clearEntry_noEvents : (s.clearEntry).cred.noEvents = s.cred.noEvents :=
  State.clearEntry_sameBut.noEvents
@[simp] theorem State.asmIdle_noEvents : (s.asmIdle).cred.noEvents = s.cred.noEvents := State.asmIdle_sameBut.noEvents
@[simp] theorem State.asmTo_noEvents (a : Assembler) (m : Option Nat) : (s.asmTo a m).cred.noEvents = s.cred.noEvents :=
  (State.asmTo_sameBut _ _).noEvents
@[simp] theorem State.reloadTimeout_noEvents (m : Nat) : (s.reloadTimeout m).cred.noEvents = s.cred.noEvents :=
  (State.reloadTimeout_sameBut _).noEvents
@[simp] theorem State.appendDigit_noEvents (d : Digit) (m : Nat) : (s.appendDigit d m).cred.noEvents = s.cred.noEvents :=
  (State.appendDigit_sameBut _ _).noEvents
@[simp] theorem State.sampleKeypad_noEvents : (s.sampleKeypad).cred.noEvents = s.cred.noEvents :=
  State.sampleKeypad_sameBut.noEvents
@[simp] theorem State.popKey_noEvents : (s.popKey).cred.noEvents = s.cred.noEvents := State.popKey_sameBut.noEvents
@[simp] theorem State.toStep_noEvents (n : Nat) : (s.toStep n).cred.noEvents = s.cred.noEvents :=
  (State.toStep_sameBut _).noEvents
@[simp] theorem State.refresh_noEvents (x : Section) : (s.refresh x).cred.noEvents = s.cred.noEvents :=
  (State.refresh_sameBut x).noEvents (by cases x <;> rfl)
@[simp] theorem State.refreshEntries_noEvents (on : Domain → Bool) :
    (s.refreshEntries on).cred.noEvents = s.cred.noEvents :=
  (State.refreshEntries_sameBut _).noEvents
@[simp] theorem State.settle_noEvents : (s.settle).cred.noEvents = s.cred.noEvents := State.settle_sameBut.noEvents
@[simp] theorem State.handAll_noEvents (x : Signal) : (s.handAll x).cred.noEvents = s.cred.noEvents :=
  (State.handAll_sameBut _).noEvents
@[simp] theorem State.sample_noEvents (x : Int) : (s.sample x).cred.noEvents = s.cred.noEvents :=
  (State.sample_sameBut _).noEvents
@[simp] theorem State.queueRec_noEvents (r : Rec) (ws : List Waiter) : (s.queueRec r ws).cred.noEvents = s.cred.noEvents :=
  (State.queueRec_sameBut _ _).noEvents
@[simp] theorem State.complete_noEvents (r : Request) (st : Status) (d : Nat) (l : List Byte) :
    (s.complete r st d l).cred.noEvents = s.cred.noEvents :=
  (State.complete_sameBut _ _ _ _).noEvents
@[simp] theorem State.pendingScan_noEvents : (s.pendingScan).cred.noEvents = s.cred.noEvents :=
  State.pendingScan_sameBut.noEvents
@[simp] theorem State.scanRequest_noEvents : (s.scanRequest).cred.noEvents = s.cred.noEvents :=
  State.scanRequest_sameBut.noEvents
@[simp] theorem State.dropGrant_noEvents : (s.dropGrant).cred.noEvents = s.cred.noEvents := State.dropGrant_sameBut.noEvents
@[simp] theorem State.boundary_noEvents : (s.boundary).cred.noEvents = s.cred.noEvents := State.boundary_sameBut.noEvents
@[simp] theorem State.linkReady_noEvents : (s.linkReady).cred.noEvents = s.cred.noEvents := State.linkReady_sameBut.noEvents
@[simp] theorem State.handBack_noEvents (q : Requester) : (s.handBack q).cred.noEvents = s.cred.noEvents :=
  (State.handBack_sameBut _).noEvents
@[simp] theorem State.withdrawEngine_noEvents : (s.withdrawEngine).cred.noEvents = s.cred.noEvents :=
  State.withdrawEngine_sameBut.noEvents
@[simp] theorem State.issue_noEvents (f : InFlight) : (s.issue f).cred.noEvents = s.cred.noEvents :=
  (State.issue_sameBut _).noEvents
@[simp] theorem State.guardCommit_noEvents (l : List Rec) (n : Nat) (k : GuardThen) :
    (s.guardCommit l n k).cred.noEvents = s.cred.noEvents :=
  (State.guardCommit_sameBut _ _ _).noEvents
@[simp] theorem State.giveFlash_noEvents (o : OneShot) : (s.giveFlash o).cred.noEvents = s.cred.noEvents :=
  (State.giveFlash_sameBut _).noEvents
@[simp] theorem State.pushKey_noEvents (e : KeyEvent) : (s.pushKey e).cred.noEvents = s.cred.noEvents :=
  (State.pushKey_sameBut _).noEvents
@[simp] theorem State.markerStep_noEvents : (s.markerStep).cred.noEvents = s.cred.noEvents :=
  State.markerStep_sameBut.noEvents
@[simp] theorem State.handEntry_noEvents (d : Domain) : (s.handEntry d).cred.noEvents = s.cred.noEvents :=
  (State.handEntry_sameBut _).noEvents
@[simp] theorem State.leaveVerifying_noEvents (o : Option OneShot) : (s.leaveVerifying o).cred.noEvents = s.cred.noEvents :=
  (State.leaveVerifying_sameBut _).noEvents
@[simp] theorem State.modDomain_noEvents (d : Domain) (g : DomainState → DomainState) :
    (s.modDomain d g).cred.noEvents = s.cred.noEvents :=
  (State.modDomain_sameBut _ _).noEvents
@[simp] theorem State.queueDomain_noEvents (d : Domain) : (s.queueDomain d).cred.noEvents = s.cred.noEvents :=
  (State.queueDomain_sameBut _).noEvents
@[simp] theorem State.startLockout_noEvents (d : Domain) : (s.startLockout d).cred.noEvents = s.cred.noEvents :=
  (State.startLockout_sameBut _).noEvents
@[simp] theorem State.bruteForce_noEvents (d : Domain) : (s.bruteForce d).cred.noEvents = s.cred.noEvents :=
  (State.bruteForce_sameBut _).noEvents
@[simp] theorem State.wipeDone_noEvents (d : Domain) : (s.wipeDone d).cred.noEvents = s.cred.noEvents :=
  (State.wipeDone_sameBut _).noEvents
@[simp] theorem State.tickDomain_noEvents (d : Domain) : (s.tickDomain d).cred.noEvents = s.cred.noEvents :=
  (State.tickDomain_sameBut _).noEvents
@[simp] theorem State.takeTicks_noEvents : (s.takeTicks).cred.noEvents = s.cred.noEvents := State.takeTicks_sameBut.noEvents
@[simp] theorem State.lockoutRelease_noEvents : (s.lockoutRelease).cred.noEvents = s.cred.noEvents :=
  State.lockoutRelease_sameBut.noEvents
@[simp] theorem State.examine_noEvents (d : Domain) : ((s.examine d).1).cred.noEvents = s.cred.noEvents :=
  (State.examine_sameBut _).noEvents
@[simp] theorem State.engineAsk_noEvents : (s.engineAsk).cred.noEvents = s.cred.noEvents := State.engineAsk_sameBut.noEvents
@[simp] theorem State.engineRun_noEvents : (s.engineRun).cred.noEvents = s.cred.noEvents := State.engineRun_sameBut.noEvents
@[simp] theorem State.engineStops_noEvents : (s.engineStops).cred.noEvents = s.cred.noEvents :=
  State.engineStops_sameBut.noEvents
@[simp] theorem State.applyReply_noEvents (v : Vol) (b : Bool) (o : StripeOutcome) :
    (s.applyReply v b o).cred.noEvents = s.cred.noEvents :=
  (State.applyReply_sameBut _ _ _).noEvents
@[simp] theorem State.dueCheckpoint_noEvents (v : Vol) : (s.dueCheckpoint v).cred.noEvents = s.cred.noEvents :=
  (State.dueCheckpoint_sameBut _).noEvents
@[simp] theorem State.accept_noEvents (x : AcceptSource) (w : Bool) (p : Plan) (l : List Vol) :
    (s.accept x w p l).cred.noEvents = s.cred.noEvents :=
  (State.accept_sameBut _ _ _ _).noEvents
@[simp] theorem State.abortFrom_noEvents (r : Request) (n : Nat) (a : Action) (l : List Vol) :
    (s.abortFrom r n a l).cred.noEvents = s.cred.noEvents :=
  (State.abortFrom_sameBut _ _ _ _).noEvents
@[simp] theorem State.handOrphans_noEvents : (s.handOrphans).cred.noEvents = s.cred.noEvents :=
  State.handOrphans_sameBut.noEvents
@[simp] theorem State.replyTaken_noEvents (v : Vol) : (s.replyTaken v).cred.noEvents = s.cred.noEvents :=
  (State.replyTaken_sameBut _).noEvents
@[simp] theorem State.setHold_noEvents (b : Bool) (g : Erase → Erase) : (s.setHold b g).cred.noEvents = s.cred.noEvents :=
  (State.setHold_sameBut _ _).noEvents
@[simp] theorem State.clearHold_noEvents (g : Erase → Erase) : (s.clearHold g).cred.noEvents = s.cred.noEvents :=
  (State.clearHold_sameBut _).noEvents
@[simp] theorem State.linkFaulted_noEvents : (s.linkFaulted).cred.noEvents = s.cred.noEvents :=
  State.linkFaulted_sameBut.noEvents
@[simp] theorem State.extentLost_noEvents (v : Vol) : (s.extentLost v).cred.noEvents = s.cred.noEvents :=
  (State.extentLost_sameBut _).noEvents

@[simp] theorem State.acceptKey_noEvents (x : Key) : (s.acceptKey x).cred.noEvents = s.cred.noEvents := by
  unfold State.acceptKey
  extract_lets y t t'
  split_ifs <;> simp [t, t']

@[simp] theorem State.giveHold_noEvents (x : Key) :
    (s.giveHold x).cred.noEvents = s.cred.noEvents := by simp [State.giveHold]

@[simp] theorem State.giveChord_noEvents : s.giveChord.cred.noEvents = s.cred.noEvents := by simp [State.giveChord]

@[simp] theorem State.catchUp_noEvents : s.catchUp.cred.noEvents = s.cred.noEvents := by
  have fold (l : List Key) (t : State) :
      (l.foldl (fun t x => if t.keyDue x then t.acceptKey x else t) t).cred.noEvents = t.cred.noEvents := by
    induction l generalizing t with
    | nil => rfl
    | cons x l ih => rw [List.foldl_cons, ih]; split_ifs <;> simp
  unfold State.catchUp
  extract_lets t u v
  have hu : u.cred.noEvents = s.cred.noEvents := by unfold u; split_ifs <;> simp [t, fold]
  have hv : v.cred.noEvents = s.cred.noEvents := by unfold v; split_ifs <;> simp [hu]
  split_ifs <;> simp [hv]

@[simp] theorem State.keyScan_noEvents (levels : BitVec 12) : (s.keyScan levels).cred.noEvents = s.cred.noEvents := by
  unfold State.keyScan
  split_ifs <;> simp

@[simp] theorem State.entryDigit_noEvents (d : Digit) (n ms : Nat) :
    (s.entryDigit d n ms).cred.noEvents = s.cred.noEvents := by
  unfold State.entryDigit
  split_ifs <;> simp

@[simp] theorem State.digitPress_noEvents (d : Digit) (n : Nat) : (s.digitPress d n).cred.noEvents = s.cred.noEvents := by
  unfold State.digitPress
  split
  · split_ifs <;> simp
  all_goals simp

@[simp] theorem State.discard_noEvents (o : OneShot) :
    (s.discard o).cred.noEvents = s.cred.noEvents := by simp [State.discard]

@[simp] theorem State.enterDigits_noEvents : s.enterDigits.cred.noEvents = s.cred.noEvents := by
  unfold State.enterDigits; split_ifs <;> simp

@[simp] theorem State.enterRecovery_noEvents : s.enterRecovery.cred.noEvents = s.cred.noEvents := by
  unfold State.enterRecovery; split_ifs <;> simp

@[simp] theorem State.enterFirst_noEvents : s.enterFirst.cred.noEvents = s.cred.noEvents := by
  unfold State.enterFirst; split_ifs <;> simp

@[simp] theorem State.enterSecond_noEvents : s.enterSecond.cred.noEvents = s.cred.noEvents := by
  unfold State.enterSecond; split_ifs <;> simp

@[simp] theorem State.enterPress_noEvents : s.enterPress.cred.noEvents = s.cred.noEvents := by
  unfold State.enterPress; split <;> simp

@[simp] theorem State.enterHold_noEvents : s.enterHold.cred.noEvents = s.cred.noEvents := by
  unfold State.enterHold
  split
  · split_ifs <;> simp
  all_goals simp

@[simp] theorem State.clearIdle_noEvents : s.clearIdle.cred.noEvents = s.cred.noEvents := by
  unfold State.clearIdle; split_ifs <;> simp

@[simp] theorem State.leaveStage_noEvents (why : EarlyEnd) : (s.leaveStage why).cred.noEvents = s.cred.noEvents := by
  simp [State.leaveStage]

@[simp] theorem State.clearEvent_noEvents : s.clearEvent.cred.noEvents = s.cred.noEvents := by
  unfold State.clearEvent; split <;> simp

@[simp] theorem State.chordEvent_noEvents : s.chordEvent.cred.noEvents = s.cred.noEvents := by
  unfold State.chordEvent; split <;> simp

@[simp] theorem State.enrollOrder_noEvents : s.enrollOrder.cred.noEvents = s.cred.noEvents := by simp [State.enrollOrder]

@[simp] theorem State.outcome_noEvents (b : Bool) : (s.outcome b).cred.noEvents = s.cred.noEvents := by
  unfold State.outcome; split_ifs <;> simp

@[simp] theorem State.returnIdle_noEvents (b : Bool) : (s.returnIdle b).cred.noEvents = s.cred.noEvents := by
  unfold State.returnIdle; split_ifs <;> simp

@[simp] theorem State.charge_noEvents (d : Domain) : (s.charge d).cred.noEvents = s.cred.noEvents := by
  unfold State.charge; extract_lets t; split_ifs <;> simp [t]

@[simp] theorem State.matchOutcome_noEvents (d : Domain) : (s.matchOutcome d).cred.noEvents = s.cred.noEvents := by
  simp [State.matchOutcome, State.refreshEntry]

@[simp] theorem State.noMatchOutcome_noEvents (d : Domain) : (s.noMatchOutcome d).cred.noEvents = s.cred.noEvents := by
  unfold State.noMatchOutcome; extract_lets x; split_ifs <;> simp [State.refreshEntry]

@[simp] theorem State.examined_noEvents : s.examined.cred.noEvents = s.cred.noEvents := by simp [State.examined]

@[simp] theorem State.examineThen_noEvents (d : Domain) (k : State → State) (h : ∀ t, (k t).cred.noEvents = t.cred.noEvents) :
    (s.examineThen d k).cred.noEvents = s.cred.noEvents := by
  unfold State.examineThen; extract_lets r; split_ifs <;> simp [r, h]

@[simp] theorem State.examineAfter_noEvents (d : Domain) : (s.examineAfter d).cred.noEvents = s.cred.noEvents := by
  cases d <;> simp [State.examineAfter]

@[simp] theorem State.acceptanceDone_noEvents (d : Domain) : (s.acceptanceDone d).cred.noEvents = s.cred.noEvents := by
  unfold State.acceptanceDone; extract_lets t u; split_ifs <;> simp [u, t, State.refreshEntry]

@[simp] theorem State.takeAcceptance_noEvents (d : Domain) : (s.takeAcceptance d).cred.noEvents = s.cred.noEvents := by
  unfold State.takeAcceptance; split_ifs <;> simp

@[simp] theorem State.factoryClear_noEvents : s.factoryClear.cred.noEvents = s.cred.noEvents := by
  unfold State.factoryClear; extract_lets was t u; split_ifs <;> simp [u, t]

@[simp] theorem State.unlessHalted_noEvents (g : State → State) (h : ∀ t, (g t).cred.noEvents = t.cred.noEvents) :
    (s.unlessHalted g).cred.noEvents = s.cred.noEvents := by
  unfold State.unlessHalted; split_ifs <;> simp [h]

@[simp] theorem State.eraseRequest_noEvents (r : Request) : (s.eraseRequest r).cred.noEvents = s.cred.noEvents := by
  unfold State.eraseRequest
  extract_lets mask
  split
  · simp
  · split_ifs <;> simp

@[simp] theorem State.pauseRequest_noEvents (r : Request) : (s.pauseRequest r).cred.noEvents = s.cred.noEvents := by
  unfold State.pauseRequest
  split_ifs
  · simp
  · split
    · simp
    · split_ifs <;> simp

@[simp] theorem State.resumeRequest_noEvents (r : Request) : (s.resumeRequest r).cred.noEvents = s.cred.noEvents := by
  simp [State.resumeRequest]

@[simp] theorem State.abortRequest_noEvents (r : Request) : (s.abortRequest r).cred.noEvents = s.cred.noEvents := by
  unfold State.abortRequest
  extract_lets t
  split_ifs <;> simp [t, State.abortEntries, State.withdrawCommand]

@[simp] theorem State.stripeGranted_noEvents : s.stripeGranted.cred.noEvents = s.cred.noEvents := by
  unfold State.stripeGranted
  split
  · simp
  · split
    · simp
    · split
      · simp
      · split_ifs <;> simp

@[simp] theorem State.stripeReply_noEvents (o : StripeOutcome) : (s.stripeReply o).cred.noEvents = s.cred.noEvents := by
  unfold State.stripeReply
  split
  · rfl
  · split_ifs <;> simp

@[simp] theorem State.awaitedReply_noEvents : s.awaitedReply.cred.noEvents = s.cred.noEvents := by
  unfold State.awaitedReply
  split
  · extract_lets t u
    split_ifs <;> simp [u, t]
  · rfl

@[simp] theorem State.awaitedFault_noEvents : s.awaitedFault.cred.noEvents = s.cred.noEvents := by
  unfold State.awaitedFault
  split_ifs
  · split <;> simp
  · rfl

@[simp] theorem State.raiseWarning_noEvents : s.raiseWarning.cred.noEvents = s.cred.noEvents := by simp [State.raiseWarning]

@[simp] theorem State.leaveStarting_noEvents : s.leaveStarting.cred.noEvents = s.cred.noEvents := by
  unfold State.leaveStarting
  extract_lets t u v w x
  have hw : w.cred.noEvents = s.cred.noEvents := by unfold w; split_ifs <;> simp [v, u, t]
  split_ifs <;> simp [x, hw]

@[simp] theorem State.endStarting_noEvents : s.endStarting.cred.noEvents = s.cred.noEvents := by
  unfold State.endStarting; split_ifs <;> simp

@[simp] theorem State.quietLink_noEvents (b : Bool) :
    (s.quietLink b).cred.noEvents = s.cred.noEvents := by simp [State.quietLink]

@[simp] theorem State.dropKeys_noEvents : s.dropKeys.cred.noEvents = s.cred.noEvents := rfl

@[simp] theorem State.warnKeypad_noEvents : s.warnKeypad.cred.noEvents = s.cred.noEvents := by
  unfold State.warnKeypad; extract_lets t; split <;> simp [t]

@[simp] theorem State.recoverLink_noEvents : s.recoverLink.cred.noEvents = s.cred.noEvents := by
  unfold State.recoverLink; extract_lets t; split_ifs <;> simp [t]

@[simp] theorem State.haltLockout_noEvents : s.haltLockout.cred.noEvents = s.cred.noEvents := by
  unfold State.haltLockout; extract_lets t; split <;> simp [t]

@[simp] theorem State.haltKeypad_noEvents : s.haltKeypad.cred.noEvents = s.cred.noEvents := by simp [State.haltKeypad]

@[simp] theorem State.haltEngine_noEvents : s.haltEngine.cred.noEvents = s.cred.noEvents := by
  unfold State.haltEngine; cases s.erase.job.request <;> simp

@[simp] theorem State.engineHot_noEvents : s.engineHot.cred.noEvents = s.cred.noEvents := by simp [State.engineHot]

@[simp] theorem State.writeWord_noEvents (a : Nat) (w : Word) : (s.writeWord a w).cred.noEvents = s.cred.noEvents := by
  unfold State.writeWord; split_ifs <;> simp

@[simp] theorem State.factoryDone_noEvents : s.factoryDone.cred.noEvents = s.cred.noEvents := by
  unfold State.factoryDone; split_ifs <;> simp

@[simp] theorem State.chargeDone_noEvents : s.chargeDone.cred.noEvents = s.cred.noEvents := by
  unfold State.chargeDone; split <;> simp [State.refreshEntry]

@[simp] theorem State.policyDone_noEvents : s.policyDone.cred.noEvents = s.cred.noEvents := by
  unfold State.policyDone; split <;> simp

theorem State.takeKey_noEvents {act : KeyEvent → Option (State → State)}
    (h : ∀ e g, act e = some g → ∀ t, (g t).cred.noEvents = t.cred.noEvents) : (s.takeKey act).cred.noEvents = s.cred.noEvents := by
  unfold State.takeKey
  split
  · split
    · rfl
    · split
      · rfl
      · rename_i g hg
        extract_lets t
        split_ifs <;> simp [t, h _ g hg]
  · rfl

theorem State.takeKeyOrder_noEvents {act : KeyOrder → Option (State → State)}
    (h : ∀ o g, act o = some g → ∀ t, (g t).cred.noEvents = t.cred.noEvents) :
    (s.takeKeyOrder act).cred.noEvents = s.cred.noEvents := by
  unfold State.takeKeyOrder
  split_ifs
  · split
    · rfl
    · split
      · rename_i g hg
        extract_lets u
        split_ifs <;> simp [u, h _ g hg]
      · rfl
  · rfl

theorem State.takeLock_noEvents {act : LockEvent → Option (State → State)}
    (h : ∀ e g, act e = some g → ∀ t, (g t).cred.noEvents = t.cred.noEvents) : (s.takeLock act).cred.noEvents = s.cred.noEvents := by
  unfold State.takeLock State.takeNextLock
  split_ifs
  · split
    · simp
    · split
      · rename_i g hg; simp [h _ g hg]
      · simp
  · simp
  · rfl

theorem State.takeEvent_noEvents {act : EngineEvent → Option (State → State)}
    (h : ∀ e g, act e = some g → ∀ t, (g t).cred.noEvents = t.cred.noEvents) : (s.takeEvent act).cred.noEvents = s.cred.noEvents := by
  obtain e | ⟨e, rest, g, -, -, -, hg, e'⟩ := State.takeEvent_cases (s := s) act
  · rw [e]
  · simp [e', h _ g hg]

theorem State.expire_noEvents {mine : Assembler → Bool} {act : State → State} (h : ∀ t, (act t).cred.noEvents = t.cred.noEvents) :
    (s.expire mine act).cred.noEvents = s.cred.noEvents := by
  unfold State.expire
  split_ifs
  · refine State.takeKeyOrder_noEvents ?_
    rintro o g hg u
    split_ifs at hg
    cases hg
    dsimp only
    split_ifs <;> simp [h]
  · simp [h]
  · simp
  · rfl

/-- A signal that is taken leaves the credential unit but for its events. -/
theorem State.takeSignal_noEvents {b : Block} {x : Signal} (h : s.takeSignal b x = some t) : t.cred.noEvents = s.cred.noEvents :=
  (State.takeSignal_sameBut h).noEvents


/-! ### The guard and the sector path -/

@[simp] theorem State.reportVolumes_noEvents : s.reportVolumes.cred.noEvents = s.cred.noEvents :=
  State.reportVolumes_sameBut.noEvents
@[simp] theorem State.lockSet_noEvents (m : VolSet) : (s.lockSet m).cred.noEvents = s.cred.noEvents :=
  (State.lockSet_sameBut m).noEvents
@[simp] theorem State.lockVolume_noEvents (v : Vol) : (s.lockVolume v).cred.noEvents = s.cred.noEvents :=
  (State.lockVolume_sameBut v).noEvents
@[simp] theorem State.modVol_noEvents (v : Vol) (g : Volume → Volume) :
    (s.modVol v g).cred.noEvents = s.cred.noEvents := rfl
@[simp] theorem State.openVolume_noEvents (v : Vol) (k : MediaKey) (i : CSlot) (b : Bool) :
    (s.openVolume v k i b).cred.noEvents = s.cred.noEvents := (State.openVolume_sameBut v k i b).noEvents

@[simp] theorem State.faultOrder_noEvents (v : Vol) : (s.faultOrder v).cred.noEvents = s.cred.noEvents := by
  unfold State.faultOrder
  split_ifs
  · simp [(State.faultVolume_sameBut (s := s) v).noEvents]
  · rfl
@[simp] theorem State.volumeRetired_noEvents (v : Vol) (b : Bool) :
    (s.volumeRetired v b).cred.noEvents = s.cred.noEvents := (State.volumeRetired_sameBut v b).noEvents

@[simp] theorem State.startErasing_noEvents (v : Vol) : (s.startErasing v).cred.noEvents = s.cred.noEvents := by
  simp [State.startErasing, (State.enterVolume_sameBut v).noEvents]
@[simp] theorem State.eraseAcceptance_noEvents (v : Vol) : (s.eraseAcceptance v).cred.noEvents = s.cred.noEvents := by
  unfold State.eraseAcceptance
  by_cases halted : s.device = .halted
  · rw [if_pos halted]
  · rw [if_neg halted]
    cases s.extentClear v <;> split <;> simp [State.retire]
@[simp] theorem State.volumeEnded_noEvents (v : Vol) : (s.volumeEnded v).cred.noEvents = s.cred.noEvents :=
  (State.volumeEnded_sameBut v).noEvents

@[simp] theorem State.eraseEndOrder_noEvents (v : Vol) (x : EraseResult) (n : Nat) :
    (s.eraseEndOrder v x n).cred.noEvents = s.cred.noEvents := by
  unfold State.eraseEndOrder; split_ifs <;> simp
@[simp] theorem State.capacityReport_noEvents (cap : BitVec 32) (ef ed : BitVec 16) :
    (s.capacityReport cap ef ed).cred.noEvents = s.cred.noEvents := (State.capacityReport_sameBut cap ef ed).noEvents
@[simp] theorem State.idleExpired_noEvents (v : Vol) : (s.idleExpired v).cred.noEvents = s.cred.noEvents :=
  (State.idleExpired_sameBut v).noEvents

@[simp] theorem State.lockRequest_noEvents (r : Request) : (State.lockRequest r s).cred.noEvents = s.cred.noEvents := by
  unfold State.lockRequest; extract_lets mask locked t; split_ifs <;> simp [t]
@[simp] theorem State.endSector_noEvents (st : Status) : (s.endSector st).cred.noEvents = s.cred.noEvents :=
  (State.endSector_sameBut st).noEvents
@[simp] theorem State.stopSector_noEvents (st : Status) : (s.stopSector st).cred.noEvents = s.cred.noEvents :=
  (State.stopSector_sameBut st).noEvents

@[simp] theorem State.applyDecision_noEvents (r : Request) : (s.applyDecision r).cred.noEvents = s.cred.noEvents := by
  unfold State.applyDecision
  split
  · simp
  · split
    · simp [State.askSector_sameBut.noEvents, (State.activate_sameBut r _).noEvents, (State.reloadIdle_sameBut _).noEvents]
    · rfl

@[simp] theorem State.decideSector_noEvents (r : Request) : (s.decideSector r).cred.noEvents = s.cred.noEvents := by
  unfold State.decideSector
  split
  · split_ifs
    · rfl
    · extract_lets t; split_ifs <;> simp [t, State.enterDeciding]
  · split_ifs <;> simp
  all_goals rfl

@[simp] theorem State.beginSector_noEvents (k : Kind) : (s.beginSector k).cred.noEvents = s.cred.noEvents := by
  unfold State.beginSector
  split_ifs
  · split
    · split_ifs <;> simp
    · rfl
  · rfl

@[simp] theorem State.checkSector_noEvents : s.checkSector.cred.noEvents = s.cred.noEvents := by
  unfold State.checkSector
  split_ifs
  · unfold State.issueSector
    extract_lets t
    have staged : t.cred = s.cred := by
      change (if _ then _ else s).cred = _; split_ifs <;> rfl
    simp [(State.issue_sameBut _).noEvents, staged]
  · exact State.askSector_sameBut.noEvents
  · simp

@[simp] theorem State.sectorGranted_noEvents : s.sectorGranted.cred.noEvents = s.cred.noEvents := by
  unfold State.sectorGranted
  split
  · split_ifs <;> simp
  · split_ifs <;> simp
  all_goals rfl
@[simp] theorem State.commandFails_noEvents (f : InFlight) : (s.commandFails f).cred.noEvents = s.cred.noEvents :=
  (State.commandFails_sameBut f).noEvents

@[simp] theorem State.takeReply_noEvents (f : InFlight) (n : Nat) (r : Reply) :
    (s.takeReply f n r).cred.noEvents = s.cred.noEvents := by
  have media : (s.countMedia r).cred = s.cred := by unfold State.countMedia; split <;> rfl
  unfold State.takeReply
  split
  · unfold State.identReply; split <;> simp
  · simp [(State.sectorReply_sameBut r).noEvents, media]
  · simp [(State.stripeReplied_sameBut _).noEvents, media]

@[simp] theorem State.reissue_noEvents (f : InFlight) : (s.reissue f).cred.noEvents = s.cred.noEvents := by
  unfold State.reissue
  split_ifs
  · exact (State.giveUp_sameBut f).noEvents
  · rfl

@[simp] theorem State.endWaiting_noEvents (st : Status) (a b : Bool) :
    (s.endWaiting st a b).cred.noEvents = s.cred.noEvents := (State.endWaiting_sameBut st a b).noEvents

theorem State.takeOrder_noEvents {act : GuardOrder → Option (State → State)}
    (h : ∀ o g, act o = some g → ∀ t, (g t).cred.noEvents = t.cred.noEvents) :
    (s.takeOrder act).cred.noEvents = s.cred.noEvents := by
  obtain e | ⟨o, rest, g, -, -, -, hg, e⟩ := State.takeOrder_cases (s := s) act
  · rw [e]
  · simp [e, h _ g hg]

theorem State.takeGuardRequest_noEvents {k : Kind} {serve : Request → State → State}
    (h : ∀ r (t : State), (serve r t).cred.noEvents = t.cred.noEvents) :
    (s.takeGuardRequest k serve).cred.noEvents = s.cred.noEvents := by
  refine State.takeOrder_noEvents ?_
  rintro o g hg t
  split at hg
  · split_ifs at hg; cases hg
    dsimp only
    split_ifs <;> simp [h]
  · cases hg

/-! ### The commands that leave the credential unit as it was -/

/-- The commands of the volume guard, the sector path and the storage link. -/
def worksGuardOrLink : Instr → Bool
  | .criticalSignal _ | .readSectors | .writeSectors | .sectorGrant | .linkReply _ _ | .linkTimeout | .linkReissue => true
  | .lock | .openOrder | .faultOrder | .lockOrder | .eraseAcceptance | .eraseEnd | .capacityReport => true
  | .idleTimerExpiry _ => true
  | _ => false

/-- An outcome that is a next state. -/
theorem go_noEvents (h : go u = .next t) (k : u.cred.noEvents = s.cred.noEvents) : t.cred.noEvents = s.cred.noEvents := by
  cases h; exact k

/-- Those commands leave the credential unit as it was but for the events that wait. -/
theorem exec_noEvents_of_guardOrLink {c : Instr} (hc : worksGuardOrLink c = true) (h : exec c s = .next t) :
    t.cred.noEvents = s.cred.noEvents := by
  cases c with
  | criticalSignal b =>
    refine go_noEvents h ?_
    split_ifs
    · split
      · rename_i v hv
        rw [State.settle_noEvents, ← State.takeSignal_noEvents hv]
        cases b <;> simp [State.critical]
      · rfl
    · rfl
  | readSectors => exact go_noEvents h (by simp)
  | writeSectors => exact go_noEvents h (by simp)
  | sectorGrant => refine go_noEvents h ?_; split_ifs <;> simp
  | linkReply =>
    refine go_noEvents h ?_
    split_ifs
    · split
      · simp [State.countMalformed]
      · split_ifs <;> simp [State.countMalformed]
    · rfl
  | linkTimeout =>
    refine go_noEvents h ?_
    split_ifs
    · split
      · split_ifs <;> simp
      · rfl
    · rfl
  | linkReissue =>
    refine go_noEvents h ?_
    split_ifs
    · split
      · split_ifs <;> simp
      · rfl
    · rfl
  | lock => exact go_noEvents h (State.takeGuardRequest_noEvents fun _ _ => by simp)
  | openOrder =>
    refine go_noEvents h (State.takeOrder_noEvents ?_)
    rintro o g hg u; split at hg <;> cases hg; simp
  | faultOrder =>
    refine go_noEvents h (State.takeOrder_noEvents ?_)
    rintro o g hg u; split at hg <;> cases hg; simp
  | lockOrder =>
    refine go_noEvents h (State.takeOrder_noEvents ?_)
    rintro o g hg u; split at hg <;> cases hg; simp
  | eraseAcceptance =>
    refine go_noEvents h (State.takeOrder_noEvents ?_)
    rintro o g hg u; split at hg <;> cases hg; simp
  | eraseEnd =>
    refine go_noEvents h (State.takeOrder_noEvents ?_)
    rintro o g hg u; split at hg <;> cases hg; simp
  | capacityReport =>
    refine go_noEvents h (State.takeOrder_noEvents fun o g hg u => ?_)
    split at hg
    · rw [← Option.some.inj hg]
      exact State.capacityReport_noEvents _ _ _
    · cases hg
  | idleTimerExpiry v => refine go_noEvents h ?_; split_ifs <;> simp
  | _ => cases hc

/-- The commands that can change the credential unit in more than the events that wait: reset and start-up, the signals, the
queries of the window, the unit's own events and the answers of the store. -/
def worksCredentials : Instr → Bool
  | .resetAssert _ | .startUp _ | .powerLoss _ | .loadRecords => true
  | .warningTaken _ | .recoveryTaken _ | .haltOrder _ => true
  | .setPolicy | .cancel | .defineVolume | .deleteVolume | .erase | .pause | .resume | .abort => true
  | .enroll | .revoke | .entryHanded | .chargeCommitted | .derivationDone | .enrollEntry | .enrollEarlyEnd => true
  | .factoryRevocation | .windowTick | .windowExpiry | .windowClose | .wrapAndAdd | .removal | .commitDone _ => true
  | _ => false

/-- The commands that do not concern the credential unit leave it as it was but for the events that wait. -/
theorem exec_noEvents {c : Instr} (hc : worksCredentials c = false) (h : exec c s = .next t) :
    t.cred.noEvents = s.cred.noEvents := by
  by_cases hg : worksGuardOrLink c = true
  · exact exec_noEvents_of_guardOrLink hg h
  cases c with
  | resetAssert | startUp | powerLoss | loadRecords | warningTaken | recoveryTaken | haltOrder | setPolicy | cancel
  | defineVolume | deleteVolume | erase | pause | resume | abort | enroll | revoke | entryHanded | chargeCommitted
  | derivationDone | enrollEntry | enrollEarlyEnd | factoryRevocation | windowTick | windowExpiry | windowClose | wrapAndAdd
  | removal | commitDone => cases hc
  | orphanCheck =>
    refine go_noEvents h ((State.takeEvent_noEvents ?_).trans ?_)
    · rintro e g hg u; split at hg <;> cases hg
      dsimp only; split_ifs <;> simp
    · split_ifs <;> simp
  | lockoutExamination => refine go_noEvents h ?_; split_ifs <;> simp
  | startUpIdent => refine go_noEvents h ?_; split_ifs <;> simp
  | leaveStarting => refine go_noEvents h ?_; split_ifs <;> simp
  | supplyWarning =>
    refine go_noEvents h ?_
    split_ifs
    · split <;> simp
    · rfl
  | supplyRise => refine go_noEvents h ?_; split_ifs <;> simp
  | supplyRecovery => refine go_noEvents h ?_; split_ifs <;> simp
  | portWordWrite => refine go_noEvents h ?_; split_ifs <;> simp
  | attnWrite => refine go_noEvents h ?_; split_ifs <;> simp
  | attnLvlWrite => refine go_noEvents h ?_; split_ifs <;> simp
  | scanWrite => refine go_noEvents h ?_; split_ifs <;> simp
  | scanCfgWrite => refine go_noEvents h ?_; split_ifs <;> simp
  | registerWriteOther => exact go_noEvents h rfl
  | scanTimerExpiry => refine go_noEvents h ?_; split_ifs <;> simp
  | identify =>
    refine go_noEvents h ?_
    split_ifs
    · split <;> simp
    · rfl
  | probe => refine go_noEvents h ?_; split_ifs <;> simp
  | stripeGrant =>
    refine go_noEvents h (State.takeEvent_noEvents ?_)
    rintro e g hg u; split at hg <;> cases hg
    dsimp only; split_ifs <;> simp
  | stripeReply =>
    refine go_noEvents h ?_
    split_ifs
    · simp
    · rfl
    · refine State.takeEvent_noEvents ?_
      rintro e g hg u; split at hg <;> cases hg; simp
  | wipeTrigger =>
    refine go_noEvents h (State.takeEvent_noEvents ?_)
    rintro e g hg u; split at hg <;> cases hg <;> (dsimp only; split_ifs <;> simp)
  | factoryChord =>
    refine go_noEvents h (State.takeEvent_noEvents ?_)
    rintro e g hg u; split at hg <;> cases hg
    dsimp only; split_ifs <;> simp
  | linkFaultReport =>
    refine go_noEvents h ?_
    split_ifs
    · simp
    · rfl
    · refine State.takeEvent_noEvents ?_
      rintro e g hg u; split at hg <;> cases hg; simp
  | linkReturn =>
    refine go_noEvents h (State.takeEvent_noEvents ?_)
    rintro e g hg u; split at hg <;> cases hg; simp
  | extentLost =>
    refine go_noEvents h (State.takeEvent_noEvents ?_)
    rintro e g hg u; split at hg <;> cases hg
    dsimp only; split_ifs <;> simp
  | temperatureSample => refine go_noEvents h ?_; split_ifs <;> simp
  | hotSignal =>
    refine go_noEvents h ?_
    split_ifs
    · split
      · rename_i v hv; simp [State.takeSignal_noEvents hv]
      · rfl
    · rfl
  | releaseSignal b =>
    refine go_noEvents h ?_
    split_ifs
    · split
      · rename_i v hv
        rw [State.settle_noEvents, ← State.takeSignal_noEvents hv]
        cases b <;> simp [State.release]
      · rfl
    · rfl
  | charge =>
    refine go_noEvents h (State.takeLock_noEvents ?_)
    rintro e g hg u; split at hg <;> cases hg; simp
  | matchReport =>
    refine go_noEvents h (State.takeLock_noEvents ?_)
    rintro e g hg u; split at hg <;> cases hg; simp
  | noMatchReport =>
    refine go_noEvents h (State.takeLock_noEvents ?_)
    rintro e g hg u; split at hg <;> cases hg; simp
  | acceptanceComplete =>
    refine go_noEvents h ?_
    split
    · split_ifs <;> simp
    · refine State.takeLock_noEvents ?_
      rintro e g hg u; split_ifs at hg; cases hg; rfl
  | lockoutTick => refine go_noEvents h ?_; split_ifs <;> simp
  | lockoutEnd => refine go_noEvents h ?_; split_ifs <;> simp [State.refreshEntry]
  | factoryOrder =>
    refine go_noEvents h (State.takeLock_noEvents ?_)
    rintro e g hg u; split at hg <;> cases hg; simp
  | keyScan => refine go_noEvents h ?_; split_ifs <;> simp
  | keyAccepted => refine go_noEvents h ?_; split_ifs <;> simp
  | hold => refine go_noEvents h ?_; split_ifs <;> simp
  | chord => refine go_noEvents h ?_; split_ifs <;> simp
  | digitPress =>
    refine go_noEvents h (State.settle_noEvents.trans (State.takeKey_noEvents ?_))
    rintro e g hg u; split at hg <;> cases hg; simp
  | enterPress =>
    refine go_noEvents h (State.settle_noEvents.trans (State.takeKey_noEvents ?_))
    rintro e g hg u; split at hg <;> cases hg; simp
  | enterHold =>
    refine go_noEvents h (State.settle_noEvents.trans (State.takeKey_noEvents ?_))
    rintro e g hg u; split at hg <;> cases hg; simp
  | clearPress =>
    refine go_noEvents h (State.settle_noEvents.trans (State.takeKey_noEvents ?_))
    rintro e g hg u; split at hg <;> cases hg; simp
  | clearHold =>
    refine go_noEvents h (State.settle_noEvents.trans (State.takeKey_noEvents ?_))
    rintro e g hg u; split at hg <;> cases hg; simp
  | chordTaken =>
    refine go_noEvents h (State.settle_noEvents.trans (State.takeKey_noEvents ?_))
    rintro e g hg u; split at hg <;> cases hg; simp
  | entryTimeout => exact go_noEvents h (State.expire_noEvents fun t => by split_ifs <;> simp)
  | stageTimeout => exact go_noEvents h (State.expire_noEvents fun t => by simp)
  | enrollOrder =>
    refine go_noEvents h (State.takeKeyOrder_noEvents ?_)
    rintro e g hg u; split at hg <;> cases hg; simp
  | outcomeReport =>
    refine go_noEvents h (State.takeKeyOrder_noEvents ?_)
    rintro e g hg u; split at hg <;> cases hg; simp
  | returnToIdle =>
    refine go_noEvents h (State.takeKeyOrder_noEvents ?_)
    rintro e g hg u; split at hg <;> cases hg; simp
  | flashEnd => refine go_noEvents h ?_; split_ifs <;> simp
  | indicatorPhase => refine go_noEvents h ?_; split_ifs <;> simp [State.nextPhase]
  | _ => exact absurd rfl hg

end Sys2Proof.Machine
end

section
namespace Sys2Proof.Machine
set_option Elab.async false
variable {s t u : State} {ps : List Part}

/-! ### The two laws of the credential unit (R36, R29) -/

/-- The two laws of the unit, each kept from one state of it to the next: the key register is zero while the window is CLOSED, and
not both a verification and an enrollment are in progress. -/
def Credential.lawsKept (c d : Credential) : Prop :=
  ((c.window = none → c.adminKey = 0) → d.window = none → d.adminKey = 0) ∧
    (c.verify = none ∨ c.enroll = none → d.verify = none ∨ d.enroll = none)

/-- A step that keeps both laws. -/
def State.lawsKept (s t : State) : Prop := s.cred.lawsKept t.cred

theorem State.windowOk_iff : s.windowOk = true ↔ (s.cred.window = none → s.cred.adminKey = 0) := by
  cases h : s.cred.window <;> simp [State.windowOk, h]

theorem State.workOk_iff : s.workOk = true ↔ s.cred.verify = none ∨ s.cred.enroll = none := by
  simp [State.workOk]

theorem State.lawsKept.refl : s.lawsKept s := ⟨id, id⟩

theorem State.lawsKept.trans (h : s.lawsKept t) (k : t.lawsKept u) : s.lawsKept u :=
  ⟨fun w => k.1 (h.1 w), fun w => k.2 (h.2 w)⟩

/-- A unit that differs in its events alone keeps them. -/
theorem State.lawsKept_of_noEvents (h : t.cred.noEvents = s.cred.noEvents) : s.lawsKept t := by
  simp only [Credential.noEvents, Credential.mk.injEq] at h
  obtain ⟨-, window, key, -, verify, enroll, -⟩ := h
  simp [State.lawsKept, Credential.lawsKept, window, key, verify, enroll]

/-- A frame without the window and the work keeps them. -/
theorem State.sameBut.lawsKept (h : s.sameBut ps t) (w : ps.contains .window = false := by decide)
    (w' : ps.contains .credWork = false := by decide) : s.lawsKept t := by
  obtain ⟨window, key⟩ := State.sameBut_agree h .window w
  obtain ⟨verify, enroll⟩ := State.sameBut_agree h .credWork w'
  simp [State.lawsKept, Credential.lawsKept, window, key, verify, enroll]

/-- A change that leaves the window OPEN and the work as it was. -/
theorem State.lawsKept_of_open {w : Window} (open_ : t.cred.window = some w) (verify : t.cred.verify = s.cred.verify)
    (enroll : t.cred.enroll = s.cred.enroll) : s.lawsKept t := by
  simp [State.lawsKept, Credential.lawsKept, open_, verify, enroll]

/-- A section shown changes neither. -/
theorem State.refresh_lawsKept (h : s.lawsKept t) (x : Section) : s.lawsKept (t.refresh x) := by
  cases x <;> exact h.trans (State.refresh_sameBut _).lawsKept

/-- A change of the unit alone, by what it does to the window, the key and the work. -/
theorem State.modCred_lawsKept {g : Credential → Credential} (h : s.cred.lawsKept (g s.cred)) : s.lawsKept (s.modCred g) := h

/-- A chain of changes, each of which keeps them. -/
theorem foldl_lawsKept {α : Type} {f : State → α → State} (h : ∀ (t : State) (x : α), t.lawsKept (f t x)) (l : List α) :
    s.lawsKept (l.foldl f s) := by
  induction l generalizing s with
  | nil => exact State.lawsKept.refl
  | cons x l ih => exact (h s x).trans ih

/-! ### The unit's operations keep the laws -/

theorem State.openWindow_lawsKept (i : CSlot) (k : Kek) : s.lawsKept (s.openWindow i k) := by
  unfold State.openWindow
  refine State.refresh_lawsKept ?_ .window
  exact State.lawsKept_of_open (w := ⟨i, windowSeconds, false⟩) rfl rfl rfl

theorem State.shutWindow_lawsKept : s.lawsKept s.shutWindow := by
  unfold State.shutWindow
  split_ifs
  · exact (State.modCred_lawsKept ⟨fun _ _ => rfl, id⟩).trans (State.refresh_sameBut .window).lawsKept
  · exact State.lawsKept.refl

theorem State.rearmWindow_lawsKept (g : Bool → Bool) : s.lawsKept (s.rearmWindow g) :=
  (State.modCred_lawsKept ⟨fun h closed => h (Option.map_eq_none_iff.1 closed), id⟩).trans
    (State.refresh_sameBut .window).lawsKept

theorem State.authorize_lawsKept (h : s.authorize = some t) : s.lawsKept t := by
  unfold State.authorize at h
  split_ifs at h
  cases h
  exact State.rearmWindow_lawsKept id

theorem State.endEnroll_lawsKept (st : Status) (l : List Byte) (k : KeypadEnd) : s.lawsKept (s.endEnroll st l k) := by
  unfold State.endEnroll
  split
  · exact State.lawsKept.refl
  · have ended : s.lawsKept (s.modCred fun c => { c.noDerivation with enroll := none }) := ⟨id, fun _ => .inr rfl⟩
    refine ended.trans ?_
    exact ((State.rearmWindow_lawsKept _).trans (State.endKeypad_sameBut k).lawsKept).trans
      (State.complete_sameBut _ _ _ _).lawsKept

theorem State.stopEnroll_lawsKept (st : Status) (k : KeypadEnd) : s.lawsKept (s.stopEnroll st k) := by
  unfold State.stopEnroll
  split
  · exact State.lawsKept.refl
  · split_ifs
    · exact State.lawsKept.refl
    · exact State.endEnroll_lawsKept st [] k

theorem State.closeWindow_lawsKept : s.lawsKept s.closeWindow := by
  unfold State.closeWindow
  split_ifs
  · split
    · exact State.shutWindow_lawsKept
    · split_ifs
      · exact State.shutWindow_lawsKept
      · exact State.shutWindow_lawsKept.trans (State.stopEnroll_lawsKept _ _)
  · exact State.lawsKept.refl

theorem State.windowTick_lawsKept : s.lawsKept s.windowTick := by
  unfold State.windowTick
  split
  · exact State.lawsKept.refl
  · rename_i w _
    split_ifs
    · exact State.lawsKept.refl
    · exact State.closeWindow_lawsKept
    · refine State.refresh_lawsKept ?_ .window
      exact State.lawsKept_of_open (w := { w with left := w.left - 1 }) rfl rfl rfl

theorem State.windowTicks_lawsKept (n : Nat) (s : State) : s.lawsKept (State.windowTicks n s) := by
  induction n generalizing s with
  | zero => exact State.lawsKept.refl
  | succ n ih =>
    unfold State.windowTicks
    split_ifs
    · exact ((State.popCred_sameBut.lawsKept.trans State.windowTick_lawsKept).trans State.settle_sameBut.lawsKept).trans (ih _)
    · exact State.lawsKept.refl

theorem State.takeWindowTicks_lawsKept : s.lawsKept s.takeWindowTicks := State.windowTicks_lawsKept _ s

theorem State.beforeQuery_lawsKept (b : Bool) : s.lawsKept (s.beforeQuery b) := by
  unfold State.beforeQuery
  split_ifs
  · exact State.takeWindowTicks_lawsKept
  · exact State.lawsKept.refl

theorem State.endVerify_lawsKept : s.lawsKept s.endVerify := State.modCred_lawsKept ⟨id, fun _ => .inl rfl⟩

theorem State.noMatch_lawsKept (d : Domain) : s.lawsKept (s.noMatch d) :=
  (State.endVerify_lawsKept.trans (State.tellLockout_sameBut _).lawsKept).trans (State.tellKeypad_sameBut _).lawsKept

/-- A change of the verification in progress alone. -/
theorem State.setVerify_lawsKept {v : Verification} (h : s.cred.verify = some v) (w : Verification) :
    s.lawsKept (s.modCred fun c => { c with verify := some w }) :=
  State.modCred_lawsKept ⟨id, fun work => .inr (work.resolve_left (by simp [h]))⟩

/-- A change of the enrollment in progress alone. -/
theorem State.setEnroll_lawsKept {e : Enrollment} (h : s.cred.enroll = some e) (x : Enrollment) :
    s.lawsKept (s.modCred fun c => { c with enroll := some x }) :=
  State.modCred_lawsKept ⟨id, fun work => .inl (work.resolve_right (by simp [h]))⟩

theorem State.searchFrom_lawsKept {v : Verification} (h : s.cred.verify = some v) (w : Verification) (i : Nat) :
    s.lawsKept (s.searchFrom w i) := by
  unfold State.searchFrom
  split
  · exact State.noMatch_lawsKept _
  · rename_i j _
    exact State.setVerify_lawsKept (s := s.startDerivation w.digits (s.cslot j).salt (s.cslot j).work) h _

theorem State.matched_lawsKept (d : Domain) (i : CSlot) (k : Kek) : s.lawsKept (s.matched d i k) := by
  unfold State.matched
  extract_lets c t v
  have ht : s.lawsKept t :=
    (State.endVerify_lawsKept.trans (State.tellLockout_sameBut _).lawsKept).trans (State.sendOrders_sameBut _ _ _).lawsKept
  have hv : t.lawsKept v := by
    unfold v
    split_ifs
    · exact State.lawsKept.refl
    · exact State.openWindow_lawsKept i k
  exact (ht.trans hv).trans (State.tellKeypad_sameBut _).lawsKept

theorem State.wipeMatched_lawsKept (d : Domain) (i : CSlot) : s.lawsKept (s.wipeMatched d i) := by
  unfold State.wipeMatched
  extract_lets t v
  have ht : s.lawsKept t := State.endVerify_lawsKept.trans (State.tellLockout_sameBut _).lawsKept
  have hv : t.lawsKept v := by
    unfold v
    split_ifs
    · exact State.lawsKept.refl
    · exact (State.tellEngine_sameBut _).lawsKept
  exact (ht.trans hv).trans (State.tellKeypad_sameBut _).lawsKept

theorem State.duplicateFrom_lawsKept {e : Enrollment} (h : s.cred.enroll = some e) (x : Enrollment) (d : Domain) (i : Nat) :
    s.lawsKept (s.duplicateFrom x d i) := by
  unfold State.duplicateFrom
  split
  · rename_i j _
    exact State.setEnroll_lawsKept (s := s.startDerivation x.pin (s.cslot j).salt (s.cslot j).work) h _
  · exact State.setEnroll_lawsKept (s := ({ s with draws := s.draws + 1 } : State).startDerivation _ _ _) h _

theorem State.markRevoked_lawsKept (i : CSlot) : s.lawsKept (s.markRevoked i) :=
  State.modCred_lawsKept ⟨id, Or.imp (by rintro h; simp [h]) (by rintro h; simp [h])⟩

theorem State.emptySlot_lawsKept (i : CSlot) : s.lawsKept (s.emptySlot i) :=
  (State.setSlot_sameBut i _).lawsKept.trans (State.markRevoked_lawsKept i)

theorem State.emptySlots_lawsKept (l : List CSlot) : s.lawsKept (s.emptySlots l) := by
  induction l generalizing s with
  | nil => exact State.lawsKept.refl
  | cons i l ih =>
    unfold State.emptySlots
    split_ifs
    · exact ((State.emptySlot_lawsKept i).trans (State.queueRec_sameBut _ _).lawsKept).trans ih
    · exact ih

theorem State.removalEndsEnroll_lawsKept (v : Vol) : s.lawsKept (s.removalEndsEnroll v) := by
  unfold State.removalEndsEnroll
  split
  · exact State.lawsKept.refl
  · split_ifs
    · exact State.stopEnroll_lawsKept _ _
    · exact State.lawsKept.refl

theorem State.credFailed_lawsKept : s.lawsKept s.credFailed := by
  unfold State.credFailed
  split
  · exact State.lawsKept.refl
  · exact State.credRelease_sameBut.lawsKept
  · exact State.credRelease_sameBut.lawsKept
  · exact State.credRelease_sameBut.lawsKept.trans (State.complete_sameBut _ _ _ _).lawsKept
  · exact State.credRelease_sameBut.lawsKept.trans (State.endEnroll_lawsKept _ _ _)

/-! ### The unit's events keep the laws -/

theorem State.entryHanded_lawsKept (l : List Digit) (d : Domain) (b : Bool) : s.lawsKept (s.entryHanded l d b) := by
  unfold State.entryHanded
  split_ifs with h
  · exact State.lawsKept.refl
  · have unenrolled : s.cred.enroll = none := by simp_all
    exact State.lawsKept.trans (State.modCred_lawsKept ⟨id, fun _ => .inr unenrolled⟩) (State.tellLockout_sameBut _).lawsKept

theorem State.chargeReported_lawsKept : s.lawsKept s.chargeReported := by
  unfold State.chargeReported
  split
  · rename_i v h
    split_ifs
    · exact State.noMatch_lawsKept _
    · exact State.searchFrom_lawsKept h v 0
  · exact State.lawsKept.refl

theorem State.searchDone_lawsKept {v : Verification} (h : s.cred.verify = some v) (i : CSlot) (b : Bool) (x : BitVec 256) :
    s.lawsKept (s.searchDone v i b x) := by
  unfold State.searchDone
  split_ifs
  · exact State.wipeMatched_lawsKept _ _
  · exact State.matched_lawsKept _ _ _
  · exact State.searchFrom_lawsKept h v _

theorem State.fillSlot_lawsKept {e : Enrollment} (h : s.cred.enroll = some e) (x : BitVec 256) : s.lawsKept (s.fillSlot e x) := by
  unfold State.fillSlot
  by_cases shut : (e.role.bindsByWraps && !s.allOpen e.bind) = true
  · rw [if_pos shut]
    exact State.endEnroll_lawsKept _ _ _
  · rw [if_neg shut]
    extract_lets t v
    have hv : s.lawsKept v := State.lawsKept.trans (t := t) ⟨id, id⟩ (State.setEnroll_lawsKept (s := t) h _)
    split_ifs
    · exact hv.trans (State.queueRec_sameBut _ _).lawsKept
    · exact hv.trans State.credFailed_lawsKept

theorem State.enrollDerived_lawsKept {e : Enrollment} (h : s.cred.enroll = some e) (x : BitVec 256) :
    s.lawsKept (s.enrollDerived e x) := by
  unfold State.enrollDerived
  split
  · split_ifs
    · exact State.endEnroll_lawsKept _ _ _
    · split
      · exact State.duplicateFrom_lawsKept h _ _ _
      · exact State.lawsKept.refl
  · exact State.fillSlot_lawsKept h x
  all_goals exact State.lawsKept.refl

theorem State.derived_lawsKept (x : Derivation) : s.lawsKept (s.derived x) := by
  unfold State.derived
  extract_lets out t
  refine State.lawsKept.trans (t := t) ⟨id, id⟩ ?_
  split
  · rename_i v h
    split
    · exact State.searchDone_lawsKept h _ _ _
    · exact State.lawsKept.refl
  · rename_i h
    exact State.enrollDerived_lawsKept h _
  · exact State.lawsKept.refl

theorem State.derivationEnds_lawsKept (x : Derivation) : s.lawsKept (s.derivationEnds x) := by
  unfold State.derivationEnds
  split_ifs
  · exact (State.derived_lawsKept x).trans State.settle_sameBut.lawsKept
  · exact (State.tellCred_sameBut _).lawsKept

theorem State.beginEnroll_lawsKept (unverified : s.cred.verify = none) (r : Request) : s.lawsKept (s.beginEnroll r) := by
  have ended (st : Status) : s.lawsKept (s.complete r st 0 []) := (State.complete_sameBut _ _ _ _).lawsKept
  unfold State.beginEnroll
  split_ifs
  · exact ended _
  · exact ended _
  · exact ended _
  · split
    · exact (State.rearmWindow_lawsKept id).trans (State.complete_sameBut _ _ _ _).lawsKept
    · rename_i e _
      extract_lets t
      have held : (s.rearmWindow fun _ => true).cred.verify = none :=
        (State.sameBut_agree (State.rearmWindow_sameBut _) .credWork).1.trans unverified
      have ht : s.lawsKept t :=
        (State.rearmWindow_lawsKept _).trans (State.modCred_lawsKept ⟨id, fun _ => .inl held⟩)
      exact (ht.trans (State.modExch_sameBut _).lawsKept).trans (State.tellKeypad_sameBut _).lawsKept

theorem State.enrollEntry_lawsKept (l : List Digit) : s.lawsKept (s.enrollEntry l) := by
  unfold State.enrollEntry
  split
  · exact State.lawsKept.refl
  · rename_i e h
    split
    · exact State.setEnroll_lawsKept h _
    · unfold State.secondEntry
      split_ifs
      · exact State.endEnroll_lawsKept _ _ _
      · exact State.endEnroll_lawsKept _ _ _
      · split
        · exact State.duplicateFrom_lawsKept h _ _ _
        · exact State.lawsKept.refl
    all_goals exact State.lawsKept.refl

theorem State.revokeRequest_lawsKept (r : Request) : s.lawsKept (s.revokeRequest r) := by
  unfold State.revokeRequest
  split
  · exact (State.complete_sameBut _ _ _ _).lawsKept
  · rename_i t ht
    refine (State.authorize_lawsKept ht).trans ?_
    split
    · exact (State.complete_sameBut _ _ _ _).lawsKept
    · rename_i i _
      extract_lets c v
      have hv : t.lawsKept v := (State.emptySlot_lawsKept i).trans (State.credWaits_sameBut _).lawsKept
      split_ifs
      · exact (State.complete_sameBut _ _ _ _).lawsKept
      · exact (State.complete_sameBut _ _ _ _).lawsKept
      · exact hv.trans (State.queueRec_sameBut _ _).lawsKept
      · exact hv.trans State.credFailed_lawsKept

theorem State.wrapAndAdd_lawsKept (v : Vol) (k : MediaKey) : s.lawsKept (s.wrapAndAdd v k) := by
  unfold State.wrapAndAdd
  split
  · split
    · exact (State.guardWaits_sameBut _).lawsKept.trans (State.complete_sameBut _ _ _ _).lawsKept
    · exact (State.setSlot_sameBut _ _).lawsKept.trans (State.guardCommit_sameBut _ _ _).lawsKept
  · exact State.lawsKept.refl

theorem State.removal_lawsKept (v : Vol) : s.lawsKept (s.removal v) := by
  unfold State.removal
  extract_lets n t
  have ht : s.lawsKept t := (State.removalEndsEnroll_lawsKept v).trans (State.removeWraps_sameBut _ _).lawsKept
  split_ifs
  · exact ht.trans State.removalDone_sameBut.lawsKept
  · exact ht.trans (State.credWaits_sameBut _).lawsKept
  · exact ht

theorem State.factoryRevoke_lawsKept : s.lawsKept s.factoryRevoke := by
  unfold State.factoryRevoke
  extract_lets n t v
  have hv : s.lawsKept v :=
    (((State.stopEnroll_lawsKept _ _).trans State.shutWindow_lawsKept).trans (State.emptySlots_lawsKept _)).trans
      (State.modStore_sameBut _).lawsKept
  split_ifs
  · exact (hv.trans (State.credWaits_sameBut _).lawsKept).trans (State.queueRec_sameBut _ _).lawsKept
  · exact hv

theorem State.lockClosed_lawsKept : s.lawsKept s.lockClosed := by
  unfold State.lockClosed
  split
  · exact (State.guardWaits_sameBut _).lawsKept.trans (State.complete_sameBut _ _ _ _).lawsKept
  · exact State.lawsKept.refl

/-- The taking of an event keeps the laws when the event does. -/
theorem State.takeCred_lawsKept {act : CredEvent → Option (State → State)}
    (h : ∀ e g, act e = some g → ∀ t : State, t.lawsKept (g t)) : s.lawsKept (s.takeCred act) := by
  unfold State.takeCred State.takeNextCred
  split_ifs
  · refine State.takeWindowTicks_lawsKept.trans ?_
    split
    · exact State.lawsKept.refl
    · split
      · rename_i g hg
        exact (State.popCred_sameBut.lawsKept.trans (h _ g hg _)).trans State.settle_sameBut.lawsKept
      · exact State.lawsKept.refl
  · exact State.takeWindowTicks_lawsKept
  · exact State.lawsKept.refl

/-! ### The signals and the answers of the store keep the laws -/

theorem State.warnCredential_lawsKept : s.lawsKept s.warnCredential := by
  have abandoned (u : State) : u.lawsKept u.abandonVerify := by
    unfold State.abandonVerify
    split
    · rename_i v h
      split
      · exact State.noMatch_lawsKept _
      · exact State.setVerify_lawsKept h _
    · exact State.lawsKept.refl
  exact State.lawsKept.trans (t := s.modCred fun c => { c with warned := true, shutByWarning := c.window.isSome }) ⟨id, id⟩
    ((State.shutWindow_lawsKept.trans (abandoned _)).trans (State.stopEnroll_lawsKept _ _))

theorem State.haltCredential_lawsKept : s.lawsKept s.haltCredential :=
  State.lawsKept.trans (t := s.modCred fun c => { c with halted := true }) ⟨id, id⟩
    ((State.endVerify_lawsKept.trans (State.stopEnroll_lawsKept _ _)).trans State.shutWindow_lawsKept)

theorem State.enrollCommitted_lawsKept {e : Enrollment} (h : s.cred.enroll = some e) : s.lawsKept (s.enrollCommitted e) := by
  unfold State.enrollCommitted
  by_cases first : (e.stage = .slotCommit && e.firstAdmin) = true
  · rw [if_pos first]
    extract_lets t
    have ht : s.lawsKept t := (State.setEnroll_lawsKept h _).trans (State.modStore_sameBut _).lawsKept
    split_ifs
    · exact ht.trans (State.queueRec_sameBut _ _).lawsKept
    · exact ht.trans State.credFailed_lawsKept
  rw [if_neg first]
  by_cases admin : e.firstAdmin = true
  · rw [if_pos admin]
    extract_lets t
    have ht : s.lawsKept t := by
      unfold t
      split_ifs
      · exact State.lawsKept.trans (t := ({ s with device := .ready } : State)) ⟨id, id⟩ (State.refresh_sameBut .device).lawsKept
      · exact State.lawsKept.refl
    exact ((ht.trans (State.openWindow_lawsKept _ _)).trans State.credRelease_sameBut.lawsKept).trans
      (State.endEnroll_lawsKept _ _ _)
  · rw [if_neg admin]
    exact State.credRelease_sameBut.lawsKept.trans (State.endEnroll_lawsKept _ _ _)

theorem State.credCommitted_lawsKept : s.lawsKept s.credCommitted := by
  unfold State.credCommitted
  split
  · exact State.lawsKept.refl
  · split_ifs
    · exact State.credRelease_sameBut.lawsKept.trans State.removalDone_sameBut.lawsKept
    · exact (State.credWaits_sameBut _).lawsKept
  · extract_lets t
    have ht : s.lawsKept t := by
      unfold t
      split_ifs
      · exact State.closeWindow_lawsKept
      · exact State.lawsKept.refl
    exact (ht.trans State.credRelease_sameBut.lawsKept).trans (State.complete_sameBut _ _ _ _).lawsKept
  · split_ifs
    · exact State.credRelease_sameBut.lawsKept.trans (State.lawsKept_of_noEvents State.factoryDone_noEvents)
    · exact (State.credWaits_sameBut _).lawsKept
  · split
    · rename_i h
      exact State.enrollCommitted_lawsKept h
    · exact State.credRelease_sameBut.lawsKept

theorem State.guardThen_noEvents (x : GuardThen) : (s.guardThen x).cred.noEvents = s.cred.noEvents := by
  cases x <;> simp [State.guardThen, (State.volumeAccepted_sameBut _).noEvents]

theorem State.guardCommitted_noEvents : s.guardCommitted.cred.noEvents = s.cred.noEvents := by
  unfold State.guardCommitted
  split
  · split_ifs <;> simp [State.guardThen_noEvents]
  · rfl

theorem State.committed_lawsKept (w : Waiter) : s.lawsKept (s.committed w) := by
  cases w with
  | credential => exact State.credCommitted_lawsKept
  | guard => exact State.lawsKept_of_noEvents State.guardCommitted_noEvents
  | lockout => exact State.lawsKept_of_noEvents State.chargeDone_noEvents
  | engine => exact State.engineCommitted_sameBut.lawsKept
  | link =>
    unfold State.committed
    dsimp only
    split_ifs
    · exact State.identDone_sameBut.lawsKept
    · exact State.lawsKept.refl
  | store => exact State.lawsKept_of_noEvents State.policyDone_noEvents
  | startUp =>
    unfold State.committed
    dsimp only
    split_ifs
    · exact State.lawsKept_of_noEvents State.leaveStarting_noEvents
    · exact State.lawsKept.refl

theorem State.failed_lawsKept (w : Waiter) : s.lawsKept (s.failed w) := by
  cases w with
  | credential => exact State.credFailed_lawsKept
  | guard => exact State.guardFailed_sameBut.lawsKept
  | lockout =>
    unfold State.failed
    dsimp only
    split
    · exact State.lockoutRelease_sameBut.lawsKept
    · exact State.lawsKept.refl
  | engine => exact State.lawsKept.refl
  | link => exact (State.modLink_sameBut _).lawsKept
  | store =>
    unfold State.failed
    dsimp only
    split
    · exact (State.modStore_sameBut _).lawsKept.trans (State.complete_sameBut _ _ _ _).lawsKept
    · exact State.lawsKept.refl
  | startUp => exact (State.modStartUp_sameBut _).lawsKept

theorem State.commitFailed_lawsKept (q : Queued) (c : Cut) : s.lawsKept (s.commitFailed q c) := by
  unfold State.commitFailed
  extract_lets ws t v x
  have ht : s.lawsKept t := (State.modStore_sameBut _).lawsKept.trans (State.attend_sameBut _).lawsKept
  have hv : t.lawsKept v :=
    (State.enterHalted_sameBut.lawsKept.trans (foldl_lawsKept (fun u w => State.failed_lawsKept w) ws)).trans
      (State.refresh_sameBut .device).lawsKept
  have hx : v.lawsKept x := (State.modStartUp_sameBut _).lawsKept.trans (State.sample_sameBut _).lawsKept
  split_ifs
  · exact (ht.trans hv).trans hx
  · exact ((ht.trans hv).trans hx).trans State.pendingScan_sameBut.lawsKept
  · exact ht.trans hv

theorem State.commitAgrees_lawsKept (q : Queued) : s.lawsKept (s.commitAgrees q) :=
  ((State.modStore_sameBut _).lawsKept.trans (foldl_lawsKept (fun _ w => State.committed_lawsKept w) q.waiters)).trans
    State.beginCommit_sameBut.lawsKept

/-! ### Every step keeps the laws -/

theorem State.takeSignal_lawsKept {b : Block} {x : Signal} (h : s.takeSignal b x = some t) : s.lawsKept t :=
  State.lawsKept_of_noEvents (State.takeSignal_noEvents h)

/-- The supply warning at a block. -/
theorem State.warn_lawsKept (b : Block) : s.lawsKept (s.warn b) := by
  cases b
  case credential => exact State.warnCredential_lawsKept
  all_goals
    refine State.lawsKept_of_noEvents ?_
    simp [State.warn, State.warnExchange, State.warnGuard, State.warnLink]

/-- Its recovery at a block. -/
theorem State.recover_lawsKept (b : Block) : s.lawsKept (s.recover b) := by
  cases b
  case credential => exact State.modCred_lawsKept ⟨id, id⟩
  case exchange =>
    refine State.lawsKept_of_noEvents ?_
    dsimp only [State.recover]; split_ifs <;> simp
  all_goals
    refine State.lawsKept_of_noEvents ?_
    simp [State.recover]

/-- The entry to HALTED at a block. -/
theorem State.halt_lawsKept (b : Block) : s.lawsKept (s.halt b) := by
  cases b
  case credential => exact State.haltCredential_lawsKept
  all_goals
    refine State.lawsKept_of_noEvents ?_
    simp [State.halt]

/-- The taking of a request to the guard. -/
theorem State.takeGuardRequest_lawsKept {k : Kind} {serve : Request → State → State}
    (h : ∀ r (t : State), t.lawsKept (serve r t)) : s.lawsKept (s.takeGuardRequest k serve) := by
  unfold State.takeGuardRequest
  generalize hact : (fun o : GuardOrder => _ : GuardOrder → Option (State → State)) = act
  obtain e | ⟨o, rest, g, -, -, -, hg, e⟩ := State.takeOrder_cases (s := s) act
  · rw [e]; exact State.lawsKept.refl
  · rw [e]
    refine (State.popGuard_sameBut.lawsKept.trans ?_).trans State.settle_sameBut.lawsKept
    subst hact
    dsimp only at hg
    split at hg
    · split_ifs at hg; cases hg
      dsimp only
      split_ifs
      · exact (State.complete_sameBut _ _ _ _).lawsKept
      · exact (State.complete_sameBut _ _ _ _).lawsKept
      · exact h _ _
    · cases hg

theorem State.defineRequest_lawsKept (r : Request) : s.lawsKept (State.defineRequest r s) := by
  unfold State.defineRequest
  split
  · exact (State.complete_sameBut _ _ _ _).lawsKept
  · rename_i t ht
    refine (State.authorize_lawsKept ht).trans ?_
    split
    · exact (State.complete_sameBut _ _ _ _).lawsKept
    · exact (State.defining_sameBut r _).lawsKept

theorem State.deleteRequest_lawsKept (r : Request) : s.lawsKept (State.deleteRequest r s) := by
  unfold State.deleteRequest
  split
  · exact (State.complete_sameBut _ _ _ _).lawsKept
  · rename_i t ht
    refine (State.authorize_lawsKept ht).trans ?_
    split
    · exact (State.complete_sameBut _ _ _ _).lawsKept
    · split_ifs
      · exact (State.modVol_sameBut _ _).lawsKept.trans (State.guardCommit_sameBut _ _ _).lawsKept
      · exact (State.complete_sameBut _ _ _ _).lawsKept

theorem State.policyRequest_lawsKept (r : Request) : s.lawsKept (s.policyRequest r) := by
  unfold State.policyRequest
  split
  · exact (State.complete_sameBut _ _ _ _).lawsKept
  · rename_i t ht
    extract_lets v
    have hv : t.lawsKept v := (State.modStore_sameBut _).lawsKept
    refine ((State.authorize_lawsKept ht).trans hv).trans ?_
    split_ifs
    · exact (State.queueRec_sameBut _ _).lawsKept
    · exact State.failed_lawsKept _

/-- The taking of an event of the engine. -/
theorem State.takeEvent_lawsKept {act : EngineEvent → Option (State → State)}
    (h : ∀ e g, act e = some g → ∀ t : State, t.lawsKept (g t)) : s.lawsKept (s.takeEvent act) := by
  obtain e | ⟨e, rest, g, -, -, -, hg, e'⟩ := State.takeEvent_cases (s := s) act
  · rw [e]; exact State.lawsKept.refl
  · rw [e']
    exact ((State.popEngine_sameBut.lawsKept.trans (h e g hg _)).trans State.boundary_sameBut.lawsKept).trans
      State.settle_sameBut.lawsKept

/-- A request to the engine, which queries the window. -/
theorem State.serveErase_lawsKept (r : Request) {serve : State → State} (h : ∀ t : State, t.lawsKept (serve t)) :
    s.lawsKept (s.serveErase r serve) := by
  unfold State.serveErase
  split_ifs
  · exact (State.complete_sameBut _ _ _ _).lawsKept
  · exact (State.complete_sameBut _ _ _ _).lawsKept
  · split
    · exact (State.complete_sameBut _ _ _ _).lawsKept
    · rename_i t ht
      exact (State.authorize_lawsKept ht).trans (h t)

theorem State.takeControl_lawsKept {mine : Nat → Bool} {serve : State → Request → State}
    (h : ∀ (t : State) r, (serve t r).cred.noEvents = t.cred.noEvents) : s.lawsKept (s.takeControl mine serve) := by
  unfold State.takeControl
  extract_lets t
  have ht : s.lawsKept t := State.beforeQuery_lawsKept _
  split_ifs
  · exact ht
  · refine ht.trans (State.takeEvent_lawsKept ?_)
    rintro e g hg v
    split at hg
    · split_ifs at hg; cases hg
      exact State.serveErase_lawsKept _ fun w => State.lawsKept_of_noEvents (h w _)
    · cases hg

theorem State.cancel_lawsKept (r : Request) (n : RSlot) : s.lawsKept (s.cancel r n) := by
  have target : s.lawsKept (s.cancelTarget n).1 := by
    unfold State.cancelTarget
    split
    · exact (State.setOwner_sameBut _ _).lawsKept.trans (State.finishNow_sameBut _ _ _).lawsKept
    · exact (State.complete_sameBut _ _ _ _).lawsKept.trans (State.reloadFor_sameBut _).lawsKept
    · exact State.stopEnroll_lawsKept _ _
    · exact State.lawsKept.refl
  unfold State.cancel
  split_ifs
  · exact State.lawsKept.refl
  · exact (target.trans (State.complete_sameBut _ _ _ _).lawsKept).trans State.settle_sameBut.lawsKept

/-- RESET, loss of power and start-up leave the window CLOSED with its key zero, and no work. -/
theorem State.cleared_lawsKept (nv : NvArray) (p : PowerState) : s.lawsKept (s.cleared nv p) :=
  ⟨fun _ _ => rfl, fun _ => .inl rfl⟩

theorem State.loadAll_lawsKept : s.lawsKept s.loadAll := by
  unfold State.loadAll
  extract_lets n policy a b c d e q f g h i
  have he : s.lawsKept e := ⟨id, id⟩
  have hq (r : Rec) (x : Bool) (t : State) : t.lawsKept (q r x t) := by
    unfold q
    split_ifs
    · exact (State.queueRec_sameBut _ _).lawsKept
    · exact State.lawsKept.refl
  have hi : s.lawsKept i := (((he.trans (hq _ _ _)).trans (hq _ _ _)).trans (hq _ _ _)).trans (hq _ _ _)
  split_ifs
  · exact hi
  · exact hi.trans (State.attend_sameBut _).lawsKept

theorem State.healWraps_lawsKept : s.lawsKept s.healWraps := by
  refine foldl_lawsKept (fun t v => ?_) _
  have removed : t.lawsKept (t.removeWraps v []) := (State.removeWraps_sameBut _ _).lawsKept
  cases (t.vol v).data.state
  case absent | erasing | blank => exact removed
  all_goals exact State.lawsKept.refl

theorem State.loadList_lawsKept : s.lawsKept s.loadList := by
  unfold State.loadList
  extract_lets n intact stored kept ended whole list t u v
  have ht : s.lawsKept t := (State.modErase_sameBut _).lawsKept
  have hu : t.lawsKept u := by
    unfold u
    split_ifs
    · exact State.lawsKept.refl
    · exact (State.queueRec_sameBut _ _).lawsKept
  have hv : u.lawsKept v := by
    unfold v
    split_ifs
    · exact (State.queueRec_sameBut _ _).lawsKept
    · exact State.checkpointHead_sameBut.lawsKept
  split_ifs
  · exact (ht.trans hu).trans hv
  · exact ((ht.trans hu).trans hv).trans (State.attend_sameBut _).lawsKept

/-- An outcome that is a next state. -/
theorem go_lawsKept (h : go u = .next t) (k : s.lawsKept u) : s.lawsKept t := by cases h; exact k

/-- The commands that end or begin the part's work, and the signals. -/
theorem exec_lawsKept_of_signal {c : Instr} (hc : resets c = true ∨ c = .loadRecords ∨
    ∃ b, c = .warningTaken b ∨ c = .recoveryTaken b ∨ c = .haltOrder b) (h : exec c s = .next t) : s.lawsKept t := by
  have taken {b : Block} {x : Signal} {f : State → State} (k : ∀ v : State, v.lawsKept (f v)) {v : State}
      (hv : s.takeSignal b x = some v) : s.lawsKept (f v).settle :=
    ((State.takeSignal_lawsKept hv).trans (k v)).trans State.settle_sameBut.lawsKept
  cases c with
  | resetAssert cut =>
    refine go_lawsKept h ?_
    split_ifs
    · exact State.lawsKept.refl
    · exact State.cleared_lawsKept _ _
  | powerLoss cut => exact go_lawsKept h (State.cleared_lawsKept _ _)
  | startUp good =>
    refine go_lawsKept h ?_
    split_ifs
    · exact State.cleared_lawsKept _ _
    · exact (State.cleared_lawsKept _ _).trans (State.lawsKept_of_noEvents State.raiseWarning_noEvents)
    · exact State.lawsKept.refl
  | loadRecords =>
    refine go_lawsKept h ?_
    split_ifs
    · refine State.lawsKept.trans ((State.loadAll_lawsKept.trans State.healWraps_lawsKept).trans State.loadList_lawsKept) ?_
      exact State.lawsKept_of_noEvents (by simp)
    · exact State.lawsKept.refl
  | warningTaken b =>
    refine go_lawsKept h ?_
    split_ifs
    · split
      · rename_i v hv; exact taken (fun v => State.warn_lawsKept b) hv
      · exact State.lawsKept.refl
    · exact State.lawsKept.refl
  | recoveryTaken b =>
    refine go_lawsKept h ?_
    split_ifs
    · split
      · rename_i v hv; exact taken (fun v => State.recover_lawsKept b) hv
      · exact State.lawsKept.refl
    · exact State.lawsKept.refl
  | haltOrder b =>
    refine go_lawsKept h ?_
    split_ifs
    · split
      · rename_i v hv
        have halted : s.lawsKept v := by
          unfold State.takeHalt at hv
          split_ifs at hv
          · exact State.takeSignal_lawsKept hv
          · cases hv
            exact (State.dropSignal_sameBut _ _).lawsKept
        exact (halted.trans (State.halt_lawsKept b)).trans State.settle_sameBut.lawsKept
      · exact State.lawsKept.refl
    · exact State.lawsKept.refl
  | _ => simp [resets] at hc

/-- The commands that query the window, and the answers of the store. -/
def queriesWindow : Instr → Bool
  | .setPolicy | .cancel | .defineVolume | .deleteVolume | .erase | .pause | .resume | .abort | .commitDone _ => true
  | _ => false

theorem exec_lawsKept_of_query {c : Instr} (hc : queriesWindow c = true) (h : exec c s = .next t) : s.lawsKept t := by
  cases c with
  | setPolicy =>
    refine go_lawsKept h ?_
    split
    · split
      · exact State.lawsKept.refl
      · extract_lets v w
        have hw : s.lawsKept w := State.beforeQuery_lawsKept true
        split_ifs
        · exact State.lawsKept_of_noEvents (by simp [v])
        · exact State.lawsKept_of_noEvents (by simp [v])
        · exact (hw.trans ((State.modStore_sameBut _).lawsKept.trans (State.policyRequest_lawsKept _))).trans
            State.settle_sameBut.lawsKept
        · exact hw
    · exact State.lawsKept.refl
  | cancel =>
    refine go_lawsKept h ?_
    split_ifs
    · split
      · split
        · exact (State.complete_sameBut _ _ _ _).lawsKept
        · exact (State.beforeQuery_lawsKept _).trans (State.cancel_lawsKept _ _)
      · exact State.lawsKept.refl
    · exact State.lawsKept.refl
  | defineVolume =>
    refine go_lawsKept h ?_
    have hq : s.lawsKept (s.beforeQuery s.guardAsks) := State.beforeQuery_lawsKept _
    split_ifs
    · exact hq
    · exact hq.trans (State.takeGuardRequest_lawsKept fun r _ => State.defineRequest_lawsKept r)
  | deleteVolume =>
    refine go_lawsKept h ?_
    have hq : s.lawsKept (s.beforeQuery s.guardAsks) := State.beforeQuery_lawsKept _
    split_ifs
    · exact hq
    · exact hq.trans (State.takeGuardRequest_lawsKept fun r _ => State.deleteRequest_lawsKept r)
  | erase =>
    refine go_lawsKept h ?_
    have hq : s.lawsKept (s.beforeQuery s.engineWillQuery) := State.beforeQuery_lawsKept _
    split_ifs
    · exact hq
    · refine hq.trans (State.takeEvent_lawsKept ?_)
      rintro e g hg v
      split at hg
      · split_ifs at hg; cases hg
        exact State.serveErase_lawsKept _ fun w => State.lawsKept_of_noEvents (by simp)
      · cases hg
  | pause => exact go_lawsKept h (State.takeControl_lawsKept fun _ _ => by simp)
  | resume => exact go_lawsKept h (State.takeControl_lawsKept fun _ _ => by simp)
  | abort => exact go_lawsKept h (State.takeControl_lawsKept fun _ _ => by simp)
  | commitDone back =>
    refine go_lawsKept h ?_
    split
    · split
      · exact State.lawsKept.refl
      · split
        · exact (State.commitAgrees_lawsKept _).trans State.settle_sameBut.lawsKept
        · split_ifs
          · exact (State.commitFailed_lawsKept _ _).trans State.settle_sameBut.lawsKept
          · exact (State.modStore_sameBut _).lawsKept.trans (State.refresh_sameBut .device).lawsKept
    · exact State.lawsKept.refl
  | _ => cases hc

/-- The unit's own events. -/
def ofCredentials : Instr → Bool
  | .enroll | .revoke | .entryHanded | .chargeCommitted | .derivationDone | .enrollEntry | .enrollEarlyEnd => true
  | .factoryRevocation | .windowTick | .windowExpiry | .windowClose | .wrapAndAdd | .removal => true
  | _ => false

theorem exec_lawsKept_of_event {c : Instr} (hc : ofCredentials c = true) (h : exec c s = .next t) : s.lawsKept t := by
  cases c with
  | enroll =>
    refine go_lawsKept h ?_
    have hq : s.lawsKept (s.beforeQuery true) := State.beforeQuery_lawsKept true
    split_ifs with ready
    · split
      · have unverified : (s.beforeQuery true).cred.verify = none := by simp_all
        exact (hq.trans (State.beginEnroll_lawsKept unverified _)).trans State.settle_sameBut.lawsKept
      · exact hq
    · exact hq
  | revoke =>
    refine go_lawsKept h (State.takeCred_lawsKept ?_)
    rintro e g hg v; split at hg <;> cases hg
    dsimp only
    split_ifs
    · exact (State.complete_sameBut _ _ _ _).lawsKept
    · exact (State.complete_sameBut _ _ _ _).lawsKept
    · exact State.revokeRequest_lawsKept _
  | entryHanded =>
    refine go_lawsKept h (State.takeCred_lawsKept ?_)
    rintro e g hg v; split at hg <;> cases hg
    exact State.entryHanded_lawsKept _ _ _
  | chargeCommitted =>
    refine go_lawsKept h (State.takeCred_lawsKept ?_)
    rintro e g hg v; split at hg <;> cases hg
    exact State.chargeReported_lawsKept
  | derivationDone =>
    refine go_lawsKept h ?_
    split_ifs
    · refine State.takeCred_lawsKept ?_
      rintro e g hg v; split_ifs at hg; cases hg
      dsimp only
      cases v.cred.deriv with
      | none => exact State.lawsKept.refl
      | some x => exact State.derived_lawsKept x
    · extract_lets v
      have hv : s.lawsKept v := State.beforeQuery_lawsKept _
      split_ifs
      · cases v.cred.deriv with
        | none => exact hv
        | some x => exact hv.trans (State.derivationEnds_lawsKept x)
      · exact hv
  | enrollEntry =>
    refine go_lawsKept h (State.takeCred_lawsKept ?_)
    rintro e g hg v; split at hg <;> cases hg
    exact State.enrollEntry_lawsKept _
  | enrollEarlyEnd =>
    refine go_lawsKept h (State.takeCred_lawsKept ?_)
    rintro e g hg v; split at hg <;> cases hg
    exact State.stopEnroll_lawsKept _ _
  | factoryRevocation =>
    refine go_lawsKept h (State.takeCred_lawsKept ?_)
    rintro e g hg v; split at hg <;> cases hg
    exact State.factoryRevoke_lawsKept
  | windowTick =>
    refine go_lawsKept h ?_
    split_ifs
    · exact (State.tellCred_sameBut _).lawsKept.trans State.takeWindowTicks_lawsKept
    · exact (State.tellCred_sameBut _).lawsKept
    · exact State.lawsKept.refl
  | windowExpiry =>
    refine go_lawsKept h ?_
    split_ifs
    · exact State.closeWindow_lawsKept.trans State.settle_sameBut.lawsKept
    · exact State.lawsKept.refl
  | windowClose =>
    refine go_lawsKept h (State.takeCred_lawsKept ?_)
    rintro e g hg v; split at hg <;> cases hg
    dsimp only
    split_ifs
    · exact State.closeWindow_lawsKept.trans State.lockClosed_lawsKept
    · exact State.closeWindow_lawsKept
  | wrapAndAdd =>
    refine go_lawsKept h (State.takeCred_lawsKept ?_)
    rintro e g hg v; split at hg <;> cases hg
    exact State.wrapAndAdd_lawsKept _ _
  | removal =>
    refine go_lawsKept h (State.takeCred_lawsKept ?_)
    rintro e g hg v; split at hg <;> cases hg
    exact State.removal_lawsKept _
  | _ => cases hc

/-- Every command keeps the laws. -/
theorem exec_lawsKept {c : Instr} (h : exec c s = .next t) : s.lawsKept t := by
  by_cases works : worksCredentials c = false
  · exact State.lawsKept_of_noEvents (exec_noEvents works h)
  by_cases event : ofCredentials c = true
  · exact exec_lawsKept_of_event event h
  by_cases query : queriesWindow c = true
  · exact exec_lawsKept_of_query query h
  refine exec_lawsKept_of_signal ?_ h
  cases c <;> simp [worksCredentials, ofCredentials, queriesWindow, resets] at works event query ⊢

/-- What a command leaves, whatever its outcome. -/
theorem State.after_lawsKept (c : Instr) : s.lawsKept (s.after (exec c s)) := by
  unfold State.after
  split
  · rename_i h; exact exec_lawsKept h
  · exact State.lawsKept.refl

/-- A tick of the timebase keeps the laws: the counters touch neither the window nor the work. -/
theorem State.tick_lawsKept : s.lawsKept s.tick := by
  have second (t : State) : t.lawsKept t.secondTick := by
    unfold State.secondTick State.expireIdle
    extract_lets a b c
    have counted : t.lawsKept c.countIdle :=
      (((State.after_lawsKept _).trans (State.after_lawsKept _)).trans (State.after_lawsKept _)).trans
        State.countIdle_sameBut.lawsKept
    refine counted.trans (foldl_lawsKept (fun v w => ?_) _)
    split_ifs
    · exact State.after_lawsKept _
    · exact State.lawsKept.refl
  unfold State.tick
  split
  · extract_lets t
    have ht : s.lawsKept t := by
      refine State.lawsKept.trans (t := if s.keypad.scanning then s.keyScan s.keypad.contacts else { s with ms := s.ms + 1 }) ?_
        ⟨id, id⟩
      refine State.lawsKept_of_noEvents ?_
      split_ifs <;> simp
    split_ifs
    · exact ht.trans ⟨id, id⟩
    · exact (ht.trans (t := t) (u := { t with msOfSecond := 0 }) ⟨id, id⟩).trans (second _)
  · exact State.lawsKept.refl

/-- Every step keeps the laws. -/
theorem step_lawsKept (h : step s = .next t) : s.lawsKept t := by
  unfold step at h
  split at h
  · rename_i c rest _
    exact State.lawsKept.trans (t := ({ s with pending := rest } : State)) ⟨id, id⟩ (exec_lawsKept h)
  · split at h
    · exact exec_lawsKept h
    · cases h; exact State.tick_lawsKept

end Sys2Proof.Machine

open Sys2Proof Sys2Proof.Machine

/-- Settles O7: every command keeps both laws, and so does a tick. -/
theorem credentialWorkStaysLegal : Obligations.CredentialWorkStaysLegal := by
  refine ⟨fun s t ok h => ?_, fun s t ok h => ?_⟩
  · exact State.windowOk_iff.2 ((step_lawsKept h).1 (State.windowOk_iff.1 ok))
  · exact State.workOk_iff.2 ((step_lawsKept h).2 (State.workOk_iff.1 ok))
end

section
namespace Sys2Proof.Machine
set_option Elab.async false
variable {s t u : State} {ps : List Part}

/-! ### The window and the section that shows it (R36, R37, R172) -/

/-- The window and its key as they stand, and the window section rewritten to show it. -/
def State.windowShown (s t : State) (o : Option Window) (k : Kek) : Prop :=
  t.cred.window = o ∧ t.cred.adminKey = k ∧ s.rewritten t .window

theorem State.windowBody_congr (h : t.cred.window = u.cred.window) : t.body .window = u.body .window := by
  simp only [State.body, State.windowBody, h]

/-- A step that leaves the window and its section leaves it so shown. -/
theorem State.sameBut.windowShown {o : Option Window} {k : Kek} (f : u.sameBut ps t) (h : s.windowShown u o k)
    (p : ps.contains .window = false := by decide) (p' : ps.contains .pageWindow = false := by decide) :
    s.windowShown t o k := by
  obtain ⟨window, key, shown⟩ := h
  obtain ⟨kw, ka⟩ := State.sameBut_agree f .window p
  have page : t.page.window = u.page.window := State.sameBut_agree f .pageWindow p'
  refine ⟨kw.trans window, ka.trans key, ?_⟩
  rw [State.rewritten, State.windowBody_congr kw]
  exact page.trans shown

/-- Of the state before a rewrite only the section counts. -/
theorem State.sameBut.windowShown_of {o : Option Window} {k : Kek} (f : s.sameBut ps u) (h : u.windowShown t o k)
    (p : ps.contains .pageWindow = false := by decide) : s.windowShown t o k := by
  obtain ⟨window, key, shown⟩ := h
  have page : u.page.window = s.page.window := State.sameBut_agree f .pageWindow p
  exact ⟨window, key, by rw [State.rewritten] at shown ⊢; simpa only [Page.get, page] using shown⟩

/-- A second rewrite that shows the same window changes nothing more. -/
theorem State.windowShown.again {o : Option Window} {k k' : Kek} (h : s.windowShown u o k) (h' : u.windowShown t o k') :
    s.windowShown t o k' := by
  obtain ⟨window, -, shown⟩ := h
  obtain ⟨window', key', shown'⟩ := h'
  refine ⟨window', key', ?_⟩
  rw [State.rewritten, State.windowBody_congr (window'.trans window.symm)] at shown' ⊢
  rw [shown', shown]
  simp only [PageSection.replaced]
  split_ifs <;> simp_all

/-- A change of the unit, and the rewrite that shows it. -/
theorem State.modCred_windowShown (g : Credential → Credential) :
    s.windowShown ((s.modCred g).refresh .window) (g s.cred).window (g s.cred).adminKey :=
  have kept : (s.modCred g).sameBut [.pageWindow] ((s.modCred g).refresh .window) := State.refresh_sameBut .window
  ⟨(State.sameBut_agree kept .window).1, (State.sameBut_agree kept .window).2, State.refresh_rewritten (s := s.modCred g) .window⟩

/-- The window set back to 300 s, with its hold. -/
def Window.rearm (g : Bool → Bool) (w : Window) : Window := { w with left := 300, held := g w.held }

theorem State.rearmWindow_shown (g : Bool → Bool) :
    s.windowShown (s.rearmWindow g) (s.cred.window.map (Window.rearm g)) s.cred.adminKey := State.modCred_windowShown _

theorem State.openWindow_shown (i : CSlot) (k : Kek) : s.windowShown (s.openWindow i k) (some ⟨i, 300, false⟩) k :=
  State.modCred_windowShown _

theorem State.shutWindow_shown (h : s.cred.window.isSome = true) : s.windowShown s.shutWindow none 0 := by
  rw [State.shutWindow, if_pos h]
  exact State.modCred_windowShown _

theorem State.shutWindow_of_closed (h : s.cred.window = none) : s.shutWindow = s := by simp [State.shutWindow, h]

/-! ### The turn of an event of the credential unit (R29) -/

theorem State.credReady_iff : s.credReady = true ↔ s.credFree = true ∧ s.cred.inbox = [] := by
  simp [State.credReady]

theorem State.popCred_inbox {e : CredEvent} {rest : List CredEvent} (head : s.cred.inbox = e :: rest) :
    s.popCred.cred.inbox = rest := by simp [State.popCred, head]

theorem State.settled : s.sameBut showing s.settle := State.settle_sameBut

theorem State.sameBut.memOk (h : s.sameBut ps t) (ok : s.memOk = true) (w : ps.contains .mem = false := by decide) :
    t.memOk = true := by
  have mem : t.exch.mem = s.exch.mem := State.sameBut_agree h .mem w
  rw [State.memOk, mem]; exact ok

/-- A step that leaves the memory, before a completion. -/
theorem State.sameBut.completed_of {r : Request} {st : Status} {d : Nat} {l : List Byte} (k : s.sameBut ps u)
    (h : u.completed t r st d l) (w : ps.contains .mem = false := by decide) : s.completed t r st d l :=
  State.completed_of_mem h (State.sameBut_agree k .mem w)

end Sys2Proof.Machine
end

section
namespace Sys2Proof.Machine
set_option Elab.async false
variable {s t u : State} {ps : List Part}

/-! ### The beginning of an enrollment (R40, R41) -/

/-- ENROLL with nothing in progress and nothing waiting. -/
theorem State.exec_enroll {r : Request} {q : List Request} (alive : s.alive = true) (ready : s.credReady = true)
    (unverified : s.cred.verify = none) (unenrolled : s.cred.enroll = none) (head : s.exch.enrollQ = r :: q) :
    exec .enroll s = .next (s.beginEnroll r).settle := by
  have same : s.beforeQuery true = s := State.beforeQuery_of_head _ (by simp [(State.credReady_iff.1 ready).2])
  change execEnroll s = _
  simp only [execEnroll, same, alive, ready, unverified, unenrolled, Option.isNone_none, Bool.and_self, if_true, head]
  rfl

/-- Check 3 of R40. -/
theorem State.enrollAuthorized_iff (r : Request) : s.enrollAuthorized r = true ↔
    if s.device = .unprovisioned then roleOfCode (r.byte 5) = some .admin ∧ r.byte 7 = 0 else s.cred.window.isSome = true := by
  unfold State.enrollAuthorized
  split_ifs <;> simp

/-- Some volume of a bind mask is not open. -/
theorem State.allOpen_eq_false (m : VolSet) : (!s.allOpen m) = allVols.any fun v => inSet m v && !(s.vol v).isOpen := by
  simp [State.allOpen, List.not_all_eq_any_not]

/-- Checks 4 to 7 of R40 for a slot and a role, in their order. -/
theorem State.enrollCheck_eq {r : Request} {i : CSlot} {role : Role} (slot : slotOfNumber (r.byte 4).toNat = some i)
    (code : roleOfCode (r.byte 5) = some role) :
    s.enrollCheck r =
      if (s.cslot i).role ≠ .empty then .error .slotInUse
      else if role = .recovery ∧ 2 ≤ allSlots.countP fun j => (s.cslot j).role = .recovery then .error .badParam
      else if role.bindsByWraps && allVols.any fun v => inSet (r.byte 7) v && !(s.vol v).isOpen then .error .keyUnavailable
      else .ok
        { req := { r with begun := true }, slot := i, role := role
          readOnly := role = .user && (r.byte 6).getLsbD 0, bind := r.byte 7, work := BitVec.ofNat 2 (min (r.byte 8).toNat 3)
          firstAdmin := s.device = .unprovisioned } := by
  simp only [State.enrollCheck, slot, code, State.allOpen_eq_false, CredSlot.occupied, List.countP_eq_length_filter,
    decide_eq_true_eq, workOf]

/-- Authorized, an ENROLL whose checks fail ends, the window's timer restarted. -/
theorem State.enrollFails (ok : s.memOk = true) (unenrolled : s.cred.enroll = none) (r : Request) (st : Status) :
    let t := ((s.rearmWindow id).complete r st 0 []).settle
    s.completed t r st 0 [] ∧ t.cred.enroll = none ∧
      s.windowShown t (s.cred.window.map (Window.rearm id)) s.cred.adminKey ∧
      s.sameBut (([.window, .pageWindow] : List Part) ++ completing ++ showing) t := by
  intro t
  have asked : s.sameBut [.window, .pageWindow] (s.rearmWindow id) := State.rearmWindow_sameBut id
  have ended : (s.rearmWindow id).sameBut (completing ++ showing) t :=
    State.sameBut_then (State.complete_sameBut r st 0 []) State.settled
  have frame : s.sameBut (([.window, .pageWindow] : List Part) ++ completing ++ showing) t := State.sameBut_then asked ended
  exact ⟨State.completed_settle ok asked r st, (State.sameBut_agree frame .credWork).2.trans unenrolled,
    ended.windowShown (State.rearmWindow_shown id), frame⟩

/-- An enrollment begun from the head of the enroll queue. -/
def State.enrollBegun (s : State) (r : Request) (e : Enrollment) : State :=
  let t := (s.rearmWindow fun _ => true).modCred fun c => { c with enroll := some e }
  (t.modExch fun x =>
    { x with enrollQ := x.enrollQ.map fun y => if y.slot = r.slot then { y with begun := true } else y }).tellKeypad .enroll

theorem State.enrollBegun_facts {r : Request} {q : List Request} (head : s.exch.enrollQ = r :: q) (e : Enrollment) :
    let t := (s.enrollBegun r e).settle
    t.cred.enroll = some e ∧ t.exch.enrollQ.head? = some { r with begun := true } ∧ t.exch.mem = s.exch.mem ∧
      t.keypad.inbox = s.keypad.inbox ++ [.enroll] ∧
      s.windowShown t (s.cred.window.map (Window.rearm fun _ => true)) s.cred.adminKey ∧
      s.sameBut (([.window, .pageWindow, .credWork, .queues, .keypadInbox, .keyOrder] : List Part) ++ showing) t := by
  intro t
  let a := s.rearmWindow fun _ => true
  let b := a.modCred fun c => { c with enroll := some e }
  let c := b.modExch fun x =>
    { x with enrollQ := x.enrollQ.map fun y => if y.slot = r.slot then { y with begun := true } else y }
  have held : s.sameBut [.window, .pageWindow] a := State.rearmWindow_sameBut _
  have begun : a.sameBut [.credWork] b := State.setEnroll_sameBut _
  have marked : b.sameBut [.queues] c := by
    intro p; cases p <;> first | exact .inl (by decide) | exact .inr (by repeat' constructor)
  have ordered : c.sameBut [.keypadInbox, .keyOrder] (s.enrollBegun r e) := State.tellKeypad_sameBut _
  have settled : (s.enrollBegun r e).sameBut showing t := State.settled
  have later : a.sameBut (([.credWork, .queues, .keypadInbox, .keyOrder] : List Part) ++ showing) t :=
    State.sameBut_then (State.sameBut_then (rs := [.credWork, .queues, .keypadInbox, .keyOrder])
      (State.sameBut_then (rs := [.credWork, .queues]) begun marked) ordered) settled
  have frame : s.sameBut (([.window, .pageWindow, .credWork, .queues, .keypadInbox, .keyOrder] : List Part) ++ showing) t :=
    State.sameBut_then held later
  have enrollQ : t.exch.enrollQ = a.exch.enrollQ.map fun y => if y.slot = r.slot then { y with begun := true } else y :=
    congrArg Exchange.enrollQ (State.sameBut_agree settled .queues)
  have queues : a.exch.queuesOnly = s.exch.queuesOnly := State.sameBut_agree held .queues
  have enrollQ' : a.exch.enrollQ = s.exch.enrollQ := (congrArg Exchange.enrollQ queues :)
  have orders : a.keypad.inbox = s.keypad.inbox := State.sameBut_agree held .keypadInbox
  refine ⟨(State.sameBut_agree settled .credWork).2, ?_, State.sameBut_agree frame .mem, ?_,
    later.windowShown (State.rearmWindow_shown _), frame⟩
  · rw [enrollQ, enrollQ', head]; simp
  · rw [← orders]; exact State.sameBut_agree settled .keypadInbox

theorem State.beginEnroll_of_ok {r : Request} {e : Enrollment} (awake : s.device ≠ .halted) (unwarned : s.cred.warned = false)
    (auth : s.enrollAuthorized r = true) (check : s.enrollCheck r = .ok e) : s.beginEnroll r = s.enrollBegun r e := by
  simp only [State.beginEnroll, if_neg awake, unwarned, auth, check, Bool.false_eq_true, if_false, Bool.not_true]
  rfl

theorem State.beginEnroll_of_error {r : Request} {st : Status} (awake : s.device ≠ .halted) (unwarned : s.cred.warned = false)
    (auth : s.enrollAuthorized r = true) (check : s.enrollCheck r = .error st) :
    s.beginEnroll r = (s.rearmWindow id).complete r st 0 [] := by
  simp only [State.beginEnroll, if_neg awake, unwarned, auth, check, Bool.false_eq_true, if_false, Bool.not_true]

end Sys2Proof.Machine

open Sys2Proof Sys2Proof.Machine

/-- Settles O43: each check of R40 in its order, and behind them the enrollment begun. -/
theorem enrollmentsBegin : Obligations.EnrollmentsBegin := by
  intro s r q alive ok ready unverified unenrolled head
  have run := State.exec_enroll alive ready unverified unenrolled head
  refine ⟨_, run, ?_⟩
  have away (st : Status) : s.completed (s.complete r st 0 []).settle r st 0 [] ∧
      s.sameBut (completing ++ showing) (s.complete r st 0 []).settle :=
    ⟨State.completed_settle ok (State.sameBut_refl (ps := [])) r st,
      State.sameBut_then (State.complete_sameBut r st 0 []) State.settled⟩
  have kept {t : State} (h : s.sameBut (completing ++ showing) t) : t.cred.window = s.cred.window :=
    (State.sameBut_agree h .window).1
  by_cases halted : s.device = .halted
  · have eq : s.beginEnroll r = s.complete r .halted 0 [] := by simp [State.beginEnroll, halted]
    rw [eq]
    obtain ⟨done, frame⟩ := away .halted
    exact ⟨State.sameBut_mono frame, fun _ => ⟨done, kept frame⟩, fun no => absurd halted no, fun no => absurd halted no,
      fun no => absurd halted no⟩
  by_cases warned : s.cred.warned = true
  · have eq : s.beginEnroll r = s.complete r .power 0 [] := by simp [State.beginEnroll, halted, warned]
    rw [eq]
    obtain ⟨done, frame⟩ := away .power
    exact ⟨State.sameBut_mono frame, fun yes => absurd yes halted, fun _ _ => ⟨done, kept frame⟩,
      fun _ no => by simp [warned] at no, fun _ no => by simp [warned] at no⟩
  replace warned : s.cred.warned = false := by simpa using warned
  by_cases auth : s.enrollAuthorized r = true
  · have check_iff := (State.enrollAuthorized_iff (s := s) r).1 auth
    have fails {st : Status} (check : s.enrollCheck r = .error st) :
        s.sameBut (([.window, .pageWindow, .credWork, .keypadInbox, .keyOrder] : List Part) ++ completing ++ showing)
            (s.beginEnroll r).settle ∧
          s.completed (s.beginEnroll r).settle r st 0 [] ∧ (s.beginEnroll r).settle.cred.enroll = none ∧
          s.rewritten (s.beginEnroll r).settle .window ∧
          (s.beginEnroll r).settle.cred.window = s.cred.window.map (Window.rearm id) := by
      rw [State.beginEnroll_of_error halted warned auth check]
      obtain ⟨done, gone, ⟨window, -, shown⟩, frame⟩ := State.enrollFails ok unenrolled r st
      exact ⟨State.sameBut_mono frame, done, gone, shown, window⟩
    refine (fun (h : _ ∧ _) => ⟨h.1, fun yes => absurd yes halted, fun _ yes => by simp [warned] at yes,
      fun _ _ no => absurd check_iff no, fun _ _ _ => h.2⟩) ?_
    cases slot : slotOfNumber (r.byte 4).toNat with
    | none => exact fails (st := .badParam) (by simp [State.enrollCheck, slot])
    | some i =>
    cases code : roleOfCode (r.byte 5) with
    | none => exact fails (st := .badParam) (by simp [State.enrollCheck, slot, code])
    | some role =>
    have checks := State.enrollCheck_eq (s := s) slot code
    dsimp only
    split_ifs at checks ⊢
    case pos => exact fails checks
    case pos => exact fails checks
    case pos => exact fails checks
    case neg =>
      rw [State.beginEnroll_of_ok halted warned auth checks]
      obtain ⟨begun, front, mem, orders, ⟨window, -, shown⟩, frame⟩ := State.enrollBegun_facts head _
      exact ⟨State.sameBut_mono frame, begun, front, mem, orders, shown, window⟩
  · have eq : s.beginEnroll r = s.complete r .notAuthorized 0 [] := by simp [State.beginEnroll, halted, warned, auth]
    rw [eq]
    obtain ⟨done, frame⟩ := away .notAuthorized
    have no := fun yes => auth ((State.enrollAuthorized_iff (s := s) r).2 yes)
    exact ⟨State.sameBut_mono frame, fun yes => absurd yes halted, fun _ yes => by simp [warned] at yes,
      fun _ _ _ => ⟨done, kept frame⟩, fun _ _ yes => absurd yes no⟩
end

section
namespace Sys2Proof.Machine
set_option Elab.async false
variable {s t u : State} {ps : List Part}

/-! ### An enrollment ends (R43, R44) -/

/-- The orders that an end of the enrollment gives the keypad unit. -/
def KeypadEnd.orders : KeypadEnd → List KeyOrder
  | .leave => []
  | .outcome a => [.outcome a]
  | .toIdle f => [.toIdle f]

theorem State.endKeypad_inbox (k : KeypadEnd) : (s.endKeypad k).keypad.inbox = s.keypad.inbox ++ k.orders := by
  cases k
  · exact (List.append_nil _).symm
  · rfl
  · rfl

/-- An enrollment has ended with a status: its request completed, nothing of it in progress, the keypad unit told, and the
window's timer restarted without its hold. -/
structure State.enrollEnded (s t : State) (e : Enrollment) (st : Status) (orders : List KeyOrder) : Prop where
  done : s.completed t e.req st 0 []
  gone : t.cred.enroll = none
  stopped : t.cred.deriv = none
  ordered : t.keypad.inbox = s.keypad.inbox ++ orders
  shown : s.windowShown t (s.cred.window.map (Window.rearm fun _ => false)) s.cred.adminKey

theorem State.endEnroll_ended {e : Enrollment} (ok : s.memOk = true) (h : s.cred.enroll = some e) (st : Status) (k : KeypadEnd) :
    s.enrollEnded (s.endEnroll st [] k) e st k.orders := by
  let a := s.modCred fun c => { c.noDerivation with enroll := none }
  let b := a.rearmWindow fun _ => false
  let c := b.endKeypad k
  have eq : s.endEnroll st [] k = c.complete e.req st 0 [] := by simp only [State.endEnroll, h]; rfl
  have ended : s.sameBut [.credWork, .deriv, .credInbox] a := by
    intro p; cases p <;> first | exact .inl (by decide) | exact .inr (by repeat' constructor)
  have rearmed : a.sameBut [.window, .pageWindow] b := State.rearmWindow_sameBut _
  have told : b.sameBut [.keypadInbox, .keyOrder] c := State.endKeypad_sameBut k
  have done : c.sameBut completing (c.complete e.req st 0 []) := State.complete_sameBut _ _ _ _
  have before : s.sameBut [.credWork, .deriv, .credInbox, .window, .pageWindow, .keypadInbox, .keyOrder] c :=
    State.sameBut_then (State.sameBut_then (rs := [.credWork, .deriv, .credInbox, .window, .pageWindow]) ended rearmed) told
  have after : a.sameBut (([.window, .pageWindow, .keypadInbox, .keyOrder] : List Part) ++ completing)
      (c.complete e.req st 0 []) :=
    State.sameBut_then (State.sameBut_then (rs := [.window, .pageWindow, .keypadInbox, .keyOrder]) rearmed told) done
  have inbox : b.keypad.inbox = s.keypad.inbox := State.sameBut_agree (State.sameBut_then (rs := [.credWork, .deriv, .credInbox,
    .window, .pageWindow]) ended rearmed) .keypadInbox
  rw [eq]
  refine ⟨before.completed_of (State.complete_completed (before.memOk ok) _ _ _ _),
    (State.sameBut_agree after .credWork).2, State.sameBut_agree after .deriv, ?_, ?_⟩
  · rw [← inbox, ← State.endKeypad_inbox]
    exact State.sameBut_agree done .keypadInbox
  · have shown := State.rearmWindow_shown (s := a) fun _ => false
    exact done.windowShown (told.windowShown (ended.windowShown_of shown))

/-- A step that leaves what an end of the enrollment is about. -/
theorem State.enrollEnded.then {e : Enrollment} {st : Status} {orders : List KeyOrder} (h : s.enrollEnded u e st orders)
    (k : u.sameBut ps t) (w : ([.mem, .queues, .attn, .credWork, .deriv, .keypadInbox, .window, .pageWindow].all
      fun p => !ps.contains p) = true := by decide) : s.enrollEnded t e st orders := by
  have out (p : Part) (hp : p ∈ [Part.mem, .queues, .attn, .credWork, .deriv, .keypadInbox, .window, .pageWindow]) :
      ps.contains p = false := by simpa using List.all_eq_true.1 w p hp
  exact ⟨k.completed h.done (out _ (by decide)) (out _ (by decide)) (out _ (by decide)),
    (State.sameBut_agree k .credWork (out _ (by decide))).2.trans h.gone,
    (State.sameBut_agree k .deriv (out _ (by decide)) : t.cred.deriv = _).trans h.stopped,
    (State.sameBut_agree k .keypadInbox (out _ (by decide)) : t.keypad.inbox = _).trans h.ordered,
    k.windowShown h.shown (out _ (by decide)) (out _ (by decide))⟩

/-- A step before the end that leaves the memory, the window and the orders. -/
theorem State.sameBut.enrollEnded {e : Enrollment} {st : Status} {orders : List KeyOrder} (k : s.sameBut ps u)
    (h : u.enrollEnded t e st orders) (w : ([.mem, .keypadInbox, .window, .pageWindow].all
      fun p => !ps.contains p) = true := by decide) : s.enrollEnded t e st orders := by
  have out (p : Part) (hp : p ∈ [Part.mem, .keypadInbox, .window, .pageWindow]) :
      ps.contains p = false := by simpa using List.all_eq_true.1 w p hp
  obtain ⟨window, key⟩ := State.sameBut_agree k .window (out _ (by decide))
  have inbox : u.keypad.inbox = s.keypad.inbox := State.sameBut_agree k .keypadInbox (out _ (by decide))
  exact ⟨k.completed_of h.done (out _ (by decide)), h.gone, h.stopped, inbox ▸ h.ordered,
    k.windowShown_of (window ▸ key ▸ h.shown) (out _ (by decide))⟩

theorem State.stopEnroll_of_committed {e : Enrollment} (h : s.cred.enroll = some e) (c : e.committed = true) (st : Status)
    (k : KeypadEnd) : s.stopEnroll st k = s := by simp [State.stopEnroll, h, c]

theorem State.stopEnroll_of_early {e : Enrollment} (h : s.cred.enroll = some e) (c : e.committed = false) (st : Status)
    (k : KeypadEnd) : s.stopEnroll st k = s.endEnroll st [] k := by simp [State.stopEnroll, h, c]

theorem State.stopEnroll_of_none (h : s.cred.enroll = none) (st : Status) (k : KeypadEnd) : s.stopEnroll st k = s := by
  simp [State.stopEnroll, h]

/-- Of the other blocks, an end of the enrollment changes what the guard has to take, and not what holds it. -/
theorem State.endEnroll_wait (st : Status) (k : KeypadEnd) : (s.endEnroll st [] k).guard.wait = s.guard.wait := by
  unfold State.endEnroll
  split
  · rfl
  · extract_lets a
    have kept : a.sameBut [.window, .pageWindow, .keypadInbox, .keyOrder] ((a.rearmWindow fun _ => false).endKeypad k) :=
      State.sameBut_then (State.rearmWindow_sameBut _) (State.endKeypad_sameBut k)
    exact (State.complete_givesRequests _ _ _ _).1.trans (State.sameBut_agree kept .guardInbox).2

/-! ### The window closes (R38) -/

/-- A close cause that finds the window OPEN, by the enrollment in progress. -/
theorem State.closeWindow_eq {w : Window} (h : s.cred.window = some w) :
    s.closeWindow = s.shutWindow ∨ ∃ e, s.cred.enroll = some e ∧ e.firstAdmin = false ∧ e.committed = false ∧
      s.closeWindow = s.shutWindow.endEnroll .notAuthorized [] (.toIdle true) := by
  have kept : s.shutWindow.cred.enroll = s.cred.enroll := (State.sameBut_agree State.shutWindow_sameBut .credWork).2
  unfold State.closeWindow
  rw [if_pos (by simp [h])]
  cases enroll : s.cred.enroll with
  | none => exact .inl rfl
  | some e =>
    dsimp only
    cases first : e.firstAdmin
    · cases committed : e.committed
      · exact .inr ⟨e, rfl, first, committed, State.stopEnroll_of_early (kept.trans enroll) committed _ _⟩
      · exact .inl (State.stopEnroll_of_committed (kept.trans enroll) committed _ _)
    · exact .inl rfl

/-- With the window CLOSED it changes nothing. -/
theorem State.closeWindow_of_closed (h : s.cred.window = none) : s.closeWindow = s := by simp [State.closeWindow, h]

/-- After a close cause the window is CLOSED, its key zero, and the section shows it. -/
theorem State.closeWindow_shown {w : Window} (h : s.cred.window = some w) : s.windowShown s.closeWindow none 0 := by
  have shut : s.windowShown s.shutWindow none 0 := State.shutWindow_shown (by simp [h])
  obtain eq | ⟨e, enroll, -, -, eq⟩ := State.closeWindow_eq h
  · exact eq ▸ shut
  · have kept : s.shutWindow.cred.enroll = some e :=
      (State.sameBut_agree State.shutWindow_sameBut .credWork).2.trans enroll
    let a := s.shutWindow.modCred fun c => { c.noDerivation with enroll := none }
    let b := a.rearmWindow fun _ => false
    have again : s.windowShown b none 0 := by
      have rearmed := State.rearmWindow_shown (s := a) fun _ => false
      have closed : a.cred.window = none := shut.1
      have zero : a.cred.adminKey = 0 := shut.2.1
      rw [closed, zero] at rearmed
      exact shut.again rearmed
    have rest : b.sameBut (([.keypadInbox, .keyOrder] : List Part) ++ completing) s.closeWindow := by
      rw [eq, State.endEnroll, kept]
      exact State.sameBut_then (State.endKeypad_sameBut _) (State.complete_sameBut _ _ _ _)
    exact rest.windowShown again

/-- An enrollment that a close cause finds in progress, other than the first ADMIN one, ends when it has not queued its record. -/
theorem State.closeWindow_ends {w : Window} {e : Enrollment} (ok : s.memOk = true) (h : s.cred.window = some w)
    (enroll : s.cred.enroll = some e) (early : e.committed = false) (other : e.firstAdmin = false) :
    s.closeWindow.cred.enroll = none ∧ s.completed s.closeWindow e.req .notAuthorized 0 [] := by
  have shut : s.sameBut [.window, .pageWindow] s.shutWindow := State.shutWindow_sameBut
  have kept : s.shutWindow.cred.enroll = some e := (State.sameBut_agree shut .credWork).2.trans enroll
  have eq : s.closeWindow = s.shutWindow.endEnroll .notAuthorized [] (.toIdle true) := by
    simp [State.closeWindow, h, enroll, other, State.stopEnroll_of_early kept early]
  obtain ⟨done, gone, -⟩ := State.endEnroll_ended (shut.memOk ok) kept .notAuthorized (.toIdle true)
  exact eq ▸ ⟨gone, shut.completed_of done⟩

theorem State.closeWindow_memOk (ok : s.memOk = true) : s.closeWindow.memOk = true := by
  have ended (a : State) (okA : a.memOk = true) : (a.endEnroll .notAuthorized [] (.toIdle true)).memOk = true := by
    unfold State.endEnroll
    split
    · exact okA
    · refine (State.complete_quietly _ _ _ _).1 ?_
      exact (State.sameBut_then (rs := [.credWork, .deriv, .credInbox, .window, .pageWindow, .keypadInbox, .keyOrder])
        (State.rearmWindow_sameBut _) (State.endKeypad_sameBut _)).memOk okA
  cases h : s.cred.window with
  | none => rw [State.closeWindow_of_closed h]; exact ok
  | some w =>
    have okS := State.shutWindow_sameBut.memOk ok
    obtain eq | ⟨e, -, -, -, eq⟩ := State.closeWindow_eq h
    · exact eq ▸ okS
    · exact eq ▸ ended _ okS

theorem State.closeWindow_wait : s.closeWindow.guard.wait = s.guard.wait := by
  have shut : s.shutWindow.guard.wait = s.guard.wait := (State.sameBut_agree State.shutWindow_sameBut .guardInbox).2
  cases h : s.cred.window with
  | none => rw [State.closeWindow_of_closed h]
  | some w =>
    obtain eq | ⟨e, -, -, -, eq⟩ := State.closeWindow_eq h
    · exact eq ▸ shut
    · exact eq ▸ (State.endEnroll_wait _ _).trans shut

/-! ### A slot that is done stays so while another completes (R166, R167) -/

/-- A slot is DONE with a status and stands in no queue. -/
def State.restsDone (s : State) (n : RSlot) (st : Status) : Prop :=
  s.memOk = true ∧ s.doneWith n st ∧ s.outOfQueues n

theorem State.completed.restsDone {r : Request} {st : Status} {d : Nat} {l : List Byte} (h : s.completed t r st d l)
    (ok : t.memOk = true) : t.restsDone r.slot st := ⟨ok, h.1.1, h.2⟩

/-- What a step must leave that a slot rests. -/
theorem State.restsDone.congr {n : RSlot} {st : Status} (h : s.restsDone n st) (mem : t.exch.mem = s.exch.mem)
    (out : s.outOfQueues n → t.outOfQueues n) : t.restsDone n st := by
  obtain ⟨ok, done, rests⟩ := h
  refine ⟨by rw [State.memOk, mem]; exact ok, ?_, out rests⟩
  simpa only [State.doneWith, State.slotByte, mem] using done

theorem State.sameBut.restsDone {n : RSlot} {st : Status} (k : s.sameBut ps t) (h : s.restsDone n st)
    (w : ps.contains .mem = false := by decide) (w' : ps.contains .queues = false := by decide) : t.restsDone n st := by
  refine h.congr (State.sameBut_agree k .mem w) fun out x hx => out x ?_
  have queues : t.exch.queuesOnly = s.exch.queuesOnly := State.sameBut_agree k .queues w'
  have lists : t.exch.sectorQ ++ t.exch.controlQ ++ t.exch.enrollQ ++ t.exch.followers =
      s.exch.sectorQ ++ s.exch.controlQ ++ s.exch.enrollQ ++ s.exch.followers :=
    (congrArg (fun x : Exchange => x.sectorQ ++ x.controlQ ++ x.enrollQ ++ x.followers) queues :)
  exact lists ▸ hx

/-- The bytes of one slot lie outside the result area of another. -/
theorem resultArea_ne {m n : RSlot} (h : m ≠ n) {k : Nat} (hk : k < 64) : ¬resultArea m (slotAddr n + k) := by
  have : m.val ≠ n.val := fun e => h (Fin.ext e)
  simp only [resultArea, slotAddr]
  omega

theorem State.setOwner_restsDone {m n : RSlot} {st : Status} (h : s.restsDone n st) (ne : m ≠ n) (b : Byte) :
    (s.setOwner m b).restsDone n st := by
  obtain ⟨ok, ⟨owner, status⟩, out⟩ := h
  have byte {k : Nat} (hk : k < 64) : (s.setOwner m b).slotByte n k = s.slotByte n k := by
    have e : readByte (s.setOwner m b).exch.mem (slotAddr n + k) = _ := readByte_writeByte ok
    rw [State.slotByte, e, if_neg fun e => resultArea_ne ne hk (.inl e)]
    rfl
  exact ⟨Memory.writeByte_wf ok, ⟨(byte (by decide)).trans owner, (byte (by decide)).trans status⟩, out⟩

theorem State.finishSlot_restsDone {m n : RSlot} {st : Status} (h : s.restsDone n st) (ne : m ≠ n) (st' : Status) (c d : Nat)
    (l : List Byte) : (s.finishSlot m st' c d l).restsDone n st := by
  obtain ⟨ok, ⟨owner, status⟩, out⟩ := h
  have byte {k : Nat} (hk : k < 64) : (s.finishSlot m st' c d l).slotByte n k = s.slotByte n k :=
    State.finishSlot_byte_ne ok (resultArea_ne ne hk) st' c d l
  obtain ⟨ok', -⟩ := State.finishSlot_writesSlots m st' c d l ok
  exact ⟨ok', ⟨(byte (by decide)).trans owner, (byte (by decide)).trans status⟩, out⟩

theorem State.claim_restsDone {m n : RSlot} {st : Status} (h : s.restsDone n st) (ne : m ≠ n) : (s.claim m).restsDone n st :=
  (State.setOwner_restsDone h ne 2).congr rfl id

theorem State.dispatch_restsDone {n : RSlot} {st : Status} (h : s.restsDone n st) : s.dispatch.restsDone n st :=
  h.congr (State.sameBut_agree State.dispatch_sameBut .mem) State.dispatch_outOfQueues

theorem State.takeInto_restsDone {m n : RSlot} {st : Status} (h : s.restsDone n st) (ne : m ≠ n) (k : Kind) :
    (s.takeInto m k).restsDone n st := by
  unfold State.takeInto
  extract_lets r t
  have claimed : t.restsDone n st := State.claim_restsDone h ne
  have slot : r.slot ≠ n := ne
  split_ifs
  · refine State.dispatch_restsDone (claimed.congr (by cases k.queue <;> rfl) fun out x hx => ?_)
    have stood : x = r ∨ x ∈ t.exch.sectorQ ++ t.exch.controlQ ++ t.exch.enrollQ ++ t.exch.followers := by
      cases h : k.queue <;> simp [h, Exchange.setQueue, Exchange.queue] at hx ⊢ <;> tauto
    exact stood.elim (fun e => e ▸ slot) (out x)
  · refine claimed.congr rfl fun out x hx => ?_
    have stood : x = r ∨ x ∈ t.exch.sectorQ ++ t.exch.controlQ ++ t.exch.enrollQ ++ t.exch.followers := by
      simp at hx ⊢; tauto
    exact stood.elim (fun e => e ▸ slot) (out x)

/-- A chain takes POSTED slots alone. -/
theorem State.settleChain_restsDone {n : RSlot} {st : Status} (fuel : Nat) (m : RSlot) (off : Int) (st' : Status)
    (h : s.restsDone n st) : (State.settleChain fuel m off st' s).1.restsDone n st := by
  induction fuel generalizing m off st' s with
  | zero => exact h
  | succ fuel ih =>
    unfold State.settleChain
    split_ifs
    · exact h
    · split
      · exact h
      · rename_i f _
        have ne (posted : s.posted f = true) : f ≠ n := by
          rintro rfl
          obtain ⟨-, ⟨owner, -⟩, -⟩ := h
          simp [State.posted, owner] at posted
        split_ifs with posted
        · have other := ne (Bool.and_eq_true_iff.1 posted).1
          split
          · exact State.finishSlot_restsDone (ih _ _ _ (State.claim_restsDone h other)) other _ _ _ _
          · exact State.takeInto_restsDone h other _
        · have other := ne (Bool.and_eq_true_iff.1 posted).1
          exact State.finishSlot_restsDone (ih _ _ _ (State.setOwner_restsDone h other 3)) other _ _ _ _
        · exact h

/-- A slot at rest stays so while another request completes. -/
theorem State.complete_restsDone {n : RSlot} {st : Status} (h : s.restsDone n st) {r : Request} (ne : r.slot ≠ n) (st' : Status)
    (d : Nat) (l : List Byte) : (s.complete r st' d l).restsDone n st := by
  let c := State.settleChain chainRounds r.slot r.offset st' s
  let f := c.1.finishSlot r.slot st' c.2 d l
  have finished : f.restsDone n st := State.finishSlot_restsDone (State.settleChain_restsDone _ _ _ _ h) ne _ _ _ _
  let v := f.modExch fun x =>
    { x with
      sectorQ := x.sectorQ.filter fun y => y.slot ≠ r.slot
      controlQ := x.controlQ.filter fun y => y.slot ≠ r.slot
      enrollQ := x.enrollQ.filter fun y => y.slot ≠ r.slot
      followers := x.followers.filter fun y => y.slot ≠ r.slot }
  have freed : v.restsDone n st := finished.congr rfl fun out x hx => out x <| by
    simp only [v, State.modExch_exch, List.mem_append, List.mem_filter] at hx ⊢
    tauto
  have promoted {a : State} (ha : a.restsDone n st) (q : QueueId) : (a.promote q).restsDone n st :=
    ha.congr (State.sameBut_agree (State.promote_sameBut q) .mem) (State.promote_outOfQueues q)
  exact State.dispatch_restsDone (promoted (promoted (promoted freed _) _) _)

end Sys2Proof.Machine
end

section
namespace Sys2Proof.Machine
set_option Elab.async false
variable {s t u : State} {ps : List Part}

/-! ### The ticks of the window (R37, R29) -/

theorem State.sameBut.credFree (h : s.sameBut ps t) (w : ps.contains .credRest = false := by decide)
    (w' : ps.contains .commits = false := by decide) : t.credFree = s.credFree := by
  obtain ⟨wait, -⟩ := State.sameBut_agree h .credRest w
  obtain ⟨-, room, -⟩ := State.sameBut_agree h .commits w'
  simp only [State.credFree, State.waitsForRoom, wait, room]

theorem State.credFree_wait (h : s.credFree = true) : s.cred.wait = .free := by
  simp [State.credFree] at h; exact h.1

/-- An event told to a unit with none waiting, and taken at once. -/
theorem State.tellCred_popCred (empty : s.cred.inbox = []) (e : CredEvent) : (s.tellCred e).popCred = s := by
  have eq : (s.tellCred e).popCred = { s with cred := { s.cred with inbox := s.cred.inbox } } := by
    simp [State.tellCred, State.popCred, State.modCred, empty]
  exact eq

/-- A tick at the head of a free unit's inbox is taken. -/
theorem State.windowTicks_succ {rest : List CredEvent} (free : s.credFree = true) (head : s.cred.inbox = .tick :: rest) (n : Nat) :
    State.windowTicks (n + 1) s = State.windowTicks n s.popCred.windowTick.settle := by
  rw [State.windowTicks, if_pos (by simp [free, head])]

theorem State.exec_windowTick_ready (alive : s.alive = true) (ready : s.credReady = true) :
    exec .windowTick s = .next s.windowTick.settle := by
  obtain ⟨free, empty⟩ := State.credReady_iff.1 ready
  have told : (s.tellCred .tick).cred.inbox = [.tick] := by simp [State.tellCred, empty]
  have free' : (s.tellCred .tick).credFree = true := (State.tellCred_sameBut _).credFree.trans free
  have taken : (s.tellCred .tick).takeWindowTicks = s.windowTick.settle := by
    rw [State.takeWindowTicks, told]
    change State.windowTicks (0 + 1) _ = _
    rw [State.windowTicks_succ free' told, State.tellCred_popCred empty]
    rfl
  change execWindowTick s = _
  rw [execWindowTick, if_pos alive, if_pos free, taken]
  rfl

/-- A tick that finds the unit held, or an older event waiting, stands behind it. -/
theorem State.exec_windowTick_waits (alive : s.alive = true)
    (h : s.credFree = false ∨ ∃ e rest, s.cred.inbox = e :: rest ∧ e ≠ .tick) :
    exec .windowTick s = .next (s.tellCred .tick) := by
  change execWindowTick s = _
  rw [execWindowTick, if_pos alive]
  obtain held | ⟨e, rest, head, other⟩ := h
  · rw [if_neg (by simp [held])]; rfl
  · have taken : (s.tellCred .tick).takeWindowTicks = s.tellCred .tick :=
      State.takeWindowTicks_of_head (by simp [State.tellCred, head, other])
    rw [taken, ite_self]; rfl

theorem State.windowTick_of_closed (h : s.cred.window = none) : s.windowTick = s := by simp [State.windowTick, h]

theorem State.windowTick_of_held {w : Window} (h : s.cred.window = some w) (held : w.held = true) : s.windowTick = s := by
  simp [State.windowTick, h, held]

theorem State.windowTick_of_last {w : Window} (h : s.cred.window = some w) (running : w.held = false) (last : w.left ≤ 1) :
    s.windowTick = s.closeWindow := by simp [State.windowTick, h, running, last]

/-- A tick with more than a second left. -/
theorem State.windowTick_counts {w : Window} (h : s.cred.window = some w) (running : w.held = false) (more : 1 < w.left) :
    s.windowShown s.windowTick (some { w with left := w.left - 1 }) s.cred.adminKey ∧
      s.sameBut [.window, .pageWindow] s.windowTick := by
  let c := s.modCred fun c => { c with window := some { w with left := w.left - 1 } }
  have eq : s.windowTick = c.refresh .window := by
    simp only [State.windowTick, h]
    rw [if_neg (by simp [running]), if_neg (Nat.not_le.2 more)]
  have counted : s.sameBut [.window] c := by
    intro p; cases p <;> first | exact .inl (by decide) | exact .inr (by repeat' constructor)
  exact eq ▸ ⟨State.modCred_windowShown _, State.sameBut_then counted (State.refresh_sameBut .window)⟩

/-- Ticks that waited, fewer than the seconds left, are all counted. -/
theorem State.windowTicks_counts (n : Nat) {s : State} {w : Window} (free : s.credFree = true)
    (ticks : s.cred.inbox = List.replicate n .tick) (h : s.cred.window = some w) (running : w.held = false) (more : n < w.left) :
    (State.windowTicks n s).cred.window = some { w with left := w.left - n } ∧ (State.windowTicks n s).cred.inbox = [] ∧
      s.sameBut (([.window, .pageWindow, .credInbox] : List Part) ++ showing) (State.windowTicks n s) := by
  induction n generalizing s w with
  | zero => exact ⟨h, ticks, State.sameBut_refl⟩
  | succ n ih =>
    have head : s.cred.inbox = .tick :: List.replicate n .tick := ticks
    have popped : s.sameBut [.credInbox] s.popCred := State.popCred_sameBut
    obtain ⟨⟨window, -⟩, counted⟩ := State.windowTick_counts (s := s.popCred) h running (by omega)
    have settled : s.popCred.windowTick.sameBut showing s.popCred.windowTick.settle := State.settled
    have inbox : s.popCred.windowTick.settle.cred.inbox = List.replicate n .tick :=
      (State.sameBut_agree (State.sameBut_then (rs := [.window, .pageWindow] ++ showing) counted settled) .credInbox).trans
        (State.popCred_inbox head)
    have frame : s.sameBut (([.window, .pageWindow, .credInbox] : List Part) ++ showing) s.popCred.windowTick.settle :=
      State.sameBut_then popped (State.sameBut_then (rs := [.window, .pageWindow] ++ showing) counted settled)
    rw [State.windowTicks_succ free head]
    obtain ⟨left, empty, rest⟩ := ih (w := { w with left := w.left - 1 }) (frame.credFree.trans free) inbox
      ((State.sameBut_agree settled .window).1.trans window) running (by dsimp only; omega)
    exact ⟨left.trans (by simp only [Nat.sub_sub, Nat.add_comm]), empty, State.sameBut_trans frame rest⟩

/-- Ticks that waited are taken with the one that comes, and all are counted. -/
theorem State.exec_windowTick_counts {n : Nat} {w : Window} (alive : s.alive = true) (free : s.credFree = true)
    (ticks : s.cred.inbox = List.replicate n .tick) (h : s.cred.window = some w) (running : w.held = false)
    (more : n + 1 < w.left) :
    ∃ t, exec .windowTick s = .next t ∧ t.cred.window = some { w with left := w.left - (n + 1) } ∧ t.cred.inbox = [] ∧
      s.sameBut (([.window, .pageWindow, .credInbox] : List Part) ++ showing) t := by
  have told : s.sameBut [.credInbox] (s.tellCred .tick) := State.tellCred_sameBut _
  have inbox : (s.tellCred .tick).cred.inbox = List.replicate (n + 1) .tick := by
    simp [State.tellCred, ticks, List.replicate_succ']
  obtain ⟨left, empty, frame⟩ :=
    State.windowTicks_counts (n + 1) (s := s.tellCred .tick) (told.credFree.trans free) inbox h running more
  have run : exec .windowTick s = .next (s.tellCred .tick).takeWindowTicks := by
    change execWindowTick s = _
    rw [execWindowTick, if_pos alive, if_pos free]
    rfl
  rw [State.takeWindowTicks, inbox, List.length_replicate] at run
  exact ⟨_, run, left, empty, State.sameBut_then told frame⟩

/-! ### WINDOW_EXPIRY and WINDOW_CLOSE (R38, R19) -/

theorem State.exec_windowExpiry_closed (h : s.cred.window = none) : exec .windowExpiry s = .next s := by
  change execWindowExpiry s = _
  simp [execWindowExpiry, h, go]

theorem State.exec_windowExpiry {w : Window} (alive : s.alive = true) (ready : s.credReady = true) (h : s.cred.window = some w)
    (running : w.held = false) (last : w.left ≤ 1) : exec .windowExpiry s = .next s.closeWindow.settle := by
  change execWindowExpiry s = _
  simp [execWindowExpiry, alive, ready, h, running, last, go]

/-- What a close cause does behind the closing: for a LOCK that waits, its end. -/
def State.closed (s : State) (forLock : Bool) : State := if forLock then s.closeWindow.lockClosed else s.closeWindow

theorem State.exec_windowClose {forLock : Bool} {rest : List CredEvent} (alive : s.alive = true) (free : s.credFree = true)
    (head : s.cred.inbox = .windowClose forLock :: rest) : exec .windowClose s = .next (s.popCred.closed forLock).settle :=
  congrArg go (State.takeCred_of_head (g := fun t => t.closed forLock) alive free head (by simp) rfl)

/-- No LOCK waits for the closing. -/
def State.noLockWaits (s : State) : Prop := ∀ r m, s.guard.wait ≠ .windowClose r m

theorem State.closed_of_unawaited {forLock : Bool} (h : forLock = false ∨ s.noLockWaits) : s.closed forLock = s.closeWindow := by
  obtain rfl | none := h
  · rfl
  · cases forLock
    · rfl
    · have wait : s.closeWindow.guard.wait = s.guard.wait := State.closeWindow_wait
      have asked : s.closed true = s.closeWindow.lockClosed := rfl
      rw [asked, State.lockClosed, wait]
      cases h : s.guard.wait with
      | windowClose r m => exact absurd h (none r m)
      | _ => rfl

theorem State.closed_of_awaited {r : Request} {m : VolSet} (h : s.guard.wait = .windowClose r m) :
    s.closed true = (s.closeWindow.guardWaits .free).complete r .ok 0 [m] := by
  have wait : s.closeWindow.guard.wait = .windowClose r m := State.closeWindow_wait.trans h
  simp only [State.closed, State.lockClosed, wait, if_true]

/-- Either the closing is all, or it ends the LOCK that waits. -/
theorem State.closed_cases (s : State) (forLock : Bool) :
    ((forLock = false ∨ s.noLockWaits) ∧ s.closed forLock = s.closeWindow) ∨
      ∃ r m, forLock = true ∧ s.guard.wait = .windowClose r m ∧
        s.closed forLock = (s.closeWindow.guardWaits .free).complete r .ok 0 [m] := by
  by_cases h : forLock = false ∨ s.noLockWaits
  · exact .inl ⟨h, State.closed_of_unawaited h⟩
  · obtain ⟨lock, waits⟩ := not_or.1 h
    obtain ⟨r, m, wait⟩ : ∃ r m, s.guard.wait = .windowClose r m := by
      simpa only [State.noLockWaits, not_forall, not_not] using waits
    have lock : forLock = true := by simpa using lock
    exact .inr ⟨r, m, lock, wait, lock ▸ State.closed_of_awaited wait⟩

/-- The LOCK that waited ends OK with the set it locked. -/
theorem State.lockEnds (ok : s.memOk = true) (r : Request) (m : VolSet) :
    ((s.guardWaits .free).complete r .ok 0 [m]).guard.wait = .free ∧
      s.completed ((s.guardWaits .free).complete r .ok 0 [m]) r .ok 0 [m] ∧
      s.sameBut completing ((s.guardWaits .free).complete r .ok 0 [m]) := by
  have freed : s.sameBut [.guardInbox] (s.guardWaits .free) := State.guardWaits_sameBut _
  exact ⟨(State.complete_givesRequests _ _ _ _).1, freed.completed_of (State.complete_completed (freed.memOk ok) _ _ _ _),
    State.sameBut_then freed (State.complete_sameBut _ _ _ _)⟩

theorem State.closed_sameBut (s : State) (forLock : Bool) : s.closeWindow.sameBut completing (s.closed forLock) := by
  obtain ⟨-, eq⟩ | ⟨r, m, -, -, eq⟩ := State.closed_cases s forLock
  · exact eq ▸ State.sameBut_refl
  · exact eq ▸ State.sameBut_then (State.guardWaits_sameBut _) (State.complete_sameBut _ _ _ _)

/-- The enrollment that the closing ends has its request done also when that of the LOCK is done behind it. -/
theorem State.closed_ends {w : Window} {e : Enrollment} (ok : s.memOk = true) (h : s.cred.window = some w)
    (enroll : s.cred.enroll = some e) (early : e.committed = false) (other : e.firstAdmin = false) (forLock : Bool)
    (apart : ∀ r m, s.guard.wait = .windowClose r m → e.req.slot ≠ r.slot) :
    (s.closed forLock).restsDone e.req.slot .notAuthorized := by
  obtain ⟨-, done⟩ := State.closeWindow_ends ok h enroll early other
  have rests : s.closeWindow.restsDone e.req.slot .notAuthorized := done.restsDone (State.closeWindow_memOk ok)
  obtain ⟨-, eq⟩ | ⟨r, m, -, wait, eq⟩ := State.closed_cases s forLock
  · exact eq ▸ rests
  · rw [eq]
    exact State.complete_restsDone ((State.guardWaits_sameBut _).restsDone rests) (apart r m wait).symm _ _ _

end Sys2Proof.Machine

open Sys2Proof Sys2Proof.Machine

/-- Settles O47: a tick or a close cause by the window it finds, and the closing by the enrollment and the LOCK it ends. -/
theorem windowCloses : Obligations.WindowCloses := by
  refine ⟨fun s alive ok open_ => ⟨fun ready => ?_, State.exec_windowExpiry_closed open_, fun forLock rest free head => ?_⟩,
    fun s w alive ok open_ => ?_⟩
  · have run := State.exec_windowTick_ready alive ready
    rw [State.windowTick_of_closed open_] at run
    exact ⟨_, run, State.settled⟩
  · have run := State.exec_windowClose alive free head
    have popped : s.sameBut [.credInbox] s.popCred := State.popCred_sameBut
    have same : s.popCred.closeWindow = s.popCred := State.closeWindow_of_closed (s := s.popCred) open_
    refine ⟨_, run, fun unawaited => ?_, fun r m lock wait => ?_⟩
    · have eq : s.popCred.closed forLock = s.popCred := (State.closed_of_unawaited (s := s.popCred) unawaited).trans same
      rw [eq]
      have settled : s.popCred.sameBut showing s.popCred.settle := State.settled
      have inbox : s.popCred.settle.cred.inbox = rest :=
        (State.sameBut_agree settled .credInbox).trans (State.popCred_inbox head)
      have unit : s.popCred.settle.cred.noEvents = s.popCred.cred.noEvents := settled.noEvents
      refine ⟨?_, State.sameBut_then popped settled⟩
      have e : s.popCred.settle.cred = { s.popCred.settle.cred.noEvents with inbox := s.popCred.settle.cred.inbox } := rfl
      rw [e, unit, inbox]
      rfl
    · subst lock
      have eq : s.popCred.closed true = (s.popCred.guardWaits .free).complete r .ok 0 [m] :=
        (State.closed_of_awaited (s := s.popCred) wait).trans (by rw [same])
      obtain ⟨freed, done, frame⟩ := State.lockEnds (popped.memOk ok) r m
      rw [eq]
      exact ⟨(State.sameBut_agree State.settled .guardInbox).2.trans freed, State.settled.completed (popped.completed_of done),
        State.sameBut_then (State.sameBut_then (rs := completing) popped frame) State.settled⟩
  · have closing : s.windowShown s.closeWindow.settle none 0 ∧ s.sameBut (enrollEnding ++ showing) s.closeWindow.settle :=
      ⟨State.settled.windowShown (State.closeWindow_shown open_), State.sameBut_then State.closeWindow_sameBut State.settled⟩
    obtain ⟨⟨shut, zero, shown⟩, frame⟩ := closing
    have ends (e : Enrollment) (enroll : s.cred.enroll = some e) (early : e.committed = false) (other : e.firstAdmin = false) :
        s.closeWindow.settle.cred.enroll = none ∧ s.completed s.closeWindow.settle e.req .notAuthorized 0 [] := by
      obtain ⟨gone, done⟩ := State.closeWindow_ends ok open_ enroll early other
      exact ⟨(State.sameBut_agree State.settled .credWork).2.trans gone, State.settled.completed done⟩
    refine ⟨fun ready => ?_, State.exec_windowTick_waits alive, fun n free ticks running more =>
      State.exec_windowTick_counts alive free ticks open_ running more,
      fun ready running last => ⟨_, State.exec_windowExpiry alive ready open_ running last, ⟨shut, zero, shown, frame⟩, ends⟩,
      fun forLock rest free head => ?_⟩
    · refine ⟨_, State.exec_windowTick_ready alive ready, fun held => ?_, fun running more => ?_, fun running last => ?_⟩
      · rw [State.windowTick_of_held open_ held]
        exact State.settled
      · obtain ⟨counted, frame⟩ := State.windowTick_counts open_ running more
        obtain ⟨window, key, shown⟩ := State.settled.windowShown counted
        exact ⟨window, key, shown, State.sameBut_then frame State.settled⟩
      · rw [State.windowTick_of_last open_ running last]
        exact ⟨⟨shut, zero, shown, frame⟩, ends⟩
    · have run := State.exec_windowClose alive free head
      have popped : s.sameBut [.credInbox] s.popCred := State.popCred_sameBut
      have okP : s.popCred.memOk = true := popped.memOk ok
      have after : s.popCred.closeWindow.sameBut (completing ++ showing) (s.popCred.closed forLock).settle :=
        State.sameBut_then (State.closed_sameBut _ _) State.settled
      obtain ⟨shut, zero, shown⟩ := after.windowShown (popped.windowShown_of (State.closeWindow_shown (s := s.popCred) open_))
      refine ⟨_, run, ⟨shut, zero, shown, State.sameBut_then (State.sameBut_then (rs := enrollEnding) popped
        State.closeWindow_sameBut) after⟩, fun unawaited e enroll early other => ?_,
        fun e enroll early other => ⟨?_, fun apart => ?_⟩,
        fun r m lock wait => ?_⟩
      · obtain ⟨gone, done⟩ := State.closeWindow_ends (s := s.popCred) okP open_ enroll early other
        rw [State.closed_of_unawaited (s := s.popCred) unawaited]
        exact ⟨(State.sameBut_agree State.settled .credWork).2.trans gone, State.settled.completed (popped.completed_of done)⟩
      · obtain ⟨gone, -⟩ := State.closeWindow_ends (s := s.popCred) okP open_ enroll early other
        exact (State.sameBut_agree after .credWork).2.trans gone
      · have rests := State.closed_ends (s := s.popCred) okP open_ enroll early other forLock apart
        obtain ⟨-, done, out⟩ := State.settled.restsDone rests
        exact ⟨done, out⟩
      · subst lock
        have eq := State.closed_of_awaited (s := s.popCred) wait
        obtain ⟨freed, done, -⟩ := State.lockEnds (State.closeWindow_memOk okP) r m
        rw [← eq] at freed done
        have settled := State.settled.completed done
        exact ⟨(State.sameBut_agree State.settled .guardInbox).2.trans freed, settled.1.1,
          State.completed_result settled (i := 2) (by decide), settled.2⟩
end

section
namespace Sys2Proof.Machine
set_option Elab.async false
variable {s t u : State} {ps : List Part}

/-! ### The search of a domain's slots (R31) -/

theorem State.nextSlot_of_first {d : Domain} {n : Nat} {j : CSlot} (from_ : n ≤ j.val) (hit : (s.cslot j).role.domain = some d)
    (first : ∀ i : CSlot, n ≤ i.val → i < j → ¬(s.cslot i).role.domain = some d) : s.nextSlot d n = some j := by
  have at_ : allSlots[j.val]'(by simp [allSlots]) = j := List.getElem_finRange _
  rw [State.nextSlot, List.find?_eq_some_iff_getElem]
  refine ⟨by simp [from_, hit], j.val, by simp [allSlots], at_, fun k hk => ?_⟩
  have before : allSlots[k]'(by simp [allSlots]; omega) = ⟨k, by omega⟩ := List.getElem_finRange _
  rw [before]
  by_cases h : n ≤ k
  · simp [h, first ⟨k, by omega⟩ h hk]
  · simp [h]

theorem State.nextSlot_of_none {d : Domain} {n : Nat} (none : ∀ j : CSlot, n ≤ j.val → ¬(s.cslot j).role.domain = some d) :
    s.nextSlot d n = .none := by
  rw [State.nextSlot, List.find?_eq_none]
  intro j _
  by_cases h : n ≤ j.val
  · simp [h, none j h]
  · simp [h]

theorem State.sameBut.cslot (k : s.sameBut ps t) (i : CSlot) (w : ps.contains .slots = false := by decide) :
    t.cslot i = s.cslot i := by
  have slots : t.cred.slots = s.cred.slots := State.sameBut_agree k .slots w
  rw [State.cslot, slots]
  rfl

/-! ### The completion of a derivation in its turn (R29) -/

/-- The derivation in flight is taken, and no completion of it is left among the events. -/
def State.derivationTaken (s : State) : State := s.modCred Credential.noDerivation

theorem State.derivationTaken_sameBut : s.sameBut [.deriv, .credInbox] s.derivationTaken := by
  intro p; cases p <;> first | exact .inl (by decide) | exact .inr (by repeat' constructor)

/-- A completion at the head, or one that comes with nothing waiting, is taken. -/
theorem State.exec_derivationDone_of_turn {x : Derivation} (alive : s.alive = true) (free : s.credFree = true)
    (turn : s.cred.inbox = [] ∨ s.cred.inbox.head? = some .derived) (flight : s.cred.deriv = some x) :
    exec .derivationDone s = .next (s.derived x).settle := by
  change execDerivationDone s = _
  unfold execDerivationDone
  obtain empty | head := turn
  · have same : s.beforeQuery s.cred.deriv.isSome = s := State.beforeQuery_of_head _ (by simp [empty])
    have ready : s.credReady = true := State.credReady_iff.2 ⟨free, empty⟩
    rw [if_neg (by simp [empty])]
    dsimp only
    rw [same, if_pos alive, flight, Option.map_some, Option.getD_some, State.derivationEnds, if_pos ready]
    rfl
  · obtain ⟨rest, inbox⟩ : ∃ rest, s.cred.inbox = .derived :: rest := List.head?_eq_some_iff.1 head
    rw [if_pos (by simp [inbox]), State.takeCred_of_head alive free inbox (by simp) (if_pos rfl)]
    have flight' : s.popCred.cred.deriv = some x := flight
    have taken : s.popCred.modCred Credential.noDerivation = s.modCred Credential.noDerivation := by
      simp [State.modCred, State.popCred, Credential.noDerivation, inbox]
    have same : s.popCred.derived x = s.derived x := by rw [State.derived, taken]; rfl
    rw [flight', Option.map_some, Option.getD_some, same]
    rfl

theorem State.derived_of_enroll {x : Derivation} {e : Enrollment} (unverified : s.cred.verify = none) (h : s.cred.enroll = some e) :
    s.derived x = s.derivationTaken.enrollDerived e (Config.derive x.digits x.salt x.work) := by
  have verify : (s.modCred Credential.noDerivation).cred.verify = none := unverified
  have enroll : (s.modCred Credential.noDerivation).cred.enroll = some e := h
  simp only [State.derived, verify, enroll]
  rfl

theorem State.derived_of_verify {x : Derivation} {v : Verification} {i : CSlot} {revoked : Bool} (h : s.cred.verify = some v)
    (phase : v.phase = .trying i revoked) :
    s.derived x = s.derivationTaken.searchDone v i revoked (Config.derive x.digits x.salt x.work) := by
  have verify : (s.modCred Credential.noDerivation).cred.verify = some v := h
  simp only [State.derived, verify, phase]
  rfl

/-- When the derivation of a slot is a match. -/
theorem State.slotMatches_iff {out : BitVec 256} {i : CSlot} {revoked : Bool} : s.slotMatches out i revoked = true ↔
    revoked = false ∧ (s.cslot i).role.domain.isSome = true ∧ out.extractLsb' 0 128 = (s.cslot i).verifier := by
  simp only [State.slotMatches, verifierOf, Bool.and_eq_true, Bool.not_eq_true', and_assoc]
  exact .and .rfl (.and .rfl ⟨of_decide_eq_true, decide_eq_true⟩)

/-! ### The stages of an enrollment (R41, R42) -/

/-- The search for a duplicate goes on from a slot number, and after the last slot the salt is drawn. -/
def State.duplicateSearched (s t : State) (d : Domain) (n : Nat) (e : Enrollment) : Prop :=
  (∀ j : CSlot, n ≤ j.val → (s.cslot j).role.domain = some d →
    (∀ i : CSlot, n ≤ i.val → i < j → ¬(s.cslot i).role.domain = some d) →
    t.cred.enroll = some { e with stage := .duplicate j false } ∧
      t.cred.deriv = some ⟨e.pin, (s.cslot j).salt, (s.cslot j).work, derivationMs (s.cslot j).work⟩) ∧
  ((∀ j : CSlot, n ≤ j.val → ¬(s.cslot j).role.domain = some d) →
    t.draws = s.draws + 1 ∧ t.cred.enroll = some { e with stage := .final, salt := Config.randomSalt s.draws } ∧
      t.cred.deriv = some ⟨e.pin, Config.randomSalt s.draws, e.work, derivationMs e.work⟩)

theorem State.duplicateFrom_searched (e : Enrollment) (d : Domain) (n : Nat) :
    s.duplicateSearched (s.duplicateFrom e d n) d n e := by
  refine ⟨fun j from_ hit first => ?_, fun none => ?_⟩
  · rw [State.duplicateFrom, State.nextSlot_of_first from_ hit first]
    exact ⟨rfl, rfl⟩
  · rw [State.duplicateFrom, State.nextSlot_of_none none]
    exact ⟨rfl, rfl, rfl⟩

/-- A step before the search that leaves the slots and the draws. -/
theorem State.sameBut.duplicateSearched {d : Domain} {n : Nat} {e : Enrollment} (k : s.sameBut ps u)
    (h : u.duplicateSearched t d n e) (w : ps.contains .slots = false := by decide)
    (w' : ps.contains .draws = false := by decide) : s.duplicateSearched t d n e := by
  have draws : u.draws = s.draws := State.sameBut_agree k .draws w'
  simpa only [State.duplicateSearched, k.cslot _ w, draws] using h

/-- A step after it that leaves the enrollment, its derivation and the draws. -/
theorem State.duplicateSearched.then {d : Domain} {n : Nat} {e : Enrollment} (h : s.duplicateSearched u d n e)
    (k : u.sameBut ps t) (w : ([.credWork, .deriv, .draws].all fun p => !ps.contains p) = true := by decide) :
    s.duplicateSearched t d n e := by
  have out (p : Part) (hp : p ∈ [Part.credWork, .deriv, .draws]) : ps.contains p = false := by
    simpa using List.all_eq_true.1 w p hp
  have enroll := (State.sameBut_agree k .credWork (out _ (by decide))).2
  have deriv : t.cred.deriv = u.cred.deriv := State.sameBut_agree k .deriv (out _ (by decide))
  have draws : t.draws = u.draws := State.sameBut_agree k .draws (out _ (by decide))
  simpa only [State.duplicateSearched, enroll, deriv, draws] using h

/-- The lengths of a PIN that R41 allows. -/
theorem lengthAllowed_iff (role : Role) (p : Policy) (n : Nat) : lengthAllowed role (keySettings p).minPin n = true ↔
    if role = .recovery then n = 16 else min (max p.minPin 6) 16 ≤ n ∧ n ≤ 16 := by
  unfold lengthAllowed keySettings
  split_ifs
  · simp
  · simp; omega

/-- The new slot built, the volumes' keys wrapped, and the record awaited. -/
theorem State.fillSlot_awaits {e : Enrollment} {out : BitVec 256} (takes : s.storeTakes = true)
    (open_ : (e.role.bindsByWraps && !s.allOpen e.bind) = false) :
    let c := s.newSlot e (verifierOf out) (kekOf out)
    let t := s.fillSlot e out
    (∀ i, t.cslot i = if i = e.slot then c else s.cslot i) ∧ t.cred.wait = .enroll ∧
      t.cred.enroll = some { e with stage := .slotCommit, kek := if e.firstAdmin then kekOf out else 0 } ∧
      t.awaits (.slot e.slot c) .credential ∧ s.sameBut [.slots, .credRest, .credWork, .commits, .storeRest] t := by
  intro c t
  let a := s.setSlot e.slot c
  let b := (a.credWaits .enroll).modCred fun x =>
    { x with enroll := some { e with stage := .slotCommit, kek := if e.firstAdmin then kekOf out else 0 } }
  have filled : s.sameBut [.slots] a := State.setSlot_sameBut _ _
  have waits : a.sameBut [.credRest, .credWork] b := by
    intro p; cases p <;> first | exact .inl (by decide) | exact .inr (by repeat' constructor)
  have takes' : b.storeTakes = true := takes
  have slot (i : CSlot) : b.cslot i = if i = e.slot then c else s.cslot i :=
    (State.setSlot_cslot s e.slot i c).trans (by simp only [eq_comm])
  have own : b.slotRec e.slot = .slot e.slot c := by rw [State.slotRec, slot, if_pos rfl]
  have queued : b.sameBut [.commits, .storeRest] (b.queueRec (b.slotRec e.slot) [.credential]) := State.queueRec_sameBut _ _
  have eq : t = b.queueRec (b.slotRec e.slot) [.credential] := by
    simp only [t, State.fillSlot]
    rw [if_neg (by simp [open_]), if_pos takes']
  rw [eq]
  exact ⟨fun i => (queued.cslot i).trans (slot i), (State.sameBut_agree queued .credRest).1,
    (State.sameBut_agree queued .credWork).2, own ▸ State.queueRec_awaits _ (List.mem_singleton.2 rfl),
    State.sameBut_then (State.sameBut_then (rs := [.slots, .credRest, .credWork]) filled waits) queued⟩

/-- An enrollment ends in a turn of the unit, behind what the turn has taken. -/
theorem State.endEnroll_taken {e : Enrollment} (ok : s.memOk = true) (k : s.sameBut [.deriv, .credInbox] u)
    (h : s.cred.enroll = some e) (st : Status) (kp : KeypadEnd) :
    s.enrollEnded (u.endEnroll st [] kp).settle e st kp.orders ∧
      s.sameBut (enrollEnding ++ showing) (u.endEnroll st [] kp).settle := by
  have enroll : u.cred.enroll = some e := (State.sameBut_agree k .credWork).2.trans h
  have ended := k.enrollEnded (State.endEnroll_ended (k.memOk ok) enroll st kp)
  exact ⟨ended.then State.settled,
    State.sameBut_then (State.sameBut_then (rs := enrollEnding) k (State.endEnroll_sameBut _ _ _)) State.settled⟩

/-- The search for a duplicate goes on in a turn of the unit. -/
theorem State.duplicateFrom_taken (k : s.sameBut [.deriv, .credInbox] u) (e : Enrollment) (d : Domain) (n : Nat) :
    s.duplicateSearched (u.duplicateFrom e d n).settle d n e ∧
      s.sameBut (.draws :: (enrollEnding ++ showing)) (u.duplicateFrom e d n).settle :=
  ⟨(k.duplicateSearched (State.duplicateFrom_searched e d n)).then State.settled,
    State.sameBut_then (State.sameBut_then (rs := [.draws, .credWork, .deriv, .credInbox]) k (State.duplicateFrom_sameBut _ _ _))
      State.settled⟩

theorem State.exec_enrollEntry {digits : List Digit} {rest : List CredEvent} (alive : s.alive = true) (free : s.credFree = true)
    (head : s.cred.inbox = .enrollEntry digits :: rest) : exec .enrollEntry s = .next (s.popCred.enrollEntry digits).settle :=
  congrArg go (State.takeCred_of_head (g := fun t => t.enrollEntry digits) alive free head (by simp) rfl)

theorem State.exec_enrollEarlyEnd {why : EarlyEnd} {rest : List CredEvent} (alive : s.alive = true) (free : s.credFree = true)
    (head : s.cred.inbox = .enrollEnd why :: rest) :
    exec .enrollEarlyEnd s = .next (s.popCred.stopEnroll why.status .leave).settle :=
  congrArg go (State.takeCred_of_head (g := fun t => t.stopEnroll why.status .leave) alive free head (by simp) rfl)

theorem State.enrollEntry_of_first {e : Enrollment} (h : s.cred.enroll = some e) (stage : e.stage = .first) (digits : List Digit) :
    s.enrollEntry digits = s.modCred fun c => { c with enroll := some { e with pin := digits, stage := .second } } := by
  simp only [State.enrollEntry, h, stage]

theorem State.enrollEntry_of_second {e : Enrollment} {d : Domain} (h : s.cred.enroll = some e) (stage : e.stage = .second)
    (domain : e.role.domain = some d) (digits : List Digit) :
    s.enrollEntry digits =
      if digits ≠ e.pin then s.endEnroll .mismatch [] (.outcome false)
      else if lengthAllowed e.role (keySettings s.store.policy).minPin digits.length = true then s.duplicateFrom e d 0
      else s.endEnroll .badLength [] (.outcome false) := by
  simp only [State.enrollEntry, h, stage, State.secondEntry, domain]
  cases lengthAllowed e.role (keySettings s.store.policy).minPin digits.length <;> rfl

/-- An event that the unit takes to no effect. -/
theorem State.popCred_settle {e : CredEvent} {rest : List CredEvent} (head : s.cred.inbox = e :: rest) :
    s.popCred.settle.cred.inbox = rest ∧ s.sameBut (.credInbox :: showing) s.popCred.settle :=
  ⟨(State.sameBut_agree State.settled .credInbox).trans (State.popCred_inbox head),
    State.sameBut_then State.popCred_sameBut State.settled⟩

end Sys2Proof.Machine

open Sys2Proof Sys2Proof.Machine

/-- Settles O44: the stages of an enrollment, each by what the unit finds when it takes the stage's report. -/
theorem enrollmentStages : Obligations.EnrollmentStages := by
  refine ⟨fun s c rest alive free none report => ?_, fun s e d alive ok free takes enroll unverified domain => ?_⟩
  · have none' : s.popCred.cred.enroll = .none := none
    obtain ⟨rfl, digits, head⟩ | ⟨rfl, why, head⟩ := report
    · have same : s.popCred.enrollEntry digits = s.popCred := by simp only [State.enrollEntry, none']
      exact ⟨_, State.exec_enrollEntry alive free head, by rw [same]; exact State.popCred_settle head⟩
    · have same : s.popCred.stopEnroll why.status .leave = s.popCred := State.stopEnroll_of_none none' _ _
      exact ⟨_, State.exec_enrollEarlyEnd alive free head, by rw [same]; exact State.popCred_settle head⟩
  intro ended inDomain searches
  have ended_of {t : State} {st : Status} {orders : List KeyOrder} (h : s.enrollEnded t e st orders) : ended t st orders := by
    obtain ⟨done, gone, stopped, ordered, window, -, shown⟩ := h
    exact ⟨done, gone, stopped, ordered, shown, window⟩
  have popped : s.sameBut [.deriv, .credInbox] s.popCred := State.sameBut_mono State.popCred_sameBut
  have taken : s.sameBut [.deriv, .credInbox] s.derivationTaken := State.derivationTaken_sameBut
  have enrollP : s.popCred.cred.enroll = some e := enroll
  refine ⟨fun digits rest head => ⟨_, State.exec_enrollEntry alive free head, ?_⟩,
    fun x i revoked turn flight stage => ⟨_, State.exec_derivationDone_of_turn alive free turn flight, ?_⟩,
    fun x turn flight stage => ⟨_, State.exec_derivationDone_of_turn alive free turn flight, ?_⟩,
    fun why rest head => ⟨_, State.exec_enrollEarlyEnd alive free head, ?_⟩⟩
  · by_cases stage : e.stage = .first
    · have settled : (s.popCred.enrollEntry digits).sameBut showing (s.popCred.enrollEntry digits).settle := State.settled
      have kept : s.popCred.sameBut [.credWork] (s.popCred.enrollEntry digits) :=
        State.enrollEntry_of_first enrollP stage digits ▸ State.setEnroll_sameBut _
      have frame : s.sameBut (([.credWork, .credInbox] : List Part) ++ showing) (s.popCred.enrollEntry digits).settle :=
        State.sameBut_then (State.sameBut_then (rs := [.credWork, .credInbox]) State.popCred_sameBut kept) settled
      refine ⟨State.sameBut_mono frame, fun _ => ⟨?_, ?_, frame⟩, fun second => by simp [stage] at second⟩
      · rw [(State.sameBut_agree settled .credWork).2, State.enrollEntry_of_first enrollP stage]
        rfl
      · exact (State.sameBut_agree (State.sameBut_then (rs := .credWork :: showing) kept settled) .credInbox).trans
          (State.popCred_inbox head)
    · by_cases second : e.stage = .second
      · have eq := State.enrollEntry_of_second enrollP second domain digits
        by_cases differ : digits ≠ e.pin
        · rw [if_pos differ] at eq
          obtain ⟨done, frame⟩ := State.endEnroll_taken ok popped enroll .mismatch (.outcome false)
          exact eq ▸ ⟨State.sameBut_mono frame, fun h => absurd h stage, fun _ =>
            ⟨fun _ => ended_of done, fun h => absurd h differ, fun h => absurd h differ⟩⟩
        · rw [if_neg differ] at eq
          have length := lengthAllowed_iff e.role s.store.policy digits.length
          split_ifs at eq with allowed
          · obtain ⟨search, frame⟩ := State.duplicateFrom_taken popped e d 0
            exact eq ▸ ⟨frame, fun h => absurd h stage, fun _ =>
              ⟨fun h => absurd h differ, fun _ h => absurd (length.1 allowed) h, fun _ _ => search⟩⟩
          · obtain ⟨done, frame⟩ := State.endEnroll_taken ok popped enroll .badLength (.outcome false)
            exact eq ▸ ⟨State.sameBut_mono frame, fun h => absurd h stage, fun _ =>
              ⟨fun h => absurd h differ, fun _ _ => ended_of done, fun _ h => absurd (length.2 h) allowed⟩⟩
      · have same : s.popCred.enrollEntry digits = s.popCred := by
          simp only [State.enrollEntry, enrollP]
          cases h : e.stage with
          | first => exact absurd h stage
          | second => exact absurd h second
          | _ => rfl
        obtain ⟨-, frame⟩ := State.popCred_settle head
        rw [same]
        exact ⟨State.sameBut_mono frame, fun h => absurd h stage, fun h => absurd h second⟩
  · rw [State.derived_of_enroll unverified enroll]
    have eq : s.derivationTaken.enrollDerived e (Config.derive x.digits x.salt x.work) =
        if s.slotMatches (Config.derive x.digits x.salt x.work) i revoked = true then
          s.derivationTaken.endEnroll .duplicate [] (.outcome false)
        else s.derivationTaken.duplicateFrom e d (i.val + 1) := by
      simp only [State.enrollDerived, stage, domain]
      rfl
    rw [eq]
    split_ifs with same
    · obtain ⟨done, frame⟩ := State.endEnroll_taken ok taken enroll .duplicate (.outcome false)
      exact ⟨State.sameBut_mono frame, fun _ => ended_of done, fun h => absurd (State.slotMatches_iff.1 same) h⟩
    · obtain ⟨search, frame⟩ := State.duplicateFrom_taken taken e d (i.val + 1)
      exact ⟨frame, fun h => absurd (State.slotMatches_iff.2 h) same, fun _ => search⟩
  · rw [State.derived_of_enroll unverified enroll]
    have eq : s.derivationTaken.enrollDerived e (Config.derive x.digits x.salt x.work) =
        s.derivationTaken.fillSlot e (Config.derive x.digits x.salt x.work) := by
      simp only [State.enrollDerived, stage]
    rw [eq]
    have shut : (!s.derivationTaken.allOpen e.bind) = allVols.any fun v => inSet e.bind v && !(s.vol v).isOpen :=
      State.allOpen_eq_false (s := s.derivationTaken) e.bind
    by_cases closed : (e.role.bindsByWraps && !s.derivationTaken.allOpen e.bind) = true
    · obtain ⟨done, frame⟩ := State.endEnroll_taken ok taken enroll .keyUnavailable (.outcome false)
      rw [State.fillSlot, if_pos closed]
      refine ⟨State.sameBut_mono frame, fun _ _ => ended_of done, fun h => ?_⟩
      rw [← shut, closed] at h
      exact absurd h (by decide)
    · have open_ := Bool.eq_false_iff.2 closed
      have takes' : s.derivationTaken.storeTakes = true := takes
      obtain ⟨slots, wait, stage, awaits, frame⟩ :=
        State.fillSlot_awaits (e := e) (out := Config.derive x.digits x.salt x.work) takes' open_
      have settled : (s.derivationTaken.fillSlot e (Config.derive x.digits x.salt x.work)).sameBut showing
        (s.derivationTaken.fillSlot e (Config.derive x.digits x.salt x.work)).settle := State.settled
      refine ⟨State.sameBut_then (State.sameBut_then (rs := [.slots, .credRest, .commits] ++ enrollEnding) taken frame) settled,
        fun binds shut' => ?_, fun _ => ⟨fun i => (settled.cslot i).trans (slots i),
          (State.sameBut_agree settled .credRest).1.trans wait, (State.sameBut_agree settled .credWork).2.trans stage,
          settled.awaits awaits⟩⟩
      rw [shut, binds, Bool.true_and] at open_
      exact absurd (open_.symm.trans shut') (by decide)
  · cases committed : e.committed
    · have eq := State.stopEnroll_of_early enrollP committed why.status .leave
      obtain ⟨done, frame⟩ := State.endEnroll_taken ok popped enroll why.status .leave
      rw [eq]
      exact ⟨by cases why <;> exact ended_of done, frame⟩
    · have same : s.popCred.stopEnroll why.status .leave = s.popCred := State.stopEnroll_of_committed enrollP committed _ _
      rw [same]
      exact State.popCred_settle head
end

section
namespace Sys2Proof.Machine
set_option Elab.async false
variable {s t u : State} {ps : List Part}

/-! ### What a completion adds to the unit's events (R165) -/

/-- What holds between the states before and after a write of the exchange and before and after a dispatch holds between
those before and after a completion. -/
theorem State.complete_rel {R : State → State → Prop} (trans : ∀ {s t u}, R s t → R t u → R s u)
    (frame : ∀ {s t : State}, s.sameBut [.mem, .queues, .attn] t → R s t) (dispatch : ∀ s, R s (State.dispatch s)) (r : Request)
    (st : Status) (d : Nat) (l : List Byte) (s : State) : R s (s.complete r st d l) := by
  have take (a : State) (n : RSlot) (k : Kind) : R a (a.takeInto n k) := by
    unfold State.takeInto
    extract_lets q t
    have claimed : a.sameBut [.mem, .queues, .attn] t := State.sameBut_mono (State.claim_sameBut n)
    have queued : t.sameBut [.mem, .queues, .attn] (t.modExch fun x => x.setQueue k.queue (x.queue k.queue ++ [q])) := by
      cases k.queue <;> (intro p; cases p <;> first | exact .inl (by decide) | exact .inr (by repeat' constructor))
    have follows : t.sameBut [.mem, .queues, .attn] (t.modExch fun x => { x with followers := x.followers ++ [q] }) := by
      intro p; cases p <;> first | exact .inl (by decide) | exact .inr (by repeat' constructor)
    split_ifs
    · exact trans (frame (State.sameBut_trans claimed queued)) (dispatch _)
    · exact frame (State.sameBut_trans claimed follows)
  have chain := State.settleChain_rel (R := R) (fun _ => frame State.sameBut_refl) trans
    (fun _ n => frame (State.sameBut_mono (State.claim_sameBut n)))
    (fun _ n b => frame (State.sameBut_mono (State.setOwner_sameBut n b)))
    (fun _ n st c d l => frame (State.sameBut_mono (State.finishSlot_sameBut n st c d l))) take chainRounds r.slot r.offset st s
  unfold State.complete
  extract_lets c t u
  have freed : t.sameBut [.mem, .queues, .attn] u := by
    intro p; cases p <;> first | exact .inl (by decide) | exact .inr (by repeat' constructor)
  have promoted : u.sameBut [.mem, .queues, .attn] (((u.promote .sector).promote .control).promote .enroll) :=
    State.sameBut_then (State.sameBut_trans (State.promote_sameBut _) (State.promote_sameBut _)) (State.promote_sameBut _)
  exact trans (trans chain (frame (State.finishSlot_sameBut _ _ _ _ _)))
    (trans (frame (State.sameBut_trans freed promoted)) (dispatch _))

/-- Events other than a tick and a completion have come behind those that wait. -/
def State.addsOthers (s t : State) : Prop :=
  ∃ l, t.cred.inbox = s.cred.inbox ++ l ∧ ∀ e ∈ l, e ≠ .tick ∧ e ≠ .derived

theorem State.addsOthers.trans (h : s.addsOthers t) (k : t.addsOthers u) : s.addsOthers u := by
  obtain ⟨l, hl, ol⟩ := h
  obtain ⟨m, hm, om⟩ := k
  exact ⟨l ++ m, by rw [hm, hl, List.append_assoc], fun e he => (List.mem_append.1 he).elim (ol e) (om e)⟩

theorem State.addsOthers_of_same (h : t.cred.inbox = s.cred.inbox) : s.addsOthers t :=
  ⟨[], by rw [h, List.append_nil], fun _ h => absurd h List.not_mem_nil⟩

/-- A dispatch gives the unit at most a REVOKE. -/
theorem State.dispatch_addsOthers (s : State) : s.addsOthers s.dispatch := by
  unfold State.dispatch
  split
  · exact State.addsOthers_of_same rfl
  · split_ifs
    · exact State.addsOthers_of_same rfl
    · extract_lets r' s'
      split <;> first | exact State.addsOthers_of_same rfl | exact ⟨[.revoke r'], rfl, by simp⟩

theorem State.complete_addsOthers (r : Request) (st : Status) (d : Nat) (l : List Byte) : s.addsOthers (s.complete r st d l) :=
  State.complete_rel (R := State.addsOthers) State.addsOthers.trans
    (fun {s t} k => State.addsOthers_of_same (State.sameBut_agree (s := s) (t := t) k .credInbox))
    State.dispatch_addsOthers r st d l s

/-! ### The ticks that wait before a completion (R29, R37) -/

/-- A number of ticks waits, before events that are neither a tick nor a completion. -/
def State.ticksWait (n : Nat) (s : State) : Prop :=
  ∃ l, s.cred.inbox = List.replicate n .tick ++ l ∧ ∀ e ∈ l, e ≠ CredEvent.tick ∧ e ≠ .derived

theorem State.ticksWait.adds {n : Nat} (h : s.ticksWait n) (k : s.addsOthers t) : t.ticksWait n := by
  obtain ⟨l, hl, ol⟩ := h
  obtain ⟨m, hm, om⟩ := k
  exact ⟨l ++ m, by rw [hm, hl, List.append_assoc], fun e he => (List.mem_append.1 he).elim (ol e) (om e)⟩

theorem State.ticksWait.then {n : Nat} (h : s.ticksWait n) (k : s.sameBut ps t) (w : ps.contains .credInbox = false := by decide) :
    t.ticksWait n := h.adds (State.addsOthers_of_same (State.sameBut_agree k .credInbox w))

/-- No completion waits behind the ticks. -/
theorem State.ticksWait.noneDerived {n : Nat} (h : s.ticksWait n) : CredEvent.derived ∉ s.cred.inbox := by
  obtain ⟨l, hl, ol⟩ := h
  intro waits
  rw [hl, List.mem_append] at waits
  obtain tick | other := waits
  · exact absurd (List.eq_of_mem_replicate tick) (by decide)
  · exact (ol _ other).2 rfl

theorem State.endEnroll_ticksWait {n : Nat} (h : s.ticksWait n) (st : Status) (k : KeypadEnd) :
    (s.endEnroll st [] k).ticksWait n := by
  unfold State.endEnroll
  split
  · exact h
  · extract_lets a
    have none := h.noneDerived
    have kept : a.cred.inbox = s.cred.inbox := List.filter_eq_self.2 fun e he => decide_eq_true fun eq => none (eq ▸ he)
    have told : a.sameBut [.window, .pageWindow, .keypadInbox, .keyOrder] ((a.rearmWindow fun _ => false).endKeypad k) :=
      State.sameBut_then (State.rearmWindow_sameBut _) (State.endKeypad_sameBut _)
    exact ((h.adds (State.addsOthers_of_same kept)).then told).adds (State.complete_addsOthers _ _ _ _)

theorem State.windowTick_ticksWait {n : Nat} (h : s.ticksWait n) : s.windowTick.ticksWait n := by
  cases window : s.cred.window with
  | none => rw [State.windowTick_of_closed window]; exact h
  | some w =>
    cases running : w.held with
    | true => rw [State.windowTick_of_held window running]; exact h
    | false =>
      by_cases last : w.left ≤ 1
      · rw [State.windowTick_of_last window running last]
        have shut : s.shutWindow.ticksWait n := h.then State.shutWindow_sameBut
        obtain eq | ⟨e, -, -, -, eq⟩ := State.closeWindow_eq window
        · exact eq ▸ shut
        · exact eq ▸ State.endEnroll_ticksWait shut _ _
      · obtain ⟨-, frame⟩ := State.windowTick_counts window running (Nat.not_le.1 last)
        exact h.then frame

/-- Of the ticks before it a completion finds none left to take, and no other completion. -/
theorem State.windowTicks_taken (n : Nat) {s : State} (h : s.ticksWait n) :
    (State.windowTicks n s).takeWindowTicks = State.windowTicks n s ∧ CredEvent.derived ∉ (State.windowTicks n s).cred.inbox := by
  induction n generalizing s with
  | zero =>
    obtain ⟨l, hl, ol⟩ := h
    refine ⟨State.takeWindowTicks_of_head fun head => ?_, State.ticksWait.noneDerived ⟨l, hl, ol⟩⟩
    have head : s.cred.inbox.head? = some .tick := head
    rw [hl, List.replicate_zero, List.nil_append] at head
    exact (ol _ (List.mem_of_head? head)).1 rfl
  | succ n ih =>
    cases free : s.credFree with
    | false =>
      have same : State.windowTicks (n + 1) s = s := by rw [State.windowTicks, if_neg (by simp [free])]
      rw [same]
      exact ⟨State.takeWindowTicks_of_held free, h.noneDerived⟩
    | true =>
      obtain ⟨l, hl, ol⟩ := h
      rw [State.windowTicks_succ free hl]
      have popped : s.popCred.ticksWait n := ⟨l, State.popCred_inbox hl, ol⟩
      exact ih ((State.windowTick_ticksWait popped).then State.settled)

/-! ### DERIVATION_DONE out of its turn (R29) -/

/-- A completion that is not to be taken at once waits. -/
theorem State.exec_derivationDone_waits {x : Derivation} (alive : s.alive = true) (ticks : s.takeWindowTicks = s)
    (unready : s.credReady = false) (none : CredEvent.derived ∉ s.cred.inbox) (flight : s.cred.deriv = some x) :
    exec .derivationDone s = .next (s.tellCred .derived) := by
  have same : s.beforeQuery s.cred.deriv.isSome = s := by unfold State.beforeQuery; split_ifs <;> simp [ticks]
  change execDerivationDone s = _
  unfold execDerivationDone
  rw [if_neg (by simpa using none)]
  dsimp only
  rw [same, if_pos alive, flight, Option.map_some, Option.getD_some, State.derivationEnds, if_neg (by simp [unready])]
  rfl

/-- A completion that waits behind another event stands where it is. -/
theorem State.exec_derivationDone_stands (alive : s.alive = true) (ticks : s.takeWindowTicks = s)
    (waits : CredEvent.derived ∈ s.cred.inbox)
    (behind : s.credFree = false ∨ ∃ e rest, s.cred.inbox = e :: rest ∧ e ≠ .derived) : exec .derivationDone s = .next s := by
  change execDerivationDone s = _
  unfold execDerivationDone
  rw [if_pos (by simpa using waits), State.takeCred, if_pos alive, ticks]
  obtain held | ⟨e, rest, head, other⟩ := behind
  · simp [State.takeNextCred, held, go]
  · simp [State.takeNextCred, head, other, go]

/-- The ticks that wait are taken before a completion that comes. -/
theorem State.exec_derivationDone_ticks {x : Derivation} {k : Nat} (alive : s.alive = true)
    (ticks : s.cred.inbox = List.replicate k .tick) (flight : s.cred.deriv = some x) :
    exec .derivationDone s = exec .derivationDone s.takeWindowTicks := by
  have waits : s.ticksWait k := ⟨[], by rw [ticks, List.append_nil], fun _ h => absurd h List.not_mem_nil⟩
  have eq : s.takeWindowTicks = State.windowTicks k s := by rw [State.takeWindowTicks, ticks, List.length_replicate]
  obtain ⟨taken, none⟩ := State.windowTicks_taken k waits
  rw [← eq] at taken none
  have none' : s.takeWindowTicks.cred.inbox.contains .derived = false := by simpa using none
  have before : s.beforeQuery s.cred.deriv.isSome = s.takeWindowTicks := by simp [State.beforeQuery, alive, flight]
  have again : s.takeWindowTicks.beforeQuery s.takeWindowTicks.cred.deriv.isSome = s.takeWindowTicks := by
    unfold State.beforeQuery; split_ifs <;> simp [taken]
  change execDerivationDone s = execDerivationDone s.takeWindowTicks
  unfold execDerivationDone
  rw [if_neg (by simpa using waits.noneDerived), none', before, again]
  rfl

/-! ### A verification goes on and ends (R30 to R34) -/

/-- A no-match has been reported, and nothing of the verification is left. -/
def State.unmatched (s t : State) (d : Domain) : Prop :=
  t.cred.verify = none ∧ t.cred.deriv = none ∧ t.lockout.inbox = s.lockout.inbox ++ [.noMatch d] ∧
    t.keypad.inbox = s.keypad.inbox ++ [.outcome false] ∧
    s.sameBut (([.credWork, .deriv, .credInbox, .lockoutRest, .keypadInbox, .keyOrder] : List Part) ++ showing) t

/-- The search for a match goes on from a slot number; after the last slot it is a no-match. -/
def State.verifySearched (s t : State) (v : Verification) (n : Nat) : Prop :=
  (∀ j : CSlot, n ≤ j.val → (s.cslot j).role.domain = some v.domain →
    (∀ i : CSlot, n ≤ i.val → i < j → ¬(s.cslot i).role.domain = some v.domain) →
    t.cred.verify = some { v with phase := .trying j false } ∧
      t.cred.deriv = some ⟨v.digits, (s.cslot j).salt, (s.cslot j).work, derivationMs (s.cslot j).work⟩ ∧
      s.sameBut (([.credWork, .deriv, .credInbox] : List Part) ++ showing) t) ∧
  ((∀ j : CSlot, n ≤ j.val → ¬(s.cslot j).role.domain = some v.domain) → s.unmatched t v.domain)

theorem State.noMatch_unmatched (k : s.sameBut [.deriv, .credInbox] u) (d : Domain) : s.unmatched (u.noMatch d).settle d := by
  have settled : (u.noMatch d).sameBut showing (u.noMatch d).settle := State.settled
  have lockout : u.lockout.inbox = s.lockout.inbox := (State.sameBut_agree k .lockoutRest).1
  have keypad : u.keypad.inbox = s.keypad.inbox := State.sameBut_agree k .keypadInbox
  refine ⟨(State.sameBut_agree settled .credWork).1, State.sameBut_agree settled .deriv, ?_, ?_, State.sameBut_then
    (State.sameBut_then (rs := [.credWork, .deriv, .credInbox, .lockoutRest, .keypadInbox, .keyOrder]) k (State.noMatch_sameBut d))
    settled⟩
  · rw [(State.sameBut_agree settled .lockoutRest).1, ← lockout]; rfl
  · rw [show (u.noMatch d).settle.keypad.inbox = _ from State.sameBut_agree settled .keypadInbox, ← keypad]; rfl

theorem State.searchFrom_verifySearched (k : s.sameBut [.deriv, .credInbox] u) (v : Verification) (n : Nat) :
    s.verifySearched (u.searchFrom v n).settle v n := by
  have settled : (u.searchFrom v n).sameBut showing (u.searchFrom v n).settle := State.settled
  refine ⟨fun j from_ hit first => ?_, fun none => ?_⟩
  · have next : u.nextSlot v.domain n = some j := by
      refine State.nextSlot_of_first from_ ?_ fun i hn hj => ?_
      · rw [k.cslot]; exact hit
      · rw [k.cslot]; exact first i hn hj
    have eq : u.searchFrom v n = (u.startDerivation v.digits (s.cslot j).salt (s.cslot j).work).modCred fun c =>
        { c with verify := some { v with phase := .trying j false } } := by simp only [State.searchFrom, next, k.cslot j]
    refine ⟨(State.sameBut_agree settled .credWork).1.trans (by rw [eq]; rfl),
      (State.sameBut_agree settled .deriv).trans (by rw [eq]; rfl), ?_⟩
    have tried : u.sameBut [.credWork, .deriv] (u.searchFrom v n) :=
      eq ▸ State.sameBut_then (State.startDerivation_sameBut _ _ _) (State.setVerify_sameBut _)
    exact State.sameBut_then (State.sameBut_then (rs := [.credWork, .deriv, .credInbox]) k tried) settled
  · have next : u.nextSlot v.domain n = .none := State.nextSlot_of_none fun j hn => by rw [k.cslot]; exact none j hn
    have eq : u.searchFrom v n = u.noMatch v.domain := by simp only [State.searchFrom, next]
    exact eq ▸ State.noMatch_unmatched k v.domain

/-- Of the unit's events, a search takes away completions alone, or none. -/
theorem State.searchFrom_inbox (v : Verification) (n : Nat) :
    (s.searchFrom v n).cred.inbox = s.cred.inbox ∨ (s.searchFrom v n).cred.inbox = s.cred.inbox.filter (· ≠ .derived) := by
  unfold State.searchFrom
  split
  · exact .inr rfl
  · exact .inl rfl

/-- Completions taken away twice. -/
theorem filter_derived_twice (l : List CredEvent) :
    (l.filter (· ≠ .derived)).filter (· ≠ .derived) = l.filter (· ≠ .derived) := by
  rw [List.filter_filter]; simp only [Bool.and_self]

/-- The open and fault orders of a match, in the order of the wrap list. -/
def State.matchOrders (s : State) (i : CSlot) (kek : Kek) (readWrite : Bool) : List GuardOrder :=
  (s.cslot i).wraps.map fun e =>
    if Config.wrapTag kek e.vol e.wrapped = e.tag then .openVolume e.vol ((Config.wrapPerm kek e.vol).symm e.wrapped) i readWrite
    else .fault e.vol

/-- A fold that tells the guard one order for each entry. -/
theorem foldl_tellGuard_inbox {α : Type} {f : State → α → State} {g : α → GuardOrder} (h : ∀ s a, f s a = s.tellGuard (g a))
    (l : List α) (s : State) : (l.foldl f s).guard.inbox = s.guard.inbox ++ l.map g := by
  induction l generalizing s with
  | nil => simp
  | cons a l ih =>
    have told : (f s a).guard.inbox = s.guard.inbox ++ [g a] := by rw [h]; rfl
    simp [ih, told]

theorem State.sendOrders_inbox (i : CSlot) (kek : Kek) (readWrite : Bool) :
    (s.sendOrders i kek readWrite).guard.inbox = s.guard.inbox ++ s.matchOrders i kek readWrite := by
  refine foldl_tellGuard_inbox (fun t e => ?_) _ _
  by_cases tag : Config.wrapTag kek e.vol e.wrapped = e.tag
  · simp [unwrap, tag]
  · simp [unwrap, tag]

/-- The match of a WIPE slot (R33). -/
theorem State.wipeMatched_facts (d : Domain) (i : CSlot) :
    let t := s.wipeMatched d i
    t.cred.verify = none ∧ t.cred.deriv = none ∧ t.lockout.inbox = s.lockout.inbox ++ [.matched d] ∧
      t.keypad.inbox = s.keypad.inbox ++ [.outcome false] ∧
      t.erase.inbox = s.erase.inbox ++ (if (s.cslot i).bind = 0 then [] else [.wipe (s.cslot i).bind]) ∧
      t.cred.inbox = s.cred.inbox.filter (· ≠ .derived) := by
  unfold State.wipeMatched
  split_ifs
  · exact ⟨rfl, rfl, rfl, rfl, (List.append_nil _).symm, rfl⟩
  · exact ⟨rfl, rfl, rfl, rfl, rfl, rfl⟩

/-- The match of a slot that opens volumes (R32). -/
theorem State.matched_facts (d : Domain) (i : CSlot) (kek : Kek) :
    let t := s.matched d i kek
    t.cred.verify = none ∧ t.cred.deriv = none ∧ t.lockout.inbox = s.lockout.inbox ++ [.matched d] ∧
      t.keypad.inbox = s.keypad.inbox ++ [.outcome true] ∧
      t.guard.inbox = s.guard.inbox ++ s.matchOrders i kek ((s.cslot i).role ≠ .user || !(s.cslot i).readOnly) ∧
      t.cred.inbox = s.cred.inbox.filter (· ≠ .derived) ∧
      if (s.cslot i).role = .user then t.cred.window = s.cred.window ∧ t.cred.adminKey = s.cred.adminKey
      else s.windowShown t (some ⟨i, 300, false⟩) kek := by
  let a := s.endVerify.tellLockout (.matched d)
  let b := a.sendOrders i kek ((s.cslot i).role ≠ .user || !(s.cslot i).readOnly)
  let c := if (s.cslot i).role = .user then b else b.openWindow i kek
  have sent : a.sameBut [.guardInbox] b := State.sendOrders_sameBut _ _ _
  have opened : b.sameBut [.window, .pageWindow, .credRest] c := by
    by_cases user : (s.cslot i).role = .user
    · simp only [c, if_pos user]; exact State.sameBut_refl
    · simp only [c, if_neg user]; exact State.openWindow_sameBut _ _
  have told : c.sameBut [.keypadInbox, .keyOrder] (c.tellKeypad (.outcome true)) := State.tellKeypad_sameBut _
  have after : a.sameBut [.guardInbox, .window, .pageWindow, .credRest] c := State.sameBut_then sent opened
  have rest : a.sameBut [.guardInbox, .window, .pageWindow, .credRest, .keypadInbox, .keyOrder] (c.tellKeypad (.outcome true)) :=
    State.sameBut_then after told
  have keypad : c.keypad.inbox = s.keypad.inbox := State.sameBut_agree after .keypadInbox
  have guard : (c.tellKeypad (.outcome true)).guard.inbox = b.guard.inbox :=
    (State.sameBut_agree (State.sameBut_then (rs := [.window, .pageWindow, .credRest, .keypadInbox, .keyOrder]) opened told)
      .guardInbox).1
  have orders : b.guard.inbox = a.guard.inbox ++ _ := State.sendOrders_inbox _ _ _
  refine ⟨(State.sameBut_agree rest .credWork).1, State.sameBut_agree rest .deriv, (State.sameBut_agree rest .lockoutRest).1, ?_,
    guard.trans orders, State.sameBut_agree rest .credInbox, ?_⟩
  · rw [← keypad]; rfl
  · split_ifs with user
    · have same : c = b := if_pos user
      have kept : a.sameBut [.guardInbox, .keypadInbox, .keyOrder] (c.tellKeypad (.outcome true)) :=
        State.sameBut_then (show a.sameBut [.guardInbox] c by rw [same]; exact sent) told
      exact State.sameBut_agree kept .window
    · have same : c = b.openWindow i kek := if_neg user
      have before : s.sameBut [.credWork, .deriv, .credInbox, .lockoutRest, .guardInbox] b :=
        State.sameBut_then (State.sameBut_then (rs := [.credWork, .deriv, .credInbox, .lockoutRest]) State.endVerify_sameBut
          (State.tellLockout_sameBut _)) sent
      exact told.windowShown (before.windowShown_of (same ▸ State.openWindow_shown i kek))

theorem State.exec_entryHanded {digits : List Digit} {d : Domain} {cadence : Bool} {rest : List CredEvent} (alive : s.alive = true)
    (free : s.credFree = true) (head : s.cred.inbox = .entry digits d cadence :: rest) :
    exec .entryHanded s = .next (s.popCred.entryHanded digits d cadence).settle :=
  congrArg go (State.takeCred_of_head (g := fun t => t.entryHanded digits d cadence) alive free head (by simp) rfl)

theorem State.exec_chargeCommitted {rest : List CredEvent} (alive : s.alive = true) (free : s.credFree = true)
    (head : s.cred.inbox = .chargeCommitted :: rest) : exec .chargeCommitted s = .next s.popCred.chargeReported.settle :=
  congrArg go (State.takeCred_of_head (g := State.chargeReported) alive free head (by simp) rfl)

end Sys2Proof.Machine

open Sys2Proof Sys2Proof.Machine

/-- Settles O46: a verification by the event the unit takes, and a completion by whether it is its turn. -/
theorem verificationRuns : Obligations.VerificationRuns := by
  refine ⟨fun s alive held => ⟨fun x none flight => ?_, fun waits => ?_⟩, fun s alive free => ?_⟩
  · exact State.exec_derivationDone_waits alive (State.takeWindowTicks_of_held held) (by simp [State.credReady, held]) none flight
  · exact State.exec_derivationDone_stands alive (State.takeWindowTicks_of_held held) waits (.inl held)
  intro unmatched searches
  have popped : s.sameBut [.deriv, .credInbox] s.popCred := State.sameBut_mono State.popCred_sameBut
  refine ⟨fun digits d cadence rest head => ⟨_, State.exec_entryHanded alive free head, ?_⟩,
    fun v rest head verify => ⟨_, State.exec_chargeCommitted alive free head, ?_⟩,
    fun k x ticks flight => State.exec_derivationDone_ticks alive ticks flight, fun e rest head other => ?_,
    fun x v i revoked turn flight verify phase => ⟨_, State.exec_derivationDone_of_turn alive free turn flight, ?_⟩⟩
  · by_cases void : s.cred.halted = true ∨ s.cred.enroll.isSome = true
    · have same : s.popCred.entryHanded digits d cadence = s.popCred := if_pos (by simpa [State.popCred] using void)
      obtain ⟨inbox, frame⟩ := State.popCred_settle head
      rw [same]
      refine ⟨inbox, fun _ => frame, fun awake none => ?_⟩
      simp [awake, none] at void
    · have eq : s.popCred.entryHanded digits d cadence = (s.popCred.modCred fun c =>
          { c with verify := some { digits := digits, domain := d, cadence := cadence, phase := .charging } }).tellLockout
          (.charge d) := if_neg (by simpa [State.popCred] using void)
      have settled : (s.popCred.entryHanded digits d cadence).sameBut showing (s.popCred.entryHanded digits d cadence).settle :=
        State.settled
      have asked : s.popCred.sameBut [.credWork, .lockoutRest] (s.popCred.entryHanded digits d cadence) :=
        eq ▸ State.sameBut_then (State.setVerify_sameBut _) (State.tellLockout_sameBut _)
      refine ⟨(State.sameBut_agree (State.sameBut_then (rs := [.credWork, .lockoutRest] ++ showing) asked settled) .credInbox).trans
        (State.popCred_inbox head), fun h => absurd h void, fun _ _ => ⟨?_, ?_, State.sameBut_then (State.sameBut_then
          (rs := [.credWork, .credInbox, .lockoutRest]) State.popCred_sameBut asked) settled⟩⟩
      · rw [(State.sameBut_agree settled .credWork).1, eq]; rfl
      · rw [(State.sameBut_agree settled .lockoutRest).1, eq]; rfl
  · have inbox := State.popCred_inbox head
    have verifyP : s.popCred.cred.verify = some v := verify
    have eq : s.popCred.chargeReported =
        if (v.cadence || v.abandoned || s.cred.warned) = true then s.popCred.noMatch v.domain else s.popCred.searchFrom v 0 := by
      simp only [State.chargeReported, verifyP]
      rfl
    rw [eq]
    split_ifs
    · refine ⟨?_, State.noMatch_unmatched popped v.domain⟩
      have taken : (s.popCred.noMatch v.domain).settle.cred.inbox = s.popCred.cred.inbox.filter (· ≠ .derived) :=
        State.sameBut_agree State.settled .credInbox
      rw [taken, inbox, filter_derived_twice]
    · refine ⟨?_, State.searchFrom_verifySearched popped v 0⟩
      rw [show (s.popCred.searchFrom v 0).settle.cred.inbox = _ from State.sameBut_agree State.settled .credInbox]
      obtain eq | eq := State.searchFrom_inbox (s := s.popCred) v 0
      · rw [eq, inbox]
      · rw [eq, inbox, filter_derived_twice]
  · have ticks : s.takeWindowTicks = s := State.takeWindowTicks_of_head (by simp [head, other])
    refine ⟨fun x none flight => State.exec_derivationDone_waits alive ticks (by simp [State.credReady, head]) none flight,
      fun waits another => State.exec_derivationDone_stands alive ticks ?_ (.inr ⟨e, rest, head, another⟩)⟩
    rw [head]; exact List.mem_cons_of_mem _ waits
  · let u := s.derivationTaken
    let out := Config.derive x.digits x.salt x.work
    have taken : s.sameBut [.deriv, .credInbox] u := State.derivationTaken_sameBut
    have inbox : u.cred.inbox = s.cred.inbox.filter (· ≠ .derived) := rfl
    have once : u.cred.inbox.filter (· ≠ .derived) = u.cred.inbox := filter_derived_twice _
    have hits := State.slotMatches_iff (s := u) (out := out) (i := i) (revoked := revoked)
    rw [State.derived_of_verify verify phase]
    unfold State.searchDone
    split_ifs with hit wipe
    · have settled : (u.wipeMatched v.domain i).sameBut showing (u.wipeMatched v.domain i).settle := State.settled
      obtain ⟨verify, deriv, lockout, keypad, erase, events⟩ := State.wipeMatched_facts (s := u) v.domain i
      have ended := (State.sameBut_agree settled .credWork).1.trans verify
      refine ⟨(State.sameBut_agree settled .credInbox).trans (events.trans once), fun h => absurd (hits.1 hit) h,
        fun _ _ => ⟨⟨ended, (State.sameBut_agree settled .deriv).trans deriv,
          (State.sameBut_agree settled .lockoutRest).1.trans lockout⟩, (State.sameBut_agree settled .keypadInbox).trans keypad,
          (State.sameBut_agree settled .eraseInbox).trans erase, ?_⟩, fun _ h => absurd wipe h⟩
      exact State.sameBut_then (State.sameBut_then (rs := [.credWork, .deriv, .credInbox, .lockoutRest, .keypadInbox, .keyOrder,
        .eraseInbox]) taken (State.wipeMatched_sameBut _ _)) settled
    · have settled : (u.matched v.domain i (kekOf out)).sameBut showing (u.matched v.domain i (kekOf out)).settle :=
        State.settled
      obtain ⟨verify, deriv, lockout, keypad, guard, events, window⟩ := State.matched_facts (s := u) v.domain i (kekOf out)
      have ended := (State.sameBut_agree settled .credWork).1.trans verify
      refine ⟨(State.sameBut_agree settled .credInbox).trans (events.trans once), fun h => absurd (hits.1 hit) h,
        fun _ h => absurd h wipe, fun _ _ => ⟨⟨ended, (State.sameBut_agree settled .deriv).trans deriv,
          (State.sameBut_agree settled .lockoutRest).1.trans lockout⟩, (State.sameBut_agree settled .keypadInbox).trans keypad,
          (State.sameBut_agree settled .guardInbox).1.trans guard, ?_, ?_⟩⟩
      · by_cases user : (s.cslot i).role = .user
        · rw [if_pos (show (u.cslot i).role = .user from user)] at window
          rw [if_pos user]
          obtain ⟨open_, key⟩ := State.sameBut_agree settled .window
          exact ⟨open_.trans window.1, key.trans window.2⟩
        · rw [if_neg (show ¬(u.cslot i).role = .user from user)] at window
          rw [if_neg user]
          obtain ⟨open_, key, shown⟩ := settled.windowShown (taken.windowShown_of window)
          exact ⟨open_, key, shown⟩
      · exact State.sameBut_then (State.sameBut_then (rs := [.credWork, .deriv, .credInbox, .lockoutRest, .keypadInbox, .keyOrder,
          .guardInbox, .window, .pageWindow, .credRest]) taken (State.matched_sameBut _ _ _)) settled
    · refine ⟨?_, fun _ => State.searchFrom_verifySearched taken v _, fun h => absurd (hits.2 h) hit,
        fun h => absurd (hits.2 h) hit⟩
      have events : (u.searchFrom v (i.val + 1)).settle.cred.inbox = (u.searchFrom v (i.val + 1)).cred.inbox :=
        State.sameBut_agree State.settled .credInbox
      exact events.trans ((State.searchFrom_inbox v _).elim id fun eq => eq.trans once)
end

section
namespace Sys2Proof.Machine
set_option Elab.async false
variable {s t u : State} {ps : List Part}

/-! ### A pass over credential slots that commits each it changes (R26, R46) -/

/-- A relation kept by each step of a fold is kept by the fold. -/
theorem foldl_rel {α : Type} {R : State → State → Prop} {f : State → α → State} (refl : ∀ s, R s s)
    (trans : ∀ {s t u}, R s t → R t u → R s u) (step : ∀ s a, R s (f s a)) (l : List α) (s : State) : R s (l.foldl f s) := by
  induction l generalizing s with
  | nil => exact refl s
  | cons a l ih => exact trans (step s a) (ih _)

/-- A step for one slot changes it alone, by `g`, and has its record awaited where `p` holds of the slot. -/
structure SlotWise (f : State → CSlot → State) (g : CredSlot → CredSlot) (p : CredSlot → Prop) : Prop where
  cslot : ∀ t i j, (f t i).cslot j = if j = i then g (t.cslot i) else t.cslot j
  awaited : ∀ t i, p (t.cslot i) → (f t i).awaits (.slot i (g (t.cslot i))) .credential
  keeps : ∀ t i j c, j ≠ i → t.awaits (.slot j c) .credential → (f t i).awaits (.slot j c) .credential

section
variable {f : State → CSlot → State} {g : CredSlot → CredSlot} {p : CredSlot → Prop}

theorem SlotWise.foldl_cslot (h : SlotWise f g p) {l : List CSlot} (nodup : l.Nodup) (s : State) (j : CSlot) :
    (l.foldl f s).cslot j = if j ∈ l then g (s.cslot j) else s.cslot j := by
  induction l generalizing s with
  | nil => rfl
  | cons i l ih =>
    obtain ⟨fresh, nodup⟩ := List.nodup_cons.1 nodup
    rw [List.foldl_cons, ih nodup, h.cslot]
    by_cases same : j = i
    · subst same; simp [fresh]
    · simp [same]

theorem SlotWise.foldl_keeps (h : SlotWise f g p) {l : List CSlot} {j : CSlot} (apart : j ∉ l) {c : CredSlot} {s : State}
    (k : s.awaits (.slot j c) .credential) : (l.foldl f s).awaits (.slot j c) .credential := by
  induction l generalizing s with
  | nil => exact k
  | cons i l ih =>
    obtain ⟨ne, apart⟩ := not_or.1 (mt List.mem_cons.2 apart)
    exact ih apart (h.keeps s i j c ne k)

theorem SlotWise.foldl_awaits (h : SlotWise f g p) {l : List CSlot} (nodup : l.Nodup) {s : State} {j : CSlot} (hj : j ∈ l)
    (hp : p (s.cslot j)) : (l.foldl f s).awaits (.slot j (g (s.cslot j))) .credential := by
  induction l generalizing s with
  | nil => exact absurd hj List.not_mem_nil
  | cons i l ih =>
    obtain ⟨fresh, nodup⟩ := List.nodup_cons.1 nodup
    by_cases same : j = i
    · subst same
      exact h.foldl_keeps fresh (h.awaited s j hp)
    · have kept : (f s i).cslot j = s.cslot j := by rw [h.cslot, if_neg same]
      exact kept ▸ ih nodup ((List.mem_cons.1 hj).resolve_left same) (kept ▸ hp)

end

theorem allSlots_nodup : allSlots.Nodup := List.nodup_finRange 16

theorem mem_allSlots (i : CSlot) : i ∈ allSlots := List.mem_finRange i

theorem State.queueRec_of_full (full : s.storeTakes = false) (r : Rec) (ws : List Waiter) : s.queueRec r ws = s := by
  simp [State.queueRec, full]

/-- A fold whose steps are made with a store that takes no record, and leave it so. -/
theorem State.foldl_sameBut_of_full {α : Type} {f : State → α → State} (step : ∀ t a, State.storeTakes t = false →
    t.sameBut ps (f t a) ∧ (f t a).storeTakes = false) (l : List α) {s : State} (full : s.storeTakes = false) :
    s.sameBut ps (l.foldl f s) := by
  induction l generalizing s with
  | nil => exact State.sameBut_refl
  | cons a l ih =>
    obtain ⟨kept, full'⟩ := step s a full
    exact State.sameBut_trans kept (ih full')

/-- A record of another slot is awaited still. -/
theorem State.awaits_queueRec_slot {i j : CSlot} {c c' : CredSlot} (k : s.awaits (.slot j c) .credential) (ne : j ≠ i) :
    (s.queueRec (.slot i c') [.credential]).awaits (.slot j c) .credential :=
  State.awaits_queueRec (r' := .slot i c') k (fun e => ne (RecId.slot.inj e)) _

/-! ### Slots made EMPTY (R45, R46) -/

theorem State.emptySlot_cslot (i j : CSlot) : (s.emptySlot i).cslot j = if j = i then {} else s.cslot j :=
  (State.setSlot_cslot s i j {}).trans (by simp only [eq_comm])

theorem State.emptySlot_slotRec (i : CSlot) : (s.emptySlot i).slotRec i = .slot i {} := by
  rw [State.slotRec, State.emptySlot_cslot, if_pos rfl]

/-- An occupied slot made EMPTY, and its record queued. -/
def State.clearSlot (s : State) (i : CSlot) : State :=
  if (s.cslot i).occupied then (s.emptySlot i).queueRec (.slot i {}) [.credential] else s

/-- An occupied slot empty. -/
def CredSlot.cleared (c : CredSlot) : CredSlot := if c.occupied then {} else c

theorem State.emptySlots_eq_foldl (l : List CSlot) : s.emptySlots l = l.foldl State.clearSlot s := by
  induction l generalizing s with
  | nil => rfl
  | cons i l ih =>
    rw [State.emptySlots, List.foldl_cons, State.clearSlot]
    split_ifs
    · dsimp only
      rw [State.emptySlot_slotRec]
      exact ih
    · exact ih

theorem State.clearSlot_slotWise : SlotWise State.clearSlot CredSlot.cleared (·.occupied = true) where
  cslot t i j := by
    unfold State.clearSlot CredSlot.cleared
    by_cases occupied : (t.cslot i).occupied = true
    · rw [if_pos occupied, if_pos occupied, (State.queueRec_sameBut _ _).cslot, State.emptySlot_cslot]
    · rw [if_neg occupied, if_neg occupied]
      split_ifs with same
      · rw [same]
      · rfl
  awaited t i occupied := by
    rw [State.clearSlot, CredSlot.cleared, if_pos occupied, if_pos occupied]
    exact State.queueRec_awaits _ (List.mem_singleton.2 rfl)
  keeps t i j c ne k := by
    unfold State.clearSlot
    split_ifs
    · exact State.awaits_queueRec_slot ((State.emptySlot_sameBut i).awaits k) ne
    · exact k

/-- The store takes records as before, its DEVICE record is as it was, and no enrollment has come. -/
def State.unitKept (s t : State) : Prop :=
  t.storeTakes = s.storeTakes ∧ t.store.device = s.store.device ∧ (s.cred.enroll = none → t.cred.enroll = none)

theorem State.unitKept.trans (h : s.unitKept t) (k : t.unitKept u) : s.unitKept u := by
  obtain ⟨takes, device, none⟩ := h
  obtain ⟨takes', device', none'⟩ := k
  exact ⟨takes'.trans takes, device'.trans device, fun e => none' (none e)⟩

theorem State.emptySlots_unitKept (l : List CSlot) : s.unitKept (s.emptySlots l) := by
  rw [State.emptySlots_eq_foldl]
  refine foldl_rel (R := State.unitKept) (fun _ => ⟨rfl, rfl, id⟩) State.unitKept.trans (fun t i => ?_) l s
  unfold State.clearSlot
  split_ifs
  · have queued : (t.emptySlot i).sameBut [.commits, .storeRest] ((t.emptySlot i).queueRec (.slot i {}) [.credential]) :=
      State.queueRec_sameBut _ _
    refine ⟨State.queueRec_storeTakes _ _, State.queueRec_device _ _, fun none => ?_⟩
    have mapped : (t.emptySlot i).cred.enroll = .none := by simp [State.emptySlot, State.markRevoked, State.setSlot, none]
    exact (State.sameBut_agree queued .credWork).2.trans mapped
  · exact ⟨rfl, rfl, id⟩

theorem State.emptySlots_sameBut (l : List CSlot) : s.sameBut [.slots, .credWork, .commits, .storeRest] (s.emptySlots l) := by
  rw [State.emptySlots_eq_foldl]
  refine foldl_sameBut (fun t i => ?_) l
  unfold State.clearSlot
  split_ifs
  · exact State.sameBut_then (State.emptySlot_sameBut i) (State.queueRec_sameBut _ _)
  · exact State.sameBut_refl

/-- With a store that takes no record the slots alone change, and who tries or enrolls them. -/
theorem State.emptySlots_sameBut_of_full (full : s.storeTakes = false) (l : List CSlot) :
    s.sameBut [.slots, .credWork] (s.emptySlots l) := by
  rw [State.emptySlots_eq_foldl]
  refine State.foldl_sameBut_of_full (fun t i full => ?_) l full
  have full' : (t.emptySlot i).storeTakes = false := full
  unfold State.clearSlot
  split_ifs
  · rw [State.queueRec_of_full full']
    exact ⟨State.emptySlot_sameBut i, full'⟩
  · exact ⟨State.sameBut_refl, full⟩

theorem State.emptySlots_cslot (i : CSlot) :
    (s.emptySlots allSlots).cslot i = if (s.cslot i).occupied then {} else s.cslot i := by
  rw [State.emptySlots_eq_foldl, State.clearSlot_slotWise.foldl_cslot allSlots_nodup, if_pos (mem_allSlots i)]
  rfl

theorem State.emptySlots_awaits {i : CSlot} (occupied : (s.cslot i).occupied = true) :
    (s.emptySlots allSlots).awaits (.slot i {}) .credential := by
  have cleared : (s.cslot i).cleared = {} := if_pos occupied
  rw [State.emptySlots_eq_foldl]
  exact cleared ▸ State.clearSlot_slotWise.foldl_awaits allSlots_nodup (mem_allSlots i) occupied

/-! ### A volume taken out of the wrap lists (R26) -/

/-- A slot without its wrap entry for a volume, and its record queued. -/
def State.stripSlot (v : Vol) (s : State) (i : CSlot) : State :=
  (s.setSlot i ((s.cslot i).unbind v)).queueRec (.slot i ((s.cslot i).unbind v)) [.credential]

theorem State.removeWraps_eq_foldl (v : Vol) :
    s.removeWraps v [.credential] = (s.slotsNaming v).foldl (State.stripSlot v) s := by
  have step : (fun t i => (State.setSlot t i ((t.cslot i).unbind v)).queueRec
      ((t.setSlot i ((t.cslot i).unbind v)).slotRec i) [.credential]) = State.stripSlot v := by
    funext t i
    rw [State.stripSlot, State.slotRec, State.setSlot_cslot, if_pos rfl]
  exact congrArg (fun f => (s.slotsNaming v).foldl f s) step

theorem State.stripSlot_slotWise (v : Vol) : SlotWise (State.stripSlot v) (·.unbind v) (fun _ => True) where
  cslot t i j := by
    rw [State.stripSlot, (State.queueRec_sameBut _ _).cslot, State.setSlot_cslot]
    simp only [eq_comm]
  awaited t i _ := State.queueRec_awaits _ (List.mem_singleton.2 rfl)
  keeps t i j c ne k := State.awaits_queueRec_slot ((State.setSlot_sameBut _ _).awaits k) ne

theorem State.mem_slotsNaming {v : Vol} {i : CSlot} : i ∈ s.slotsNaming v ↔ (s.cslot i).names v = true := by
  simp [State.slotsNaming, mem_allSlots]

theorem State.slotsNaming_nodup (v : Vol) : (s.slotsNaming v).Nodup := allSlots_nodup.filter _

theorem State.removeWraps_cslot (v : Vol) (i : CSlot) : (s.removeWraps v [.credential]).cslot i =
    if (s.cslot i).names v then (s.cslot i).unbind v else s.cslot i := by
  rw [State.removeWraps_eq_foldl, (State.stripSlot_slotWise v).foldl_cslot (State.slotsNaming_nodup v)]
  simp only [State.mem_slotsNaming]

theorem State.removeWraps_awaits {v : Vol} {i : CSlot} (names : (s.cslot i).names v = true) :
    (s.removeWraps v [.credential]).awaits ((s.removeWraps v [.credential]).slotRec i) .credential := by
  rw [State.slotRec, State.removeWraps_cslot, if_pos names, State.removeWraps_eq_foldl]
  exact (State.stripSlot_slotWise v).foldl_awaits (State.slotsNaming_nodup v) (State.mem_slotsNaming.2 names) trivial

theorem State.removeWraps_storeTakes (v : Vol) (ws : List Waiter) : (s.removeWraps v ws).storeTakes = s.storeTakes := by
  unfold State.removeWraps
  refine foldl_rel (R := fun s t => t.storeTakes = s.storeTakes) (fun _ => rfl) (fun h k => k.trans h) (fun t i => ?_) _ s
  exact State.queueRec_storeTakes _ _

/-- With a store that takes no record the slots alone change. -/
theorem State.removeWraps_sameBut_of_full (full : s.storeTakes = false) (v : Vol) (ws : List Waiter) :
    s.sameBut [.slots] (s.removeWraps v ws) := by
  refine State.foldl_sameBut_of_full (fun t i full => ?_) _ full
  have full' : (t.setSlot i ((t.cslot i).unbind v)).storeTakes = false := full
  rw [State.queueRec_of_full full']
  exact ⟨State.setSlot_sameBut _ _, full'⟩

end Sys2Proof.Machine
end

section
namespace Sys2Proof.Machine
set_option Elab.async false
variable {s t u : State} {ps : List Part}

/-! ### REVOKE (R45) -/

theorem State.exec_revoke {r : Request} {rest : List CredEvent} (alive : s.alive = true) (free : s.credFree = true)
    (head : s.cred.inbox = .revoke r :: rest) :
    exec .revoke s = .next (if s.device = .halted then s.popCred.complete r .halted 0 []
      else if s.cred.warned then s.popCred.complete r .power 0 [] else s.popCred.revokeRequest r).settle :=
  congrArg go (State.takeCred_of_head
    (g := fun t => if t.device = .halted then t.complete r .halted 0 [] else if t.cred.warned then t.complete r .power 0 []
      else t.revokeRequest r) alive free head (by simp) rfl)

/-- The slot made EMPTY, the unit held, and its record queued. -/
def State.revokeSlot (s : State) (r : Request) (i : CSlot) : State :=
  ((s.emptySlot i).credWaits (.revoke r (s.cslot i).role i)).queueRec (.slot i {}) [.credential]

theorem State.revokeRequest_of_closed (h : s.cred.window = none) (r : Request) :
    s.revokeRequest r = s.complete r .notAuthorized 0 [] := by simp [State.revokeRequest, State.authorize, h]

/-- Authorized, a REVOKE restarts the window's timer and takes its checks in their order. -/
theorem State.revokeRequest_of_open {w : Window} (takes : s.storeTakes = true) (h : s.cred.window = some w) (r : Request) :
    s.revokeRequest r =
      match slotOfNumber (r.byte 4).toNat with
      | none => (s.rearmWindow id).complete r .badParam 0 []
      | some i =>
        if (s.cslot i).role = .empty then (s.rearmWindow id).complete r .badParam 0 []
        else if ((s.cslot i).role = .admin && !allSlots.any fun j => j ≠ i && (s.cslot j).role = .admin) = true then
          (s.rearmWindow id).complete r .lastAdmin 0 []
        else (s.rearmWindow id).revokeSlot r i := by
  have authorized : s.authorize = some (s.rearmWindow id) := by simp [State.authorize, h]
  have same (j : CSlot) : (s.rearmWindow id).cslot j = s.cslot j := (State.rearmWindow_sameBut id).cslot j
  rw [State.revokeRequest, authorized]
  dsimp only
  cases slotOfNumber (r.byte 4).toNat with
  | none => rfl
  | some i =>
    have takes' : (((s.rearmWindow id).emptySlot i).credWaits (.revoke r ((s.rearmWindow id).cslot i).role i)).storeTakes = true :=
      (State.rearmWindow_sameBut (s := s) id).storeTakes.trans takes
    have own : ((((s.rearmWindow id).emptySlot i).credWaits (.revoke r ((s.rearmWindow id).cslot i).role i))).slotRec i =
        .slot i {} := State.emptySlot_slotRec i
    dsimp only
    rw [if_pos takes', own, State.revokeSlot]
    simp only [same, CredSlot.occupied, State.otherAdmin, decide_not, Bool.not_not, decide_eq_true_eq]

/-- A slot revoked: EMPTY, its record awaited, and a verification that tries it not to match. -/
theorem State.revokeSlot_facts (r : Request) (i : CSlot) :
    let t := s.revokeSlot r i
    (∀ j, t.cslot j = if j = i then {} else s.cslot j) ∧ t.cred.wait = .revoke r (s.cslot i).role i ∧
      t.awaits (.slot i {}) .credential ∧
      (∀ v b, s.cred.verify = some v → v.phase = .trying i b → t.cred.verify = some { v with phase := .trying i true }) ∧
      s.sameBut [.slots, .credWork, .credRest, .commits, .storeRest] t := by
  intro t
  let a := (s.emptySlot i).credWaits (.revoke r (s.cslot i).role i)
  have queued : a.sameBut [.commits, .storeRest] t := State.queueRec_sameBut _ _
  have emptied : s.sameBut [.slots, .credWork, .credRest] a :=
    State.sameBut_then (State.emptySlot_sameBut i) (State.credWaits_sameBut _)
  refine ⟨fun j => (queued.cslot j).trans (State.emptySlot_cslot i j), (State.sameBut_agree queued .credRest).1,
    State.queueRec_awaits _ (List.mem_singleton.2 rfl), fun v b verify phase => ?_, State.sameBut_then emptied queued⟩
  rw [(State.sameBut_agree queued .credWork).1]
  simp [a, State.credWaits, State.emptySlot, State.markRevoked, State.setSlot, verify, phase]

/-- A request turned away with the window's timer restarted. -/
theorem State.rearmed_fails {w : Window} (ok : s.memOk = true) (h : s.cred.window = some w) (r : Request) (st : Status) :
    let t := ((s.popCred.rearmWindow id).complete r st 0 []).settle
    s.windowShown t (some { w with left := 300 }) s.cred.adminKey ∧ s.completed t r st 0 [] ∧ t.cred.slots = s.cred.slots ∧
      s.sameBut (([.window, .pageWindow] : List Part) ++ completing ++ showing) t := by
  intro t
  have popped : s.sameBut [.credInbox] s.popCred := State.popCred_sameBut
  have rearmed : s.popCred.sameBut [.window, .pageWindow] (s.popCred.rearmWindow id) := State.rearmWindow_sameBut id
  have before : s.sameBut [.window, .pageWindow, .credInbox] (s.popCred.rearmWindow id) := State.sameBut_then popped rearmed
  have ended : (s.popCred.rearmWindow id).sameBut (completing ++ showing) t :=
    State.sameBut_then (State.complete_sameBut _ _ _ _) State.settled
  have frame : s.sameBut (([.window, .pageWindow] : List Part) ++ completing ++ showing) t := State.sameBut_then before ended
  have shown := State.rearmWindow_shown (s := s.popCred) id
  rw [show s.popCred.cred.window = some w from h] at shown
  exact ⟨ended.windowShown (popped.windowShown_of shown), State.completed_settle ok before r st, State.sameBut_agree frame .slots,
    frame⟩

/-! ### The factory revocation (R46) -/

theorem State.endEnroll_storeKept (st : Status) (k : KeypadEnd) : s.storeKept (s.endEnroll st [] k) := by
  unfold State.endEnroll
  split
  · rfl
  · extract_lets a
    have told : a.sameBut [.window, .pageWindow, .keypadInbox, .keyOrder] ((a.rearmWindow fun _ => false).endKeypad k) :=
      State.sameBut_then (State.rearmWindow_sameBut _) (State.endKeypad_sameBut _)
    exact (State.storeKept_of_store told.store).trans (State.complete_storeKept _ _ _ _)

theorem State.stopEnroll_storeKept (st : Status) (k : KeypadEnd) : s.storeKept (s.stopEnroll st k) := by
  unfold State.stopEnroll
  split
  · rfl
  · split_ifs
    · rfl
    · exact State.endEnroll_storeKept _ _

/-- The closing of a window, found CLOSED or OPEN. -/
theorem State.shutWindow_facts :
    s.shutWindow.cred.window = none ∧ (s.cred.window.isSome = true → s.shutWindow.cred.adminKey = 0) := by
  cases h : s.cred.window with
  | none => rw [State.shutWindow_of_closed h]; exact ⟨h, fun e => absurd e (by simp)⟩
  | some w =>
    obtain ⟨none, key, -⟩ := State.shutWindow_shown (s := s) (by simp [h])
    exact ⟨none, fun _ => key⟩

theorem State.endEnroll_window (st : Status) (k : KeypadEnd) :
    (s.endEnroll st [] k).cred.window.isSome = s.cred.window.isSome := by
  unfold State.endEnroll
  split
  · rfl
  · rename_i e _
    extract_lets a
    have rest : (a.rearmWindow fun _ => false).sameBut (([.keypadInbox, .keyOrder] : List Part) ++ completing)
        (((a.rearmWindow fun _ => false).endKeypad k).complete e.req st 0 []) :=
      State.sameBut_then (State.endKeypad_sameBut k) (State.complete_sameBut _ _ _ _)
    rw [(State.sameBut_agree rest .window).1, (State.rearmWindow_shown (s := a) _).1, Option.isSome_map]
    rfl

theorem State.stopEnroll_window (st : Status) (k : KeypadEnd) :
    (s.stopEnroll st k).cred.window.isSome = s.cred.window.isSome := by
  unfold State.stopEnroll
  split
  · rfl
  · split_ifs
    · rfl
    · exact State.endEnroll_window _ _

/-- The factory order up to the last of its commits: the enrollment ended, the window closed, the slots EMPTY, the
provisioned flag cleared. -/
def State.factoryCleared (s : State) : State :=
  (((s.stopEnroll .keypadAbort (.toIdle false)).shutWindow).emptySlots allSlots).modStore fun x =>
    { x with device := { x.device with provisioned := false } }

theorem State.clearProvisioned_sameBut :
    s.sameBut [.storeRest] (s.modStore fun x => { x with device := { x.device with provisioned := false } }) := by
  intro p; cases p <;> first | exact .inl (by decide) | exact .inr (by repeat' constructor)

theorem State.exec_factoryRevocation {rest : List CredEvent} (alive : s.alive = true) (free : s.credFree = true)
    (head : s.cred.inbox = .factory :: rest) : exec .factoryRevocation s = .next s.popCred.factoryRevoke.settle :=
  congrArg go (State.takeCred_of_head (g := State.factoryRevoke) alive free head (by simp) rfl)

theorem State.factoryRevoke_eq : s.factoryRevoke =
    if s.storeTakes then
      (s.factoryCleared.credWaits (.factory ((allSlots.countP fun i => (s.cslot i).occupied) + 1))).queueRec
        (.device s.factoryCleared.store.device) [.credential]
    else s.factoryCleared := by
  have takes : s.factoryCleared.storeTakes = s.storeTakes := by
    obtain ⟨stopped, -⟩ := (State.stopEnroll_storeKept (s := s) .keypadAbort (.toIdle false)).fields
    obtain ⟨emptied, -⟩ := State.emptySlots_unitKept (s := (s.stopEnroll .keypadAbort (.toIdle false)).shutWindow) allSlots
    exact emptied.trans (State.shutWindow_sameBut.storeTakes.trans stopped)
  rw [← takes, List.countP_eq_length_filter]
  rfl

/-- What the factory order leaves of the credential unit and of the DEVICE record. -/
structure State.factoryRevoked (s t : State) : Prop where
  slots : ∀ i, t.cslot i = if (s.cslot i).occupied then {} else s.cslot i
  device : t.store.device = { s.store.device with provisioned := false }
  closed : t.cred.window = none
  zeroed : s.cred.window.isSome = true → t.cred.adminKey = 0
  ends : ∀ e, s.cred.enroll = some e → e.committed = false → t.cred.enroll = none ∧ s.completed t e.req .keypadAbort 0 [] ∧
    t.keypad.inbox = s.keypad.inbox ++ [.toIdle false]

theorem State.factoryCleared_facts (ok : s.memOk = true) :
    s.factoryRevoked s.factoryCleared ∧
      (∀ i, (s.cslot i).occupied = true → s.factoryCleared.awaits (.slot i {}) .credential) := by
  let a := s.stopEnroll .keypadAbort (.toIdle false)
  let b := a.shutWindow
  let c := b.emptySlots allSlots
  have stopped : s.sameBut enrollEnding a := State.stopEnroll_sameBut _ _
  have shut : a.sameBut [.window, .pageWindow] b := State.shutWindow_sameBut
  have emptied : b.sameBut [.slots, .credWork, .commits, .storeRest] c := State.emptySlots_sameBut _
  have cleared : c.sameBut [.storeRest] s.factoryCleared := State.clearProvisioned_sameBut
  have after : b.sameBut [.slots, .credWork, .commits, .storeRest] s.factoryCleared := State.sameBut_then emptied cleared
  have late : a.sameBut [.window, .pageWindow, .slots, .credWork, .commits, .storeRest] s.factoryCleared :=
    State.sameBut_then shut after
  obtain ⟨none, zero⟩ := State.shutWindow_facts (s := a)
  obtain ⟨window, key⟩ := State.sameBut_agree after .window
  have slot (i : CSlot) : b.cslot i = s.cslot i := (shut.cslot i).trans (stopped.cslot i)
  obtain ⟨-, device, enroll⟩ := State.emptySlots_unitKept (s := b) allSlots
  have record : b.store.device = s.store.device := by
    obtain ⟨-, -, kept, -⟩ := (State.stopEnroll_storeKept (s := s) .keypadAbort (.toIdle false)).fields
    rw [shut.store]; exact kept
  refine ⟨⟨fun i => ?_, ?_, window.trans none, fun open_ => key.trans (zero ((State.stopEnroll_window _ _).trans open_)),
    fun e progress early => ?_⟩, fun i occupied => ?_⟩
  · have eq : s.factoryCleared.cslot i = if (b.cslot i).occupied then {} else b.cslot i :=
      (cleared.cslot i).trans (State.emptySlots_cslot i)
    rwa [slot] at eq
  · rw [← record, ← device]; rfl
  · have ended := State.endEnroll_ended ok progress .keypadAbort (.toIdle false)
    rw [← State.stopEnroll_of_early progress early] at ended
    have gone : b.cred.enroll = .none := (State.sameBut_agree shut .credWork).2.trans ended.gone
    exact ⟨enroll gone, late.completed ended.done, (State.sameBut_agree late .keypadInbox).trans ended.ordered⟩
  · have waits : c.awaits (.slot i {}) .credential := State.emptySlots_awaits (by rw [slot]; exact occupied)
    exact waits

/-- A step that leaves what the factory order has done. -/
theorem State.factoryRevoked.then (h : s.factoryRevoked u) (k : u.sameBut ps t) (device : t.store.device = u.store.device)
    (w : ([.slots, .window, .credWork, .mem, .queues, .attn, .keypadInbox].all fun p => !ps.contains p) = true := by decide) :
    s.factoryRevoked t := by
  have out (p : Part) (hp : p ∈ [Part.slots, .window, .credWork, .mem, .queues, .attn, .keypadInbox]) :
      ps.contains p = false := by simpa using List.all_eq_true.1 w p hp
  obtain ⟨window, key⟩ := State.sameBut_agree k .window (out _ (by decide))
  refine ⟨fun i => (k.cslot i (out _ (by decide))).trans (h.slots i), device.trans h.device, window.trans h.closed,
    fun open_ => key.trans (h.zeroed open_), fun e progress early => ?_⟩
  obtain ⟨gone, done, ordered⟩ := h.ends e progress early
  exact ⟨(State.sameBut_agree k .credWork (out _ (by decide))).2.trans gone,
    k.completed done (out _ (by decide)) (out _ (by decide)) (out _ (by decide)),
    (State.sameBut_agree k .keypadInbox (out _ (by decide)) : t.keypad.inbox = _).trans ordered⟩

theorem State.factoryCleared_sameBut : s.sameBut (([.slots, .commits] : List Part) ++ enrollEnding) s.factoryCleared := by
  exact State.sameBut_then (State.sameBut_then (rs := ([.slots, .commits] : List Part) ++ enrollEnding) (State.sameBut_then
    (rs := enrollEnding) (State.stopEnroll_sameBut _ _) State.shutWindow_sameBut) (State.emptySlots_sameBut _))
    State.clearProvisioned_sameBut

theorem State.factoryCleared_sameBut_of_full (full : s.storeTakes = false) :
    s.sameBut (.slots :: enrollEnding) s.factoryCleared := by
  obtain ⟨stopped, -⟩ := (State.stopEnroll_storeKept (s := s) .keypadAbort (.toIdle false)).fields
  have full' := State.shutWindow_sameBut.storeTakes.trans (stopped.trans full)
  exact State.sameBut_then (State.sameBut_then (rs := .slots :: enrollEnding) (State.sameBut_then
    (rs := enrollEnding) (State.stopEnroll_sameBut _ _) State.shutWindow_sameBut) (State.emptySlots_sameBut_of_full full' _))
    State.clearProvisioned_sameBut

end Sys2Proof.Machine
end

section
namespace Sys2Proof.Machine
set_option Elab.async false
variable {s t u : State} {ps : List Part}

/-! ### A removal (R26, R44) -/

theorem State.exec_removal {v : Vol} {rest : List CredEvent} (alive : s.alive = true) (free : s.credFree = true)
    (head : s.cred.inbox = .removal v :: rest) : exec .removal s = .next (s.popCred.removal v).settle :=
  congrArg go (State.takeCred_of_head (g := fun t => t.removal v) alive free head (by simp) rfl)

/-- The enrollment that binds a volume ended, and the volume taken out of every wrap list. -/
def State.stripVolume (s : State) (v : Vol) : State := (s.removalEndsEnroll v).removeWraps v [.credential]

theorem State.removalEndsEnroll_storeKept (v : Vol) : s.storeKept (s.removalEndsEnroll v) := by
  unfold State.removalEndsEnroll
  split
  · rfl
  · split_ifs
    · exact State.stopEnroll_storeKept _ _
    · rfl

theorem State.stripVolume_storeTakes (v : Vol) : (s.stripVolume v).storeTakes = s.storeTakes := by
  obtain ⟨kept, -⟩ := (State.removalEndsEnroll_storeKept (s := s) v).fields
  exact (State.removeWraps_storeTakes _ _).trans kept

theorem State.removal_eq (v : Vol) : s.removal v =
    if (allSlots.countP fun i => (s.cslot i).names v) = 0 then (s.stripVolume v).removalDone
    else if s.storeTakes then (s.stripVolume v).credWaits (.removal (allSlots.countP fun i => (s.cslot i).names v))
    else s.stripVolume v := by
  rw [← State.stripVolume_storeTakes v, List.countP_eq_length_filter]
  rfl

theorem State.stripVolume_sameBut (v : Vol) : s.sameBut (([.slots, .commits] : List Part) ++ enrollEnding) (s.stripVolume v) :=
  State.sameBut_then (State.removalEndsEnroll_sameBut v) (State.removeWraps_sameBut _ _)

theorem State.stripVolume_sameBut_of_full (full : s.storeTakes = false) (v : Vol) :
    s.sameBut (.slots :: enrollEnding) (s.stripVolume v) := by
  obtain ⟨kept, -⟩ := (State.removalEndsEnroll_storeKept (s := s) v).fields
  exact State.sameBut_then (State.removalEndsEnroll_sameBut v) (State.removeWraps_sameBut_of_full (kept.trans full) _ _)

/-- A volume is out of the wrap lists, and no enrollment that has yet to queue its record binds it. -/
structure State.stripped (s t : State) (v : Vol) : Prop where
  slots : ∀ i, t.cslot i = if (s.cslot i).names v then (s.cslot i).unbind v else s.cslot i
  ends : ∀ e, s.cred.enroll = some e → e.role.bindsByWraps = true → inSet e.bind v = true → e.committed = false →
    t.cred.enroll = none ∧ s.completed t e.req .keyUnavailable 0 []

theorem State.stripVolume_stripped (ok : s.memOk = true) (v : Vol) : s.stripped (s.stripVolume v) v := by
  have ended : s.sameBut enrollEnding (s.removalEndsEnroll v) := State.removalEndsEnroll_sameBut v
  have removed : (s.removalEndsEnroll v).sameBut [.slots, .commits, .storeRest] (s.stripVolume v) := State.removeWraps_sameBut _ _
  refine ⟨fun i => ?_, fun e progress binds named early => ?_⟩
  · rw [State.stripVolume, State.removeWraps_cslot, ended.cslot]
  · have eq : s.removalEndsEnroll v = s.endEnroll .keyUnavailable [] (.toIdle true) := by
      simp [State.removalEndsEnroll, progress, binds, named, State.stopEnroll_of_early progress early]
    have facts := State.endEnroll_ended ok progress .keyUnavailable (.toIdle true)
    rw [← eq] at facts
    exact ⟨(State.sameBut_agree removed .credWork).2.trans facts.gone, removed.completed facts.done⟩

theorem State.stripVolume_awaits {v : Vol} {i : CSlot} (names : (s.cslot i).names v = true) :
    (s.stripVolume v).awaits ((s.stripVolume v).slotRec i) .credential :=
  State.removeWraps_awaits (by rw [(State.removalEndsEnroll_sameBut (s := s) v).cslot]; exact names)

/-- A step that leaves what a removal has done. -/
theorem State.stripped.then {v : Vol} (h : s.stripped u v) (k : u.sameBut ps t)
    (w : ([.slots, .credWork, .mem, .queues, .attn].all fun p => !ps.contains p) = true := by decide) : s.stripped t v := by
  have out (p : Part) (hp : p ∈ [Part.slots, .credWork, .mem, .queues, .attn]) :
      ps.contains p = false := by simpa using List.all_eq_true.1 w p hp
  refine ⟨fun i => (k.cslot i (out _ (by decide))).trans (h.slots i), fun e progress binds named early => ?_⟩
  obtain ⟨gone, done⟩ := h.ends e progress binds named early
  exact ⟨(State.sameBut_agree k .credWork (out _ (by decide))).2.trans gone,
    k.completed done (out _ (by decide)) (out _ (by decide)) (out _ (by decide))⟩

/-- A removal that the engine waits for is answered with the acceptance order. -/
theorem State.removalDone_of_removal {a : Acceptance} {v : Vol} (job : s.erase.job = .accept a) (stage : a.stage = .removal v) :
    s.removalDone = (s.tellGuard (.eraseAccept v)).setJob (.accept { a with stage := .guard v }) := by
  simp only [State.removalDone, job, stage]

theorem State.sameBut.job (k : s.sameBut ps t) (w : ps.contains .eraseRest = false := by decide) : t.erase.job = s.erase.job := by
  have rest : ({ t.erase with list := [], inbox := [] } : Erase) = { s.erase with list := [], inbox := [] } :=
    State.sameBut_agree k .eraseRest w
  exact (congrArg Erase.job rest :)

/-- The count of the slots that name a volume is 0 when none does. -/
theorem countP_names_eq_zero {v : Vol} :
    (allSlots.countP fun i => (s.cslot i).names v) = 0 ↔ ∀ i, (s.cslot i).names v = false := by
  simp [List.countP_eq_zero, mem_allSlots]

/-- The factory order with a store that takes no record. -/
theorem State.factoryRevoke_of_full (ok : s.memOk = true) (full : s.storeTakes = false) :
    s.factoryRevoked s.factoryRevoke.settle ∧ s.sameBut (.slots :: (enrollEnding ++ showing)) s.factoryRevoke.settle := by
  rw [State.factoryRevoke_eq, if_neg (by rw [full]; decide)]
  have settled : s.factoryCleared.sameBut showing s.factoryCleared.settle := State.settled
  obtain ⟨done, -⟩ := State.factoryCleared_facts ok
  exact ⟨done.then settled (congrArg Store.device settled.store),
    State.sameBut_then (State.factoryCleared_sameBut_of_full full) settled⟩

/-- The factory order with a store that takes its records. -/
theorem State.factoryRevoke_of_takes (ok : s.memOk = true) (takes : s.storeTakes = true) :
    let t := s.factoryRevoke.settle
    s.factoryRevoked t ∧ (∀ i, (s.cslot i).occupied = true → t.awaits (.slot i {}) .credential) ∧
      t.cred.wait = .factory ((allSlots.countP fun i => (s.cslot i).occupied) + 1) ∧
      t.awaits (.device t.store.device) .credential ∧
      s.sameBut (([.slots, .credRest, .commits] : List Part) ++ enrollEnding ++ showing) t := by
  rw [State.factoryRevoke_eq, if_pos takes]
  obtain ⟨done, awaits⟩ := State.factoryCleared_facts ok
  let b := s.factoryCleared.credWaits (.factory ((allSlots.countP fun i => (s.cslot i).occupied) + 1))
  let c := b.queueRec (.device s.factoryCleared.store.device) [.credential]
  have held : s.factoryCleared.sameBut [.credRest] b := State.credWaits_sameBut _
  have queued : b.sameBut [.commits, .storeRest] c := State.queueRec_sameBut _ _
  have settled : c.sameBut showing c.settle := State.settled
  have late : b.sameBut (([.commits, .storeRest] : List Part) ++ showing) c.settle := State.sameBut_then queued settled
  have after : s.factoryCleared.sameBut (([.credRest, .commits, .storeRest] : List Part) ++ showing) c.settle :=
    State.sameBut_then held late
  have device : c.settle.store.device = s.factoryCleared.store.device :=
    (congrArg Store.device settled.store).trans (State.queueRec_device _ _)
  refine ⟨done.then after device, fun i occupied => ?_, (State.sameBut_agree late .credRest).1, ?_,
    State.sameBut_then State.factoryCleared_sameBut after⟩
  · exact settled.awaits (State.awaits_queueRec (held.awaits (awaits i occupied)) (by simp [Rec.id]) _)
  · rw [show c.settle.store.device = _ from device]
    exact settled.awaits (State.queueRec_awaits _ (List.mem_singleton.2 rfl))

/-- A removal with a store that takes no record. -/
theorem State.removal_of_full (ok : s.memOk = true) (full : s.storeTakes = false) (v : Vol) :
    let t := (s.removal v).settle
    s.stripped t v ∧ ((∃ i, (s.cslot i).names v = true) → t.erase.job = s.erase.job) ∧
      s.sameBut (([.slots, .eraseRest] : List Part) ++ enrollEnding ++ showing) t := by
  intro t
  have strip : s.sameBut (.slots :: enrollEnding) (s.stripVolume v) := State.stripVolume_sameBut_of_full full v
  have facts := State.stripVolume_stripped ok v
  have eq := State.removal_eq (s := s) v
  rw [full] at eq
  by_cases unnamed : (allSlots.countP fun i => (s.cslot i).names v) = 0
  · rw [if_pos unnamed] at eq
    have told : (s.stripVolume v).sameBut (([.guardInbox, .eraseRest] : List Part) ++ showing) t := by
      simp only [t, eq]; exact State.sameBut_then State.removalDone_sameBut State.settled
    refine ⟨facts.then told, fun ⟨i, named⟩ => ?_, State.sameBut_then strip told⟩
    exact absurd (countP_names_eq_zero.1 unnamed i) (by rw [named]; decide)
  · rw [if_neg unnamed, if_neg (by decide)] at eq
    have settled : (s.stripVolume v).sameBut showing t := by simp only [t, eq]; exact State.settled
    have frame : s.sameBut (.slots :: (enrollEnding ++ showing)) t := State.sameBut_then strip settled
    exact ⟨facts.then settled, fun _ => frame.job, State.sameBut_mono frame⟩

/-- A removal that finds no slot to change, with a store that takes records. -/
theorem State.removal_of_unnamed (ok : s.memOk = true) {v : Vol} (unnamed : (allSlots.countP fun i => (s.cslot i).names v) = 0) :
    let t := (s.removal v).settle
    s.stripped t v ∧ t.cred.wait = s.cred.wait ∧
      (∀ a w, s.erase.job = .accept a → a.stage = .removal w →
        t.guard.inbox.getLast? = some (.eraseAccept w) ∧ t.erase.job = .accept { a with stage := .guard w }) ∧
      s.sameBut (([.slots, .commits, .eraseRest] : List Part) ++ enrollEnding ++ showing) t := by
  rw [State.removal_eq, if_pos unnamed]
  have strip : s.sameBut (([.slots, .commits] : List Part) ++ enrollEnding) (s.stripVolume v) := State.stripVolume_sameBut v
  have settled : (s.stripVolume v).removalDone.sameBut showing (s.stripVolume v).removalDone.settle := State.settled
  have told : (s.stripVolume v).sameBut (([.guardInbox, .eraseRest] : List Part) ++ showing) (s.stripVolume v).removalDone.settle :=
    State.sameBut_then State.removalDone_sameBut settled
  have frame : s.sameBut (([.slots, .commits, .eraseRest] : List Part) ++ enrollEnding ++ showing)
      (s.stripVolume v).removalDone.settle := State.sameBut_then strip told
  refine ⟨(State.stripVolume_stripped ok v).then told, (State.sameBut_agree frame .credRest).1, fun a w job stage => ?_, frame⟩
  have eq := State.removalDone_of_removal (strip.job.trans job) stage
  refine ⟨?_, settled.job.trans (by rw [eq]; rfl)⟩
  rw [(State.sameBut_agree settled .guardInbox).1, eq]
  exact List.getLast?_concat

/-- A removal that changes slots, with a store that takes their records. -/
theorem State.removal_of_named (ok : s.memOk = true) (takes : s.storeTakes = true) {v : Vol}
    (named : (allSlots.countP fun i => (s.cslot i).names v) ≠ 0) :
    let t := (s.removal v).settle
    s.stripped t v ∧ (∀ i, (s.cslot i).names v = true → t.awaits (t.slotRec i) .credential) ∧
      t.cred.wait = .removal (allSlots.countP fun i => (s.cslot i).names v) ∧
      s.sameBut (([.slots, .credRest, .commits] : List Part) ++ enrollEnding ++ showing) t := by
  rw [State.removal_eq, if_neg named, if_pos takes]
  let b := (s.stripVolume v).credWaits (.removal (allSlots.countP fun i => (s.cslot i).names v))
  have settled : b.sameBut showing b.settle := State.settled
  have after : (s.stripVolume v).sameBut (([.credRest] : List Part) ++ showing) b.settle :=
    State.sameBut_then (State.credWaits_sameBut _) settled
  refine ⟨(State.stripVolume_stripped ok v).then after, fun i names => ?_, (State.sameBut_agree settled .credRest).1,
    State.sameBut_then (State.stripVolume_sameBut v) after⟩
  have own : b.settle.slotRec i = (s.stripVolume v).slotRec i := by rw [State.slotRec, after.cslot]; rfl
  exact own ▸ after.awaits (State.stripVolume_awaits names)

/-- A REVOKE that finds the window OPEN. -/
theorem State.revokeRequest_taken {w : Window} (ok : s.memOk = true) (takes : s.storeTakes = true) (window : s.cred.window = some w)
    (r : Request) :
    let t := (s.popCred.revokeRequest r).settle
    s.sameBut (([.slots, .credWork, .credRest, .window, .pageWindow, .commits] : List Part) ++ completing ++ showing) t ∧
      t.cred.window = some { w with left := 300 } ∧ s.rewritten t .window ∧
      match slotOfNumber (r.byte 4).toNat with
      | none => s.completed t r .badParam 0 [] ∧ t.cred.slots = s.cred.slots
      | some i =>
        if (s.cslot i).role = .empty then s.completed t r .badParam 0 [] ∧ t.cred.slots = s.cred.slots
        else if (s.cslot i).role = .admin && !allSlots.any fun j => j ≠ i && (s.cslot j).role = .admin then
          s.completed t r .lastAdmin 0 [] ∧ t.cred.slots = s.cred.slots
        else
          (∀ j, t.cslot j = if j = i then {} else s.cslot j) ∧ t.cred.wait = .revoke r (s.cslot i).role i ∧
            t.awaits (.slot i {}) .credential ∧
            ∀ v b, s.cred.verify = some v → v.phase = .trying i b → t.cred.verify = some { v with phase := .trying i true } := by
  have popped : s.sameBut [.credInbox] s.popCred := State.popCred_sameBut
  have slot (j : CSlot) : s.popCred.cslot j = s.cslot j := popped.cslot j
  have rejected (st : Status) := State.rearmed_fails ok window r st
  rw [State.revokeRequest_of_open (s := s.popCred) (popped.storeTakes.trans takes) window]
  simp only [slot]
  cases slotOfNumber (r.byte 4).toNat with
  | none =>
    obtain ⟨⟨open_, -, shown⟩, done, slots, frame⟩ := rejected .badParam
    exact ⟨State.sameBut_mono frame, open_, shown, done, slots⟩
  | some i =>
    dsimp only
    by_cases empty : (s.cslot i).role = .empty
    · rw [if_pos empty, if_pos empty]
      obtain ⟨⟨open_, -, shown⟩, done, slots, frame⟩ := rejected .badParam
      exact ⟨State.sameBut_mono frame, open_, shown, done, slots⟩
    rw [if_neg empty, if_neg empty]
    by_cases last : ((s.cslot i).role = .admin && !allSlots.any fun j => j ≠ i && (s.cslot j).role = .admin) = true
    · rw [if_pos last, if_pos last]
      obtain ⟨⟨open_, -, shown⟩, done, slots, frame⟩ := rejected .lastAdmin
      exact ⟨State.sameBut_mono frame, open_, shown, done, slots⟩
    rw [if_neg last, if_neg last]
    let a := s.popCred.rearmWindow id
    have rearmed : s.popCred.sameBut [.window, .pageWindow] a := State.rearmWindow_sameBut id
    have asked : s.sameBut [.window, .pageWindow, .credInbox] a := State.sameBut_then popped rearmed
    obtain ⟨slots, wait, awaits, tried, revoked⟩ := State.revokeSlot_facts (s := a) r i
    have settled : (a.revokeSlot r i).sameBut showing (a.revokeSlot r i).settle := State.settled
    have shown := State.rearmWindow_shown (s := s.popCred) id
    rw [show s.popCred.cred.window = some w from window] at shown
    obtain ⟨open_, -, page⟩ := settled.windowShown (revoked.windowShown (popped.windowShown_of shown))
    refine ⟨State.sameBut_then (State.sameBut_then (rs := ([.slots, .credWork, .credRest, .window, .pageWindow,
      .commits] : List Part) ++ completing) asked revoked) settled, open_, page, fun j => ?_, ?_, settled.awaits awaits, fun v b verify phase => ?_⟩
    · rw [settled.cslot, slots, asked.cslot]
    · rw [(State.sameBut_agree settled .credRest).1, wait, asked.cslot]
    · exact (State.sameBut_agree settled .credWork).1.trans
        (tried v b ((State.sameBut_agree asked .credWork).1.trans verify) phase)

end Sys2Proof.Machine

open Sys2Proof Sys2Proof.Machine

/-- Settles O45: REVOKE, the factory order and a removal, each by what the unit and the store find. -/
theorem slotsAreRevoked : Obligations.SlotsAreRevoked := by
  intro s alive ok free stripped emptied enrollEnds
  have popped : s.sameBut [.credInbox] s.popCred := State.popCred_sameBut
  have okP : s.popCred.memOk = true := popped.memOk ok
  have wait : s.cred.wait = .free := State.credFree_wait free
  have fails (r : Request) (st : Status) : s.completed (s.popCred.complete r st 0 []).settle r st 0 [] ∧
      s.sameBut (completing ++ showing) (s.popCred.complete r st 0 []).settle :=
    ⟨State.completed_settle ok popped r st,
      State.sameBut_then (State.sameBut_then (rs := completing) popped (State.complete_sameBut _ _ _ _)) State.settled⟩
  have factory {t : State} (h : s.popCred.factoryRevoked t) : emptied t ∧
      ∀ e, s.cred.enroll = some e → enrollEnds t e .keypadAbort ∧
        (e.committed = false → t.keypad.inbox = s.keypad.inbox ++ [.toIdle false]) := by
    refine ⟨⟨h.slots, h.device, h.closed, h.zeroed⟩, fun e progress => ⟨fun early => ?_, fun early => ?_⟩⟩
    · obtain ⟨gone, done, -⟩ := h.ends e progress early
      exact ⟨gone, popped.completed_of done⟩
    · obtain ⟨-, -, ordered⟩ := h.ends e progress early
      exact ordered
  have removed {t : State} {v : Vol} (h : s.popCred.stripped t v) : stripped t v ∧
      ∀ e, s.cred.enroll = some e → e.role.bindsByWraps = true → inSet e.bind v = true → enrollEnds t e .keyUnavailable := by
    refine ⟨h.slots, fun e progress binds named early => ?_⟩
    obtain ⟨gone, done⟩ := h.ends e progress binds named early
    exact ⟨gone, popped.completed_of done⟩
  refine ⟨fun r rest head dead => ?_, fun rest head full => ?_, fun v rest head full => ?_,
    fun takes => ⟨fun r rest head => ?_, fun rest head => ?_, fun v rest head => ?_⟩⟩
  · have run := State.exec_revoke alive free head
    rw [if_pos dead] at run
    exact ⟨_, run, fails r .halted⟩
  · obtain ⟨done, frame⟩ := State.factoryRevoke_of_full okP (popped.storeTakes.trans full)
    have frame : s.sameBut (.slots :: (enrollEnding ++ showing)) s.popCred.factoryRevoke.settle := State.sameBut_then popped frame
    obtain ⟨cleared, ends⟩ := factory done
    exact ⟨_, State.exec_factoryRevocation alive free head, cleared, (State.sameBut_agree frame .credRest).1.trans wait,
      ends, frame⟩
  · obtain ⟨done, job, frame⟩ := State.removal_of_full okP (popped.storeTakes.trans full) v
    have frame : s.sameBut (([.slots, .eraseRest] : List Part) ++ enrollEnding ++ showing) (s.popCred.removal v).settle :=
      State.sameBut_then popped frame
    obtain ⟨out, ends⟩ := removed done
    exact ⟨_, State.exec_removal alive free head, out, (State.sameBut_agree frame .credRest).1.trans wait, ends, job, frame⟩
  · have run := State.exec_revoke alive free head
    by_cases dead : s.device = .halted
    · rw [if_pos dead] at run
      obtain ⟨done, frame⟩ := fails r .halted
      exact ⟨_, run, State.sameBut_mono frame, by rw [if_pos dead]; exact ⟨done, State.sameBut_agree frame .slots⟩⟩
    by_cases warned : s.cred.warned = true
    · rw [if_neg dead, if_pos warned] at run
      obtain ⟨done, frame⟩ := fails r .power
      exact ⟨_, run, State.sameBut_mono frame, by
        rw [if_neg dead, if_pos warned]; exact ⟨done, State.sameBut_agree frame .slots⟩⟩
    rw [if_neg dead, if_neg warned] at run
    refine ⟨_, run, ?_⟩
    rw [if_neg dead, if_neg warned]
    cases window : s.cred.window with
    | none =>
      rw [State.revokeRequest_of_closed (s := s.popCred) window]
      obtain ⟨done, frame⟩ := fails r .notAuthorized
      exact ⟨State.sameBut_mono frame, done, State.sameBut_agree frame .slots⟩
    | some w => exact State.revokeRequest_taken ok takes window r
  · obtain ⟨done, awaits, waits, record, frame⟩ := State.factoryRevoke_of_takes okP (popped.storeTakes.trans takes)
    obtain ⟨cleared, ends⟩ := factory done
    exact ⟨_, State.exec_factoryRevocation alive free head, cleared, awaits, waits, record, ends,
      State.sameBut_then popped frame⟩
  · refine ⟨_, State.exec_removal alive free head, ?_⟩
    by_cases unnamed : (allSlots.countP fun i => (s.cslot i).names v) = 0
    · obtain ⟨done, waits, job, frame⟩ := State.removal_of_unnamed okP (s := s.popCred) unnamed
      obtain ⟨out, ends⟩ := removed done
      exact ⟨out, fun i named => absurd (countP_names_eq_zero.1 unnamed i) (by rw [named]; decide),
        by dsimp only; rw [if_pos unnamed]; exact ⟨waits.trans wait, job⟩, ends, State.sameBut_then popped frame⟩
    · obtain ⟨done, awaits, waits, frame⟩ := State.removal_of_named okP (popped.storeTakes.trans takes) unnamed
      obtain ⟨out, ends⟩ := removed done
      exact ⟨out, awaits, by dsimp only; rw [if_neg unnamed]; exact ⟨waits, frame.job⟩, ends,
        State.sameBut_then popped frame⟩
end

section
namespace Sys2Proof.Machine
set_option Elab.async false
variable {s t u : State} {ps : List Part}

/-! ### The records of the domains (R48) -/

/-- The records of the two domains. -/
def Lockout.records (l : Lockout) : Domain → DomainState
  | .normal => l.normal
  | .recovery => l.recovery

/-- A domain's record is among them. -/
theorem State.domain_eq (s : State) (d : Domain) : s.domain d = s.lockout.records d := by cases d <;> rfl

/-- The records stand as they stood when they are outside the frame. -/
theorem State.sameBut.records (h : s.sameBut ps t) (w : ps.contains .domains = false := by decide) :
    t.lockout.records = s.lockout.records := by
  obtain ⟨normal, recovery⟩ := State.sameBut_agree h .domains w
  funext d
  cases d
  · exact normal
  · exact recovery

/-! ### What the other blocks' operations leave of the lockout unit: the records of the domains -/

@[simp] theorem State.attend_records (a : Attn) : (s.attend a).lockout.records = s.lockout.records :=
  (State.attend_sameBut _).records
@[simp] theorem State.guardWaits_records (w : GuardWait) : (s.guardWaits w).lockout.records = s.lockout.records :=
  (State.guardWaits_sameBut _).records
@[simp] theorem State.popGuard_records : (s.popGuard).lockout.records = s.lockout.records :=
  State.popGuard_sameBut.records
@[simp] theorem State.tellGuard_records (o : GuardOrder) : (s.tellGuard o).lockout.records = s.lockout.records :=
  (State.tellGuard_sameBut _).records
@[simp] theorem State.tellCred_records (e : CredEvent) : (s.tellCred e).lockout.records = s.lockout.records :=
  (State.tellCred_sameBut _).records
@[simp] theorem State.tellKeypad_records (o : KeyOrder) : (s.tellKeypad o).lockout.records = s.lockout.records :=
  (State.tellKeypad_sameBut _).records
@[simp] theorem State.tellEngine_records (e : EngineEvent) : (s.tellEngine e).lockout.records = s.lockout.records :=
  (State.tellEngine_sameBut _).records
@[simp] theorem State.popEngine_records : (s.popEngine).lockout.records = s.lockout.records :=
  State.popEngine_sameBut.records
@[simp] theorem State.setJob_records (j : Job) : (s.setJob j).lockout.records = s.lockout.records :=
  (State.setJob_sameBut _).records
@[simp] theorem State.modEntry_records (v : Vol) (g : EraseEntry → EraseEntry) :
    (s.modEntry v g).lockout.records = s.lockout.records :=
  (State.modEntry_sameBut _ _).records
@[simp] theorem State.tellLockout_records (e : LockEvent) : (s.tellLockout e).lockout.records = s.lockout.records :=
  (State.tellLockout_sameBut _).records
@[simp] theorem State.clearEntry_records : (s.clearEntry).lockout.records = s.lockout.records :=
  State.clearEntry_sameBut.records
@[simp] theorem State.asmIdle_records : (s.asmIdle).lockout.records = s.lockout.records := State.asmIdle_sameBut.records
@[simp] theorem State.asmTo_records (a : Assembler) (m : Option Nat) :
    (s.asmTo a m).lockout.records = s.lockout.records :=
  (State.asmTo_sameBut _ _).records
@[simp] theorem State.reloadTimeout_records (m : Nat) : (s.reloadTimeout m).lockout.records = s.lockout.records :=
  (State.reloadTimeout_sameBut _).records
@[simp] theorem State.appendDigit_records (d : Digit) (m : Nat) :
    (s.appendDigit d m).lockout.records = s.lockout.records :=
  (State.appendDigit_sameBut _ _).records
@[simp] theorem State.sampleKeypad_records : (s.sampleKeypad).lockout.records = s.lockout.records :=
  State.sampleKeypad_sameBut.records
@[simp] theorem State.popKey_records : (s.popKey).lockout.records = s.lockout.records := State.popKey_sameBut.records
@[simp] theorem State.toStep_records (n : Nat) : (s.toStep n).lockout.records = s.lockout.records :=
  (State.toStep_sameBut _).records
@[simp] theorem State.refresh_records (x : Section) : (s.refresh x).lockout.records = s.lockout.records :=
  (State.refresh_sameBut x).records (by cases x <;> rfl)
@[simp] theorem State.refreshEntries_records (on : Domain → Bool) :
    (s.refreshEntries on).lockout.records = s.lockout.records :=
  (State.refreshEntries_sameBut _).records
@[simp] theorem State.settle_records : (s.settle).lockout.records = s.lockout.records := State.settle_sameBut.records
@[simp] theorem State.handAll_records (x : Signal) : (s.handAll x).lockout.records = s.lockout.records :=
  (State.handAll_sameBut _).records
@[simp] theorem State.sample_records (x : Int) : (s.sample x).lockout.records = s.lockout.records :=
  (State.sample_sameBut _).records
@[simp] theorem State.queueRec_records (r : Rec) (ws : List Waiter) :
    (s.queueRec r ws).lockout.records = s.lockout.records :=
  (State.queueRec_sameBut _ _).records
@[simp] theorem State.complete_records (r : Request) (st : Status) (d : Nat) (l : List Byte) :
    (s.complete r st d l).lockout.records = s.lockout.records :=
  (State.complete_sameBut _ _ _ _).records
@[simp] theorem State.pendingScan_records : (s.pendingScan).lockout.records = s.lockout.records :=
  State.pendingScan_sameBut.records
@[simp] theorem State.scanRequest_records : (s.scanRequest).lockout.records = s.lockout.records :=
  State.scanRequest_sameBut.records
@[simp] theorem State.dropGrant_records : (s.dropGrant).lockout.records = s.lockout.records :=
  State.dropGrant_sameBut.records
@[simp] theorem State.boundary_records : (s.boundary).lockout.records = s.lockout.records :=
  State.boundary_sameBut.records
@[simp] theorem State.linkReady_records : (s.linkReady).lockout.records = s.lockout.records :=
  State.linkReady_sameBut.records
@[simp] theorem State.handBack_records (q : Requester) : (s.handBack q).lockout.records = s.lockout.records :=
  (State.handBack_sameBut _).records
@[simp] theorem State.withdrawEngine_records : (s.withdrawEngine).lockout.records = s.lockout.records :=
  State.withdrawEngine_sameBut.records
@[simp] theorem State.issue_records (f : InFlight) : (s.issue f).lockout.records = s.lockout.records :=
  (State.issue_sameBut _).records
@[simp] theorem State.guardCommit_records (l : List Rec) (n : Nat) (k : GuardThen) :
    (s.guardCommit l n k).lockout.records = s.lockout.records :=
  (State.guardCommit_sameBut _ _ _).records
@[simp] theorem State.giveFlash_records (o : OneShot) : (s.giveFlash o).lockout.records = s.lockout.records :=
  (State.giveFlash_sameBut _).records
@[simp] theorem State.pushKey_records (e : KeyEvent) : (s.pushKey e).lockout.records = s.lockout.records :=
  (State.pushKey_sameBut _).records
@[simp] theorem State.markerStep_records : (s.markerStep).lockout.records = s.lockout.records :=
  State.markerStep_sameBut.records
@[simp] theorem State.handEntry_records (d : Domain) : (s.handEntry d).lockout.records = s.lockout.records :=
  (State.handEntry_sameBut _).records
@[simp] theorem State.leaveVerifying_records (o : Option OneShot) :
    (s.leaveVerifying o).lockout.records = s.lockout.records :=
  (State.leaveVerifying_sameBut _).records
@[simp] theorem State.engineAsk_records : (s.engineAsk).lockout.records = s.lockout.records :=
  State.engineAsk_sameBut.records
@[simp] theorem State.engineRun_records : (s.engineRun).lockout.records = s.lockout.records :=
  State.engineRun_sameBut.records
@[simp] theorem State.engineStops_records : (s.engineStops).lockout.records = s.lockout.records :=
  State.engineStops_sameBut.records
@[simp] theorem State.applyReply_records (v : Vol) (b : Bool) (o : StripeOutcome) :
    (s.applyReply v b o).lockout.records = s.lockout.records :=
  (State.applyReply_sameBut _ _ _).records
@[simp] theorem State.dueCheckpoint_records (v : Vol) : (s.dueCheckpoint v).lockout.records = s.lockout.records :=
  (State.dueCheckpoint_sameBut _).records
@[simp] theorem State.accept_records (x : AcceptSource) (w : Bool) (p : Plan) (l : List Vol) :
    (s.accept x w p l).lockout.records = s.lockout.records :=
  (State.accept_sameBut _ _ _ _).records
@[simp] theorem State.abortFrom_records (r : Request) (n : Nat) (a : Action) (l : List Vol) :
    (s.abortFrom r n a l).lockout.records = s.lockout.records :=
  (State.abortFrom_sameBut _ _ _ _).records
@[simp] theorem State.handOrphans_records : (s.handOrphans).lockout.records = s.lockout.records :=
  State.handOrphans_sameBut.records
@[simp] theorem State.replyTaken_records (v : Vol) : (s.replyTaken v).lockout.records = s.lockout.records :=
  (State.replyTaken_sameBut _).records
@[simp] theorem State.setHold_records (b : Bool) (g : Erase → Erase) :
    (s.setHold b g).lockout.records = s.lockout.records :=
  (State.setHold_sameBut _ _).records
@[simp] theorem State.clearHold_records (g : Erase → Erase) : (s.clearHold g).lockout.records = s.lockout.records :=
  (State.clearHold_sameBut _).records
@[simp] theorem State.linkFaulted_records : (s.linkFaulted).lockout.records = s.lockout.records :=
  State.linkFaulted_sameBut.records
@[simp] theorem State.extentLost_records (v : Vol) : (s.extentLost v).lockout.records = s.lockout.records :=
  (State.extentLost_sameBut _).records
theorem State.takeSignal_records {b : Block} {x : Signal} (h : s.takeSignal b x = some t) :
    t.lockout.records = s.lockout.records := (State.takeSignal_sameBut h).records
@[simp] theorem State.reportVolumes_records : s.reportVolumes.lockout.records = s.lockout.records :=
  State.reportVolumes_sameBut.records
@[simp] theorem State.lockSet_records (m : VolSet) : (s.lockSet m).lockout.records = s.lockout.records :=
  (State.lockSet_sameBut m).records
@[simp] theorem State.lockVolume_records (v : Vol) : (s.lockVolume v).lockout.records = s.lockout.records :=
  (State.lockVolume_sameBut v).records
@[simp] theorem State.openVolume_records (v : Vol) (k : MediaKey) (i : CSlot) (b : Bool) :
    (s.openVolume v k i b).lockout.records = s.lockout.records := (State.openVolume_sameBut v k i b).records
@[simp] theorem State.volumeRetired_records (v : Vol) (b : Bool) :
    (s.volumeRetired v b).lockout.records = s.lockout.records := (State.volumeRetired_sameBut v b).records
@[simp] theorem State.volumeEnded_records (v : Vol) : (s.volumeEnded v).lockout.records = s.lockout.records :=
  (State.volumeEnded_sameBut v).records
@[simp] theorem State.capacityReport_records (cap : BitVec 32) (ef ed : BitVec 16) :
    (s.capacityReport cap ef ed).lockout.records = s.lockout.records := (State.capacityReport_sameBut cap ef ed).records
@[simp] theorem State.idleExpired_records (v : Vol) : (s.idleExpired v).lockout.records = s.lockout.records :=
  (State.idleExpired_sameBut v).records
@[simp] theorem State.endSector_records (st : Status) : (s.endSector st).lockout.records = s.lockout.records :=
  (State.endSector_sameBut st).records
@[simp] theorem State.stopSector_records (st : Status) : (s.stopSector st).lockout.records = s.lockout.records :=
  (State.stopSector_sameBut st).records
@[simp] theorem State.commandFails_records (f : InFlight) : (s.commandFails f).lockout.records = s.lockout.records :=
  (State.commandFails_sameBut f).records
@[simp] theorem State.endWaiting_records (st : Status) (a b : Bool) :
    (s.endWaiting st a b).lockout.records = s.lockout.records := (State.endWaiting_sameBut st a b).records
@[simp] theorem State.setOwner_records (n : RSlot) (b : Byte) : (s.setOwner n b).lockout.records = s.lockout.records :=
  (State.setOwner_sameBut _ _).records
@[simp] theorem State.popCred_records : (s.popCred).lockout.records = s.lockout.records := State.popCred_sameBut.records
@[simp] theorem State.credWaits_records (w : CredWait) : (s.credWaits w).lockout.records = s.lockout.records :=
  (State.credWaits_sameBut _).records
@[simp] theorem State.endVerify_records : (s.endVerify).lockout.records = s.lockout.records :=
  State.endVerify_sameBut.records
@[simp] theorem State.emptySlot_records (i : CSlot) : (s.emptySlot i).lockout.records = s.lockout.records :=
  (State.emptySlot_sameBut _).records
@[simp] theorem State.dropSignal_records (x : Signal) (b : Block) :
    (s.dropSignal x b).lockout.records = s.lockout.records :=
  (State.dropSignal_sameBut _ _).records
@[simp] theorem State.enterHalted_records : (s.enterHalted).lockout.records = s.lockout.records :=
  State.enterHalted_sameBut.records
@[simp] theorem State.finishNow_records (n : RSlot) (off : Int) (st : Status) :
    (s.finishNow n off st).lockout.records = s.lockout.records :=
  (State.finishNow_sameBut _ _ _).records
@[simp] theorem State.guardFailed_records : (s.guardFailed).lockout.records = s.lockout.records :=
  State.guardFailed_sameBut.records
@[simp] theorem State.openWindow_records (i : CSlot) (k : Kek) : (s.openWindow i k).lockout.records = s.lockout.records :=
  (State.openWindow_sameBut _ _).records
@[simp] theorem State.shutWindow_records : (s.shutWindow).lockout.records = s.lockout.records :=
  State.shutWindow_sameBut.records
@[simp] theorem State.rearmWindow_records (g : Bool → Bool) : (s.rearmWindow g).lockout.records = s.lockout.records :=
  (State.rearmWindow_sameBut _).records
@[simp] theorem State.endEnroll_records (st : Status) (l : List Byte) (k : KeypadEnd) :
    (s.endEnroll st l k).lockout.records = s.lockout.records :=
  (State.endEnroll_sameBut _ _ _).records
@[simp] theorem State.stopEnroll_records (st : Status) (k : KeypadEnd) :
    (s.stopEnroll st k).lockout.records = s.lockout.records :=
  (State.stopEnroll_sameBut _ _).records
@[simp] theorem State.closeWindow_records : (s.closeWindow).lockout.records = s.lockout.records :=
  State.closeWindow_sameBut.records
@[simp] theorem State.takeWindowTicks_records : (s.takeWindowTicks).lockout.records = s.lockout.records :=
  State.takeWindowTicks_sameBut.records
@[simp] theorem State.beforeQuery_records (b : Bool) : (s.beforeQuery b).lockout.records = s.lockout.records :=
  (State.beforeQuery_sameBut _).records
@[simp] theorem State.credRelease_records : (s.credRelease).lockout.records = s.lockout.records :=
  State.credRelease_sameBut.records
@[simp] theorem State.noMatch_records (d : Domain) : (s.noMatch d).lockout.records = s.lockout.records :=
  (State.noMatch_sameBut _).records
@[simp] theorem State.searchFrom_records (v : Verification) (i : Nat) :
    (s.searchFrom v i).lockout.records = s.lockout.records :=
  (State.searchFrom_sameBut _ _).records
@[simp] theorem State.matched_records (d : Domain) (i : CSlot) (k : Kek) :
    (s.matched d i k).lockout.records = s.lockout.records :=
  (State.matched_sameBut _ _ _).records
@[simp] theorem State.wipeMatched_records (d : Domain) (i : CSlot) :
    (s.wipeMatched d i).lockout.records = s.lockout.records :=
  (State.wipeMatched_sameBut _ _).records
@[simp] theorem State.duplicateFrom_records (e : Enrollment) (d : Domain) (i : Nat) :
    (s.duplicateFrom e d i).lockout.records = s.lockout.records :=
  (State.duplicateFrom_sameBut _ _ _).records
@[simp] theorem State.removeWraps_records (v : Vol) (ws : List Waiter) :
    (s.removeWraps v ws).lockout.records = s.lockout.records :=
  (State.removeWraps_sameBut _ _).records
@[simp] theorem State.removalEndsEnroll_records (v : Vol) : (s.removalEndsEnroll v).lockout.records = s.lockout.records :=
  (State.removalEndsEnroll_sameBut _).records
@[simp] theorem State.credFailed_records : (s.credFailed).lockout.records = s.lockout.records :=
  State.credFailed_sameBut.records
@[simp] theorem State.checkpointHead_records : (s.checkpointHead).lockout.records = s.lockout.records :=
  State.checkpointHead_sameBut.records
@[simp] theorem State.removalDone_records : (s.removalDone).lockout.records = s.lockout.records :=
  State.removalDone_sameBut.records
/-- An authorized answer leaves the volumes. -/
theorem State.authorize_records (h : s.authorize = some t) : t.lockout.records = s.lockout.records :=
  (State.authorize_sameBut h).records

end Sys2Proof.Machine
end

section
namespace Sys2Proof.Machine
set_option Elab.async false
variable {s t u : State} {ps : List Part}

/-! ### What the steps of the units leave of it -/

@[simp] theorem State.modVol_records (v : Vol) (g : Volume → Volume) :
    (s.modVol v g).lockout.records = s.lockout.records := rfl
@[simp] theorem State.setSlot_records (i : CSlot) (c : CredSlot) : (s.setSlot i c).lockout.records = s.lockout.records := rfl
@[simp] theorem State.dropKeys_records : s.dropKeys.lockout.records = s.lockout.records := rfl

@[simp] theorem State.acceptKey_records (x : Key) : (s.acceptKey x).lockout.records = s.lockout.records := by
  unfold State.acceptKey
  extract_lets y t t'
  split_ifs <;> simp [t, t']

@[simp] theorem State.giveHold_records (x : Key) :
    (s.giveHold x).lockout.records = s.lockout.records := by simp [State.giveHold]

@[simp] theorem State.giveChord_records : s.giveChord.lockout.records = s.lockout.records := by simp [State.giveChord]

@[simp] theorem State.catchUp_records : s.catchUp.lockout.records = s.lockout.records := by
  have fold (l : List Key) (t : State) :
      (l.foldl (fun t x => if t.keyDue x then t.acceptKey x else t) t).lockout.records = t.lockout.records := by
    induction l generalizing t with
    | nil => rfl
    | cons x l ih => rw [List.foldl_cons, ih]; split_ifs <;> simp
  unfold State.catchUp
  extract_lets t u v
  have hu : u.lockout.records = s.lockout.records := by unfold u; split_ifs <;> simp [t, fold]
  have hv : v.lockout.records = s.lockout.records := by unfold v; split_ifs <;> simp [hu]
  split_ifs <;> simp [hv]

@[simp] theorem State.keyScan_records (levels : BitVec 12) : (s.keyScan levels).lockout.records = s.lockout.records := by
  unfold State.keyScan
  split_ifs <;> simp

@[simp] theorem State.entryDigit_records (d : Digit) (n ms : Nat) :
    (s.entryDigit d n ms).lockout.records = s.lockout.records := by
  unfold State.entryDigit
  split_ifs <;> simp

@[simp] theorem State.digitPress_records (d : Digit) (n : Nat) :
    (s.digitPress d n).lockout.records = s.lockout.records := by
  unfold State.digitPress
  split
  · split_ifs <;> simp
  all_goals simp

@[simp] theorem State.discard_records (o : OneShot) :
    (s.discard o).lockout.records = s.lockout.records := by simp [State.discard]

@[simp] theorem State.enterDigits_records : s.enterDigits.lockout.records = s.lockout.records := by
  unfold State.enterDigits; split_ifs <;> simp

@[simp] theorem State.enterRecovery_records : s.enterRecovery.lockout.records = s.lockout.records := by
  unfold State.enterRecovery; split_ifs <;> simp

@[simp] theorem State.enterFirst_records : s.enterFirst.lockout.records = s.lockout.records := by
  unfold State.enterFirst; split_ifs <;> simp

@[simp] theorem State.enterSecond_records : s.enterSecond.lockout.records = s.lockout.records := by
  unfold State.enterSecond; split_ifs <;> simp

@[simp] theorem State.enterPress_records : s.enterPress.lockout.records = s.lockout.records := by
  unfold State.enterPress; split <;> simp

@[simp] theorem State.enterHold_records : s.enterHold.lockout.records = s.lockout.records := by
  unfold State.enterHold
  split
  · split_ifs <;> simp
  all_goals simp

@[simp] theorem State.clearIdle_records : s.clearIdle.lockout.records = s.lockout.records := by
  unfold State.clearIdle; split_ifs <;> simp

@[simp] theorem State.leaveStage_records (why : EarlyEnd) : (s.leaveStage why).lockout.records = s.lockout.records := by
  simp [State.leaveStage]

@[simp] theorem State.clearEvent_records : s.clearEvent.lockout.records = s.lockout.records := by
  unfold State.clearEvent; split <;> simp

@[simp] theorem State.chordEvent_records : s.chordEvent.lockout.records = s.lockout.records := by
  unfold State.chordEvent; split <;> simp

@[simp] theorem State.enrollOrder_records : s.enrollOrder.lockout.records = s.lockout.records :=
  by simp [State.enrollOrder]

@[simp] theorem State.outcome_records (b : Bool) : (s.outcome b).lockout.records = s.lockout.records := by
  unfold State.outcome; split_ifs <;> simp

@[simp] theorem State.returnIdle_records (b : Bool) : (s.returnIdle b).lockout.records = s.lockout.records := by
  unfold State.returnIdle; split_ifs <;> simp

@[simp] theorem State.entryHanded_records (l : List Digit) (d : Domain) (b : Bool) :
    (s.entryHanded l d b).lockout.records = s.lockout.records := by
  unfold State.entryHanded; split_ifs <;> simp

@[simp] theorem State.chargeReported_records : s.chargeReported.lockout.records = s.lockout.records := by
  unfold State.chargeReported
  split
  · split_ifs <;> simp
  · rfl

@[simp] theorem State.searchDone_records (v : Verification) (i : CSlot) (b : Bool) (x : BitVec 256) :
    (s.searchDone v i b x).lockout.records = s.lockout.records := by
  unfold State.searchDone; split_ifs <;> simp

@[simp] theorem State.fillSlot_records (e : Enrollment) (x : BitVec 256) :
    (s.fillSlot e x).lockout.records = s.lockout.records := by
  unfold State.fillSlot; extract_lets t u; split_ifs <;> simp [u, t]

@[simp] theorem State.enrollDerived_records (e : Enrollment) (x : BitVec 256) :
    (s.enrollDerived e x).lockout.records = s.lockout.records := by
  unfold State.enrollDerived
  split
  · split_ifs
    · simp
    · split <;> simp
  all_goals simp

@[simp] theorem State.derived_records (x : Derivation) : (s.derived x).lockout.records = s.lockout.records := by
  unfold State.derived
  extract_lets out t
  split
  · split <;> simp [t]
  all_goals simp [t]

@[simp] theorem State.derivationEnds_records (x : Derivation) :
    (s.derivationEnds x).lockout.records = s.lockout.records := by
  unfold State.derivationEnds; split_ifs <;> simp

@[simp] theorem State.beginEnroll_records (r : Request) : (s.beginEnroll r).lockout.records = s.lockout.records := by
  unfold State.beginEnroll
  split_ifs
  case neg => split <;> simp
  all_goals simp

@[simp] theorem State.secondEntry_records (e : Enrollment) (l : List Digit) :
    (s.secondEntry e l).lockout.records = s.lockout.records := by
  unfold State.secondEntry
  split_ifs
  case neg => split <;> simp
  all_goals simp

@[simp] theorem State.enrollEntry_records (l : List Digit) : (s.enrollEntry l).lockout.records = s.lockout.records := by
  unfold State.enrollEntry
  split
  · rfl
  · split <;> simp

@[simp] theorem State.revokeRequest_records (r : Request) : (s.revokeRequest r).lockout.records = s.lockout.records := by
  unfold State.revokeRequest
  split
  · simp
  · rename_i t h
    split
    · simp [State.authorize_records h]
    · extract_lets c u
      split_ifs <;> simp [u, State.authorize_records h]

@[simp] theorem State.wrapAndAdd_records (v : Vol) (k : MediaKey) :
    (s.wrapAndAdd v k).lockout.records = s.lockout.records := by
  unfold State.wrapAndAdd
  split
  · split <;> simp [State.addWrap]
  · rfl

@[simp] theorem State.removal_records (v : Vol) : (s.removal v).lockout.records = s.lockout.records := by
  unfold State.removal; extract_lets n t; split_ifs <;> simp [t]

@[simp] theorem State.lockClosed_records : s.lockClosed.lockout.records = s.lockout.records := by
  unfold State.lockClosed; split <;> simp

@[simp] theorem State.emptySlots_records (l : List CSlot) : (s.emptySlots l).lockout.records = s.lockout.records := by
  induction l generalizing s with
  | nil => rfl
  | cons i l ih => unfold State.emptySlots; split_ifs <;> simp [ih]

@[simp] theorem State.factoryRevoke_records : s.factoryRevoke.lockout.records = s.lockout.records := by
  unfold State.factoryRevoke; extract_lets n t u; split_ifs <;> simp [u, t]

theorem State.serveErase_records (r : Request) {g : State → State} (h : ∀ t, (g t).lockout.records = t.lockout.records) :
    (s.serveErase r g).lockout.records = s.lockout.records := by
  unfold State.serveErase
  split_ifs
  · simp
  · simp
  · split
    · simp
    · rename_i t ht; simp [h, State.authorize_records ht]

@[simp] theorem State.eraseRequest_records (r : Request) : (s.eraseRequest r).lockout.records = s.lockout.records := by
  unfold State.eraseRequest
  extract_lets mask
  split
  · simp
  · split_ifs <;> simp

@[simp] theorem State.pauseRequest_records (r : Request) : (s.pauseRequest r).lockout.records = s.lockout.records := by
  unfold State.pauseRequest
  split_ifs
  · simp
  · split
    · simp
    · split_ifs <;> simp

@[simp] theorem State.resumeRequest_records (r : Request) : (s.resumeRequest r).lockout.records = s.lockout.records := by
  simp [State.resumeRequest]

@[simp] theorem State.abortRequest_records (r : Request) : (s.abortRequest r).lockout.records = s.lockout.records := by
  unfold State.abortRequest
  extract_lets t
  split_ifs <;> simp [t, State.abortEntries, State.withdrawCommand]

@[simp] theorem State.stripeGranted_records : s.stripeGranted.lockout.records = s.lockout.records := by
  unfold State.stripeGranted
  split
  · simp
  · split
    · simp
    · split
      · simp
      · split_ifs <;> simp

@[simp] theorem State.stripeReply_records (o : StripeOutcome) :
    (s.stripeReply o).lockout.records = s.lockout.records := by
  unfold State.stripeReply
  split
  · rfl
  · split_ifs <;> simp

@[simp] theorem State.awaitedReply_records : s.awaitedReply.lockout.records = s.lockout.records := by
  unfold State.awaitedReply
  split
  · extract_lets t u
    split_ifs <;> simp [u, t]
  · rfl

@[simp] theorem State.awaitedFault_records : s.awaitedFault.lockout.records = s.lockout.records := by
  unfold State.awaitedFault
  split_ifs
  · split <;> simp
  · rfl

@[simp] theorem State.raiseWarning_records : s.raiseWarning.lockout.records = s.lockout.records :=
  by simp [State.raiseWarning]

@[simp] theorem State.leaveStarting_records : s.leaveStarting.lockout.records = s.lockout.records := by
  unfold State.leaveStarting
  extract_lets t u v w x
  have hw : w.lockout.records = s.lockout.records := by unfold w; split_ifs <;> simp [v, u, t]
  split_ifs <;> simp [x, hw]

@[simp] theorem State.endStarting_records : s.endStarting.lockout.records = s.lockout.records := by
  unfold State.endStarting; split_ifs <;> simp

@[simp] theorem State.quietLink_records (b : Bool) :
    (s.quietLink b).lockout.records = s.lockout.records := by simp [State.quietLink]

@[simp] theorem State.abandonVerify_records : s.abandonVerify.lockout.records = s.lockout.records := by
  unfold State.abandonVerify
  split
  · split <;> simp
  · rfl

@[simp] theorem State.warnCredential_records : s.warnCredential.lockout.records = s.lockout.records :=
  by simp [State.warnCredential]

@[simp] theorem State.warnKeypad_records : s.warnKeypad.lockout.records = s.lockout.records := by
  unfold State.warnKeypad; extract_lets t; split <;> simp [t]

@[simp] theorem State.recoverLink_records : s.recoverLink.lockout.records = s.lockout.records := by
  unfold State.recoverLink; extract_lets t; split_ifs <;> simp [t]

@[simp] theorem State.haltCredential_records : s.haltCredential.lockout.records = s.lockout.records :=
  by simp [State.haltCredential]

@[simp] theorem State.haltLockout_records : s.haltLockout.lockout.records = s.lockout.records := by
  unfold State.haltLockout; extract_lets t; split <;> rfl

@[simp] theorem State.haltKeypad_records : s.haltKeypad.lockout.records = s.lockout.records := by simp [State.haltKeypad]

@[simp] theorem State.haltEngine_records : s.haltEngine.lockout.records = s.lockout.records := by
  unfold State.haltEngine; cases s.erase.job.request <;> simp

@[simp] theorem State.engineHot_records : s.engineHot.lockout.records = s.lockout.records := by simp [State.engineHot]

@[simp] theorem State.writeWord_records (a : Nat) (w : Word) : (s.writeWord a w).lockout.records = s.lockout.records := by
  unfold State.writeWord; split_ifs <;> simp

@[simp] theorem State.enrollCommitted_records (e : Enrollment) :
    (s.enrollCommitted e).lockout.records = s.lockout.records := by
  unfold State.enrollCommitted
  extract_lets t t'
  have ht : t'.lockout.records = s.lockout.records := by unfold t'; split_ifs <;> simp
  split_ifs <;> simp [t, ht]

@[simp] theorem State.factoryDone_records : s.factoryDone.lockout.records = s.lockout.records := by
  unfold State.factoryDone; split_ifs <;> simp

@[simp] theorem State.credCommitted_records : s.credCommitted.lockout.records = s.lockout.records := by
  unfold State.credCommitted
  split
  · rfl
  · split_ifs <;> simp
  · extract_lets t
    have ht : t.lockout.records = s.lockout.records := by unfold t; split_ifs <;> simp
    simp [ht]
  · split_ifs <;> simp
  · split <;> simp

@[simp] theorem State.chargeDone_records : s.chargeDone.lockout.records = s.lockout.records := by
  unfold State.chargeDone
  split
  · rw [State.lockoutRelease_sameBut.records, State.tellCred_records, State.refreshEntry, State.refreshEntries_records]
  · rfl

@[simp] theorem State.policyDone_records : s.policyDone.lockout.records = s.lockout.records := by
  unfold State.policyDone; split <;> simp

@[simp] theorem State.failed_records (w : Waiter) : (s.failed w).lockout.records = s.lockout.records := by
  unfold State.failed
  split
  · simp
  · simp
  · split <;> rfl
  · rfl
  · rfl
  · split <;> simp
  · rfl

@[simp] theorem State.commitFailed_records (q : Queued) (c : Cut) :
    (s.commitFailed q c).lockout.records = s.lockout.records := by
  have fold (l : List Waiter) (t : State) : (l.foldl State.failed t).lockout.records = t.lockout.records := by
    induction l generalizing t with
    | nil => rfl
    | cons x l ih => simp [ih]
  unfold State.commitFailed
  extract_lets ws t u v
  have hu : u.lockout.records = s.lockout.records := by simp [u, fold, t]
  split_ifs <;> simp [v, hu]

@[simp] theorem State.policyRequest_records (r : Request) : (s.policyRequest r).lockout.records = s.lockout.records := by
  unfold State.policyRequest
  split
  · simp
  · rename_i t h
    extract_lets u
    split_ifs <;> simp [u, State.authorize_records h]

@[simp] theorem State.defineRequest_records (r : Request) :
    (State.defineRequest r s).lockout.records = s.lockout.records := by
  unfold State.defineRequest
  split
  · simp
  · rename_i t h
    split <;> simp [State.authorize_records h]

@[simp] theorem State.faultOrder_records (v : Vol) : (s.faultOrder v).lockout.records = s.lockout.records := by
  unfold State.faultOrder
  split_ifs
  · simp [(State.faultVolume_sameBut (s := s) v).records]
  · rfl

@[simp] theorem State.startErasing_records (v : Vol) : (s.startErasing v).lockout.records = s.lockout.records := by
  simp [State.startErasing, (State.enterVolume_sameBut v).records]

@[simp] theorem State.eraseAcceptance_records (v : Vol) : (s.eraseAcceptance v).lockout.records = s.lockout.records := by
  unfold State.eraseAcceptance
  by_cases halted : s.device = .halted
  · rw [if_pos halted]
  · rw [if_neg halted]
    cases s.extentClear v <;> split <;> simp [State.retire]

@[simp] theorem State.eraseEndOrder_records (v : Vol) (x : EraseResult) (n : Nat) :
    (s.eraseEndOrder v x n).lockout.records = s.lockout.records := by
  unfold State.eraseEndOrder; split_ifs <;> simp

@[simp] theorem State.lockRequest_records (r : Request) :
    (State.lockRequest r s).lockout.records = s.lockout.records := by
  unfold State.lockRequest; extract_lets mask locked t; split_ifs <;> simp [t]

@[simp] theorem State.applyDecision_records (r : Request) : (s.applyDecision r).lockout.records = s.lockout.records := by
  unfold State.applyDecision
  split
  · simp
  · split
    · simp [State.askSector_sameBut.records, (State.activate_sameBut r _).records, (State.reloadIdle_sameBut _).records]
    · rfl

@[simp] theorem State.decideSector_records (r : Request) : (s.decideSector r).lockout.records = s.lockout.records := by
  unfold State.decideSector
  split
  · split_ifs
    · rfl
    · extract_lets t; split_ifs <;> simp [t, State.enterDeciding]
  · split_ifs <;> simp
  all_goals rfl

@[simp] theorem State.beginSector_records (k : Kind) : (s.beginSector k).lockout.records = s.lockout.records := by
  unfold State.beginSector
  split_ifs
  · split
    · split_ifs <;> simp
    · rfl
  · rfl

@[simp] theorem State.checkSector_records : s.checkSector.lockout.records = s.lockout.records := by
  unfold State.checkSector
  split_ifs
  · unfold State.issueSector
    extract_lets t
    have staged : t.lockout = s.lockout := by
      change (if _ then _ else s).lockout = _; split_ifs <;> rfl
    simp [staged]
  · exact State.askSector_sameBut.records
  · simp

@[simp] theorem State.sectorGranted_records : s.sectorGranted.lockout.records = s.lockout.records := by
  unfold State.sectorGranted
  split
  · split_ifs <;> simp
  · split_ifs <;> simp
  all_goals rfl

@[simp] theorem State.takeReply_records (f : InFlight) (n : Nat) (r : Reply) :
    (s.takeReply f n r).lockout.records = s.lockout.records := by
  have media : (s.countMedia r).lockout = s.lockout := by unfold State.countMedia; split <;> rfl
  unfold State.takeReply
  split
  · unfold State.identReply; split <;> simp
  · simp [(State.sectorReply_sameBut r).records, media]
  · simp [(State.stripeReplied_sameBut _).records, media]

@[simp] theorem State.reissue_records (f : InFlight) : (s.reissue f).lockout.records = s.lockout.records := by
  unfold State.reissue
  split_ifs
  · exact (State.giveUp_sameBut f).records
  · rfl

/-! ### What the taking of an event leaves of it -/

theorem State.takeKey_records {act : KeyEvent → Option (State → State)}
    (h : ∀ e g, act e = some g → ∀ t, (g t).lockout.records = t.lockout.records) :
    (s.takeKey act).lockout.records = s.lockout.records := by
  unfold State.takeKey
  split
  · split
    · rfl
    · split
      · rfl
      · rename_i g hg
        extract_lets t
        split_ifs <;> simp [t, h _ g hg]
  · rfl

theorem State.takeKeyOrder_records {act : KeyOrder → Option (State → State)}
    (h : ∀ o g, act o = some g → ∀ t, (g t).lockout.records = t.lockout.records) :
    (s.takeKeyOrder act).lockout.records = s.lockout.records := by
  unfold State.takeKeyOrder
  split_ifs
  · split
    · rfl
    · split
      · rename_i g hg
        extract_lets u
        split_ifs <;> simp [u, h _ g hg]
      · rfl
  · rfl

theorem State.takeCred_records {act : CredEvent → Option (State → State)}
    (h : ∀ e g, act e = some g → ∀ t, (g t).lockout.records = t.lockout.records) :
    (s.takeCred act).lockout.records = s.lockout.records := by
  unfold State.takeCred State.takeNextCred
  split_ifs
  · split
    · simp
    · split
      · rename_i g hg; simp [h _ g hg]
      · simp
  · simp
  · rfl

theorem State.takeEvent_records {act : EngineEvent → Option (State → State)}
    (h : ∀ e g, act e = some g → ∀ t, (g t).lockout.records = t.lockout.records) :
    (s.takeEvent act).lockout.records = s.lockout.records := by
  obtain e | ⟨e, rest, g, -, -, -, hg, e'⟩ := State.takeEvent_cases (s := s) act
  · rw [e]
  · simp [e', h _ g hg]

theorem State.takeOrder_records {act : GuardOrder → Option (State → State)}
    (h : ∀ o g, act o = some g → ∀ t, (g t).lockout.records = t.lockout.records) :
    (s.takeOrder act).lockout.records = s.lockout.records := by
  obtain e | ⟨o, rest, g, -, -, -, hg, e⟩ := State.takeOrder_cases (s := s) act
  · rw [e]
  · simp [e, h _ g hg]

theorem State.takeGuardRequest_records {k : Kind} {serve : Request → State → State}
    (h : ∀ r (t : State), (serve r t).lockout.records = t.lockout.records) :
    (s.takeGuardRequest k serve).lockout.records = s.lockout.records := by
  refine State.takeOrder_records ?_
  rintro o g hg t
  split at hg
  · split_ifs at hg; cases hg
    dsimp only
    split_ifs <;> simp [h]
  · cases hg

theorem State.takeControl_records {mine : Nat → Bool} {serve : State → Request → State}
    (h : ∀ t r, (serve t r).lockout.records = t.lockout.records) :
    (s.takeControl mine serve).lockout.records = s.lockout.records := by
  unfold State.takeControl
  extract_lets t
  split_ifs
  · simp [t]
  · refine (State.takeEvent_records ?_).trans (by simp [t] : t.lockout.records = s.lockout.records)
    rintro e g hg u
    split at hg
    · split_ifs at hg
      cases hg
      exact State.serveErase_records _ fun w => h w _
    · cases hg

theorem State.expire_records {mine : Assembler → Bool} {act : State → State}
    (h : ∀ t, (act t).lockout.records = t.lockout.records) :
    (s.expire mine act).lockout.records = s.lockout.records := by
  unfold State.expire
  split_ifs
  · refine State.takeKeyOrder_records ?_
    rintro o g hg u
    split_ifs at hg
    cases hg
    dsimp only
    split_ifs <;> simp [h]
  · simp [h]
  · simp
  · rfl

end Sys2Proof.Machine
end

section
namespace Sys2Proof.Machine
set_option Elab.async false
variable {s t u : State} {ps : List Part}

/-! ### The commands that leave the domains as they were -/

/-- The commands that can change a domain: reset and start-up, the examination and the lockout unit's own events. -/
def worksDomains : Instr → Bool
  | .resetAssert _ | .startUp _ | .powerLoss _ | .loadRecords | .lockoutExamination => true
  | .charge | .matchReport | .noMatchReport | .acceptanceComplete | .lockoutTick | .lockoutEnd _ | .factoryOrder => true
  | _ => false

/-- An outcome that is a next state. -/
theorem go_records (h : go u = .next t) (k : u.lockout.records = s.lockout.records) :
    t.lockout.records = s.lockout.records := by cases h; exact k

/-- What a block does with a signal that it takes. -/
@[simp] theorem State.warn_records (b : Block) : (s.warn b).lockout.records = s.lockout.records := by
  cases b <;> simp [State.warn, State.warnExchange, State.warnGuard, State.warnLink]

@[simp] theorem State.recover_records (b : Block) : (s.recover b).lockout.records = s.lockout.records := by
  cases b
  case exchange => dsimp only [State.recover]; split_ifs <;> simp
  all_goals simp [State.recover]

@[simp] theorem State.halt_records (b : Block) : (s.halt b).lockout.records = s.lockout.records := by
  cases b <;> simp [State.halt]

@[simp] theorem State.critical_records (b : Block) : (s.critical b).lockout.records = s.lockout.records := by
  cases b <;> simp [State.critical]

@[simp] theorem State.release_records (b : Block) : (s.release b).lockout.records = s.lockout.records := by
  cases b <;> simp [State.release]

/-- The entry to HALTED that is taken. -/
theorem State.takeHalt_records {b : Block} (h : s.takeHalt b = some t) : t.lockout.records = s.lockout.records := by
  unfold State.takeHalt at h
  split_ifs at h
  · exact State.takeSignal_records h
  · cases h; simp

/-! ### The requests of the exchange unit and the answers of the store leave the domains -/

@[simp] theorem State.cancel_records (r : Request) (n : RSlot) : (s.cancel r n).lockout.records = s.lockout.records := by
  have target : (s.cancelTarget n).1.lockout.records = s.lockout.records := by
    unfold State.cancelTarget
    split
    · simp
    · simp [(State.reloadFor_sameBut _).records]
    · simp
    · rfl
  unfold State.cancel
  split_ifs <;> simp [target]

@[simp] theorem State.deleteRequest_records (r : Request) :
    (State.deleteRequest r s).lockout.records = s.lockout.records := by
  unfold State.deleteRequest
  split
  · simp
  · rename_i t ht
    split
    · simp [State.authorize_records ht]
    · split_ifs <;> simp [State.authorize_records ht]

@[simp] theorem State.guardCommitted_records : s.guardCommitted.lockout.records = s.lockout.records := by
  unfold State.guardCommitted
  split
  · split_ifs
    · rename_i next _ _; cases next <;> simp [State.guardThen, (State.volumeAccepted_sameBut _).records]
    · simp
  · rfl

@[simp] theorem State.committed_records (w : Waiter) : (s.committed w).lockout.records = s.lockout.records := by
  cases w
  case engine => exact State.engineCommitted_sameBut.records
  case link =>
    dsimp only [State.committed]
    split_ifs
    · exact State.identDone_sameBut.records
    · rfl
  case startUp => dsimp only [State.committed]; split_ifs <;> simp
  all_goals simp [State.committed]

@[simp] theorem State.commitAgrees_records (q : Queued) : (s.commitAgrees q).lockout.records = s.lockout.records := by
  have fold (l : List Waiter) (t : State) : (l.foldl State.committed t).lockout.records = t.lockout.records := by
    induction l generalizing t with
    | nil => rfl
    | cons x l ih => simp [ih]
  unfold State.commitAgrees
  rw [State.beginCommit_sameBut.records, fold, State.modStore_lockout]

/-- The commands that query the window, and the answers of the store. -/
theorem exec_records_of_query {c : Instr} (hc : queriesWindow c = true) (h : exec c s = .next t) :
    t.lockout.records = s.lockout.records := by
  cases c with
  | cancel =>
    refine go_records h ?_
    split_ifs
    · split
      · split <;> simp
      · rfl
    · rfl
  | setPolicy =>
    refine go_records h ?_
    split
    · split
      · rfl
      · extract_lets t u
        split_ifs <;> simp [t, u]
    · rfl
  | defineVolume =>
    refine go_records h ?_
    split_ifs
    · simp
    · exact (State.takeGuardRequest_records fun _ _ => by simp).trans (State.beforeQuery_records _)
  | deleteVolume =>
    refine go_records h ?_
    split_ifs
    · simp
    · exact (State.takeGuardRequest_records fun _ _ => by simp).trans (State.beforeQuery_records _)
  | commitDone r =>
    refine go_records h ?_
    split
    · split
      · rfl
      · split
        · simp
        · split_ifs <;> simp [State.commitRetry]
    · rfl
  | erase =>
    refine go_records h ?_
    split_ifs
    · simp
    · refine (State.takeEvent_records ?_).trans (State.beforeQuery_records _)
      rintro e g hg u
      split at hg
      · split_ifs at hg; cases hg
        exact State.serveErase_records _ fun w => by simp
      · cases hg
  | pause | resume | abort => exact go_records h (State.takeControl_records fun _ _ => by simp)
  | _ => cases hc

/-- The commands of the volume guard, the sector path and the storage link. -/
theorem exec_records_of_guardOrLink {c : Instr} (hc : worksGuardOrLink c = true) (h : exec c s = .next t) :
    t.lockout.records = s.lockout.records := by
  cases c with
  | criticalSignal b =>
    refine go_records h ?_
    split_ifs
    · split
      · rename_i v hv; simp [State.takeSignal_records hv]
      · rfl
    · rfl
  | readSectors | writeSectors => exact go_records h (by simp)
  | sectorGrant => refine go_records h ?_; split_ifs <;> simp
  | linkReply =>
    refine go_records h ?_
    split_ifs
    · split
      · simp [State.countMalformed]
      · split_ifs <;> simp [State.countMalformed]
    · rfl
  | linkTimeout =>
    refine go_records h ?_
    split_ifs
    · split
      · split_ifs <;> simp
      · rfl
    · rfl
  | linkReissue =>
    refine go_records h ?_
    split_ifs
    · split
      · split_ifs <;> simp
      · rfl
    · rfl
  | lock => exact go_records h (State.takeGuardRequest_records fun _ _ => by simp)
  | openOrder | faultOrder | lockOrder | eraseAcceptance | eraseEnd =>
    refine go_records h (State.takeOrder_records ?_)
    rintro o g hg u; split at hg <;> cases hg; simp
  | capacityReport =>
    refine go_records h (State.takeOrder_records fun o g hg u => ?_)
    split at hg
    · rw [← Option.some.inj hg]
      exact State.capacityReport_records _ _ _
    · cases hg
  | idleTimerExpiry v => refine go_records h ?_; split_ifs <;> simp
  | _ => cases hc

/-- The commands of the keypad unit. -/
def worksKeypad : Instr → Bool
  | .keyScan _ | .keyAccepted _ | .hold _ | .chord | .digitPress | .enterPress | .enterHold | .clearPress => true
  | .clearHold | .chordTaken | .entryTimeout | .stageTimeout | .enrollOrder | .outcomeReport | .returnToIdle
  | .flashEnd => true
  | .indicatorPhase => true
  | _ => false

theorem exec_records_of_keypad {c : Instr} (hc : worksKeypad c = true) (h : exec c s = .next t) :
    t.lockout.records = s.lockout.records := by
  cases c with
  | keyScan | keyAccepted | hold | chord | flashEnd => refine go_records h ?_; split_ifs <;> simp
  | digitPress | enterPress | enterHold | clearPress | clearHold | chordTaken =>
    refine go_records h (State.settle_records.trans (State.takeKey_records ?_))
    rintro e g hg u; split at hg <;> cases hg; simp
  | entryTimeout => exact go_records h (State.expire_records fun t => by split_ifs <;> simp)
  | stageTimeout => exact go_records h (State.expire_records fun t => by simp)
  | enrollOrder | outcomeReport | returnToIdle =>
    refine go_records h (State.takeKeyOrder_records ?_)
    rintro e g hg u; split at hg <;> cases hg; simp
  | indicatorPhase => refine go_records h ?_; split_ifs <;> simp [State.nextPhase]
  | _ => cases hc

/-- The events of the credential unit. -/
theorem exec_records_of_credentials {c : Instr} (hc : ofCredentials c = true) (h : exec c s = .next t) :
    t.lockout.records = s.lockout.records := by
  cases c with
  | enroll =>
    refine go_records h ?_
    split_ifs
    · split <;> simp
    · simp
  | revoke =>
    refine go_records h (State.takeCred_records ?_)
    rintro e g hg u; split at hg <;> cases hg
    dsimp only; split_ifs <;> simp
  | derivationDone =>
    refine go_records h ?_
    split
    · refine State.takeCred_records ?_
      rintro e g hg u; split_ifs at hg; cases hg
      dsimp only; cases u.cred.deriv <;> simp
    · extract_lets t
      split_ifs
      · cases t.cred.deriv <;> simp [t]
      · simp [t]
  | windowTick | windowExpiry => refine go_records h ?_; split_ifs <;> simp
  | windowClose =>
    refine go_records h (State.takeCred_records ?_)
    rintro e g hg u; split at hg <;> cases hg
    dsimp only; split_ifs <;> simp
  | entryHanded | chargeCommitted | factoryRevocation | wrapAndAdd | removal | enrollEntry | enrollEarlyEnd =>
    refine go_records h (State.takeCred_records ?_)
    rintro e g hg u; split at hg <;> cases hg; simp
  | _ => cases hc

/-- The commands that do not concern the lockout unit leave every domain as it was. -/
theorem exec_records {c : Instr} (hc : worksDomains c = false) (h : exec c s = .next t) :
    t.lockout.records = s.lockout.records := by
  by_cases query : queriesWindow c = true
  · exact exec_records_of_query query h
  by_cases guard : worksGuardOrLink c = true
  · exact exec_records_of_guardOrLink guard h
  by_cases keypad : worksKeypad c = true
  · exact exec_records_of_keypad keypad h
  by_cases cred : ofCredentials c = true
  · exact exec_records_of_credentials cred h
  cases c with
  | resetAssert | startUp | powerLoss | loadRecords | lockoutExamination | charge | matchReport | noMatchReport
  | acceptanceComplete | lockoutTick | lockoutEnd | factoryOrder => cases hc
  | orphanCheck =>
    refine go_records h ((State.takeEvent_records ?_).trans ?_)
    · rintro e g hg u; split at hg <;> cases hg
      dsimp only; split_ifs <;> simp
    · split_ifs <;> simp
  | startUpIdent | leaveStarting | supplyRise | supplyRecovery | portWordWrite | attnWrite | attnLvlWrite | scanWrite
  | scanCfgWrite | scanTimerExpiry | probe | temperatureSample => refine go_records h ?_; split_ifs <;> simp
  | supplyWarning =>
    refine go_records h ?_
    split_ifs
    · split <;> simp
    · rfl
  | warningTaken b | recoveryTaken b | hotSignal | releaseSignal b =>
    refine go_records h ?_
    split_ifs
    · split
      · rename_i v hv; simp [State.takeSignal_records hv]
      · rfl
    · rfl
  | haltOrder b =>
    refine go_records h ?_
    split_ifs
    · split
      · rename_i v hv; simp [State.takeHalt_records hv]
      · rfl
    · rfl
  | registerWriteOther => exact go_records h rfl
  | identify =>
    refine go_records h ?_
    split_ifs
    · split <;> simp
    · rfl
  | stripeGrant | factoryChord | extentLost =>
    refine go_records h (State.takeEvent_records ?_)
    rintro e g hg u; split at hg <;> cases hg
    dsimp only; split_ifs <;> simp
  | wipeTrigger =>
    refine go_records h (State.takeEvent_records ?_)
    rintro e g hg u; split at hg <;> cases hg <;> (dsimp only; split_ifs <;> simp)
  | stripeReply | linkFaultReport =>
    refine go_records h ?_
    split_ifs
    · simp
    · rfl
    · refine State.takeEvent_records ?_
      rintro e g hg u; split at hg <;> cases hg; simp
  | linkReturn =>
    refine go_records h (State.takeEvent_records ?_)
    rintro e g hg u; split at hg <;> cases hg; simp
  | _ => simp [queriesWindow, worksGuardOrLink, worksKeypad, ofCredentials] at query guard keypad cred

end Sys2Proof.Machine
end

section
namespace Sys2Proof.Machine
set_option Elab.async false
variable {s t u : State} {ps : List Part}

/-! ### The law of one domain (R48, R55) -/

/-- The law of a domain, spelled out. -/
theorem DomainState.ok_iff {x : DomainState} :
    x.ok = true ↔ x.left ≤ 36000 ∧ x.inputs.cap ≤ 36000 ∧ (x.lockedOut = true ∨ x.left = 0 ∧ x.step = 0) := by
  simp [DomainState.ok, and_assoc]

/-- No cap code stands for more than 36000 s (R50). -/
theorem capSeconds_le (c : Nat) : capSeconds c ≤ 36000 := by
  rcases Nat.lt_or_ge c 8 with h | h
  · interval_cases c <;> simp [capSeconds]
  · simp [capSeconds, h]

/-- A domain whose inputs have been sampled again keeps the law. -/
theorem DomainState.sampled_ok {x : DomainState} (h : x.ok = true) (p : DomainPolicy) :
    ({ x with inputs := sampleInputs p } : DomainState).ok = true := by
  obtain ⟨left, -, rest⟩ := DomainState.ok_iff.1 h
  exact DomainState.ok_iff.2 ⟨left, capSeconds_le _, rest⟩

theorem DomainState.charged_ok {x : DomainState} (h : x.ok = true) (p : DomainPolicy) :
    (x.charged (sampleInputs p)).ok = true := DomainState.sampled_ok h p

theorem DomainState.unflagged_ok {x : DomainState} (h : x.ok = true) :
    ({ x with flag := false } : DomainState).ok = true := h

theorem DomainState.cleared_ok {x : DomainState} (h : x.ok = true) : x.cleared.ok = true := by
  obtain ⟨-, cap, -⟩ := DomainState.ok_iff.1 h
  exact DomainState.ok_iff.2 ⟨Nat.zero_le _, cap, .inr ⟨rfl, rfl⟩⟩

theorem DomainState.endLockout_ok {x : DomainState} (h : x.ok = true) : x.endLockout.ok = true := by
  obtain ⟨-, cap, -⟩ := DomainState.ok_iff.1 h
  exact DomainState.ok_iff.2 ⟨Nat.zero_le _, cap, .inr ⟨rfl, rfl⟩⟩

/-- A lockout that starts lasts no longer than its cap. -/
theorem DomainState.startLockout_ok {x : DomainState} (h : x.ok = true) : x.startLockout.ok = true := by
  obtain ⟨-, cap, -⟩ := DomainState.ok_iff.1 h
  exact DomainState.ok_iff.2 ⟨(Nat.min_le_right _ _).trans cap, cap, .inl rfl⟩

/-- A second of a lockout that goes on. -/
theorem DomainState.counted_ok {x : DomainState} (h : x.ok = true) (locked : x.lockedOut = true) :
    ({ x with left := x.left - 1 } : DomainState).ok = true := by
  obtain ⟨left, cap, -⟩ := DomainState.ok_iff.1 h
  exact DomainState.ok_iff.2 ⟨(Nat.sub_le _ _).trans left, cap, .inl locked⟩

/-- A domain as loaded is READY (R62). -/
theorem loadDomain_ok {i : Sampled} (h : i.cap ≤ 36000) (x : Stored DomainRec) (p : DomainPolicy) :
    (loadDomain x p i).ok = true := by
  unfold loadDomain
  split_ifs <;> exact DomainState.ok_iff.2 ⟨Nat.zero_le _, h, .inr ⟨rfl, rfl⟩⟩

/-! ### The law of both domains -/

/-- R48 for the unit is R48 for each domain. -/
theorem State.domainsOk_iff : s.domainsOk = true ↔ ∀ d, (s.domain d).ok = true := by
  unfold State.domainsOk
  rw [Bool.and_eq_true]
  exact ⟨fun h d => by cases d <;> simp [State.domain, h], fun h => ⟨h .normal, h .recovery⟩⟩

/-- The law rests on the records alone. -/
theorem State.domainsOk_of_records (ok : s.domainsOk = true) (h : t.lockout.records = s.lockout.records) :
    t.domainsOk = true := by
  rw [State.domainsOk_iff] at ok ⊢
  simpa only [State.domain_eq, h] using ok

/-- A step whose frame is without the domains keeps the law. -/
theorem State.sameBut.domainsOk (h : s.sameBut ps t) (ok : s.domainsOk = true)
    (w : ps.contains .domains = false := by decide) : t.domainsOk = true := State.domainsOk_of_records ok (h.records w)

/-- What a change of one domain leaves of each. -/
theorem State.modDomain_domain (d e : Domain) (g : DomainState → DomainState) :
    (s.modDomain d g).domain e = if d = e then g (s.domain d) else s.domain e := by cases d <;> cases e <;> rfl

@[simp] theorem State.modDomain_same (d : Domain) (g : DomainState → DomainState) :
    (s.modDomain d g).domain d = g (s.domain d) := (State.modDomain_domain d d g).trans (if_pos rfl)

/-- A change of one domain that keeps its law. -/
theorem State.modDomain_domainsOk (ok : s.domainsOk = true) (d : Domain) {g : DomainState → DomainState}
    (h : (s.domain d).ok = true → (g (s.domain d)).ok = true) : (s.modDomain d g).domainsOk = true := by
  rw [State.domainsOk_iff] at ok ⊢
  intro e
  rw [State.modDomain_domain]
  split_ifs
  · exact h (ok d)
  · exact ok e

/-! ### The lockout unit's operations keep the law -/

theorem State.startLockout_domainsOk (ok : s.domainsOk = true) (d : Domain) : (s.startLockout d).domainsOk = true :=
  (State.attend_sameBut _).domainsOk ((State.queueDomain_sameBut _).domainsOk
    (State.modDomain_domainsOk ok d DomainState.startLockout_ok))

theorem State.wipeDone_domainsOk (ok : s.domainsOk = true) (d : Domain) : (s.wipeDone d).domainsOk = true :=
  (State.attend_sameBut _).domainsOk ((State.queueDomain_sameBut _).domainsOk
    (State.modDomain_domainsOk ok d DomainState.cleared_ok))

theorem State.tickDomain_domainsOk (ok : s.domainsOk = true) (d : Domain) : (s.tickDomain d).domainsOk = true := by
  unfold State.tickDomain
  split_ifs with locked
  · exact (State.attend_sameBut _).domainsOk ((State.queueDomain_sameBut _).domainsOk
      (State.modDomain_domainsOk ok d DomainState.endLockout_ok))
  · exact State.modDomain_domainsOk ok d fun h => DomainState.counted_ok h locked
  · exact ok

theorem State.lockoutTick_domainsOk (ok : s.domainsOk = true) : s.lockoutTick.domainsOk = true := by
  unfold State.lockoutTick
  extract_lets locked t
  have ticked : t.domainsOk = true := State.tickDomain_domainsOk (State.tickDomain_domainsOk ok _) _
  split_ifs
  · exact ok
  · exact (State.refreshEntries_sameBut _).domainsOk ticked
  · exact ticked

theorem State.lockoutTicks_domainsOk (n : Nat) {s : State} (ok : s.domainsOk = true) :
    (State.lockoutTicks n s).domainsOk = true := by
  induction n generalizing s with
  | zero => exact ok
  | succ n ih =>
    unfold State.lockoutTicks
    split_ifs
    · exact ih (State.settle_sameBut.domainsOk (State.lockoutTick_domainsOk (State.popLockout_sameBut.domainsOk ok)))
    · exact ok

theorem State.takeTicks_domainsOk (ok : s.domainsOk = true) : s.takeTicks.domainsOk = true :=
  State.lockoutTicks_domainsOk _ ok

theorem State.examine_domainsOk (ok : s.domainsOk = true) (d : Domain) : (s.examine d).1.domainsOk = true := by
  unfold State.examine
  extract_lets t x
  have sampled : t.domainsOk = true := State.modDomain_domainsOk ok d fun h => DomainState.sampled_ok h _
  split_ifs
  · exact (State.attend_sameBut _).domainsOk ((State.bruteForce_sameBut _).domainsOk sampled)
  · exact State.startLockout_domainsOk sampled d
  · exact (State.queueDomain_sameBut _).domainsOk (State.modDomain_domainsOk sampled d DomainState.unflagged_ok)
  · exact sampled

theorem State.examined_domainsOk (ok : s.domainsOk = true) : s.examined.domainsOk = true :=
  State.settle_sameBut.domainsOk ((State.refresh_sameBut .domains).domainsOk ((State.modStartUp_sameBut _).domainsOk ok))

theorem State.examineThen_domainsOk (ok : s.domainsOk = true) (d : Domain) {k : State → State}
    (h : ∀ t : State, t.domainsOk = true → (k t).domainsOk = true) : (s.examineThen d k).domainsOk = true := by
  unfold State.examineThen
  extract_lets r
  have done : r.1.domainsOk = true := State.examine_domainsOk ok d
  split_ifs
  · exact (State.modStartUp_sameBut _).domainsOk done
  · exact h _ done

theorem State.examineAfter_domainsOk (ok : s.domainsOk = true) (d : Domain) : (s.examineAfter d).domainsOk = true := by
  cases d with
  | normal => exact State.examineThen_domainsOk ok _ fun _ => State.examined_domainsOk
  | recovery => exact State.examined_domainsOk ok

theorem State.charge_domainsOk (ok : s.domainsOk = true) (d : Domain) : (s.charge d).domainsOk = true := by
  unfold State.charge
  extract_lets t
  have charged : t.domainsOk = true := State.modDomain_domainsOk ok d fun h => DomainState.charged_ok h _
  split_ifs
  · exact (State.queueRec_sameBut _ _).domainsOk ((State.lockoutWaits_sameBut _).domainsOk charged)
  · exact charged

theorem State.matchOutcome_domainsOk (ok : s.domainsOk = true) (d : Domain) : (s.matchOutcome d).domainsOk = true :=
  (State.refreshEntries_sameBut _).domainsOk ((State.queueDomain_sameBut _).domainsOk
    (State.modDomain_domainsOk ok d DomainState.cleared_ok))

theorem State.noMatchOutcome_domainsOk (ok : s.domainsOk = true) (d : Domain) :
    (s.noMatchOutcome d).domainsOk = true := by
  unfold State.noMatchOutcome
  extract_lets x
  split_ifs
  · exact (State.bruteForce_sameBut _).domainsOk ok
  · exact (State.refreshEntries_sameBut _).domainsOk (State.startLockout_domainsOk ok d)
  · exact ok

theorem State.acceptanceDone_domainsOk (ok : s.domainsOk = true) (d : Domain) :
    (s.acceptanceDone d).domainsOk = true := by
  unfold State.acceptanceDone
  extract_lets t u
  have taken : t.domainsOk = true := ok
  have done : u.domainsOk = true := State.lockoutRelease_sameBut.domainsOk (State.wipeDone_domainsOk taken d)
  split_ifs
  · exact State.examineAfter_domainsOk ((State.modStartUp_sameBut _).domainsOk done) d
  · exact State.settle_sameBut.domainsOk ((State.refreshEntries_sameBut _).domainsOk done)

theorem State.takeAcceptance_domainsOk (ok : s.domainsOk = true) (d : Domain) :
    (s.takeAcceptance d).domainsOk = true := by
  unfold State.takeAcceptance
  split_ifs
  · exact State.acceptanceDone_domainsOk ok d
  · exact ok

theorem State.factoryClear_domainsOk (ok : s.domainsOk = true) : s.factoryClear.domainsOk = true := by
  unfold State.factoryClear
  extract_lets was t u
  have both : t.domainsOk = true :=
    State.modDomain_domainsOk (State.modDomain_domainsOk ok _ DomainState.cleared_ok) _ DomainState.cleared_ok
  have queued : u.domainsOk = true :=
  (State.queueDomain_sameBut _).domainsOk ((State.queueDomain_sameBut _).domainsOk both)
  split_ifs
  · exact (State.refresh_sameBut .domains).domainsOk ((State.attend_sameBut _).domainsOk queued)
  · exact (State.refresh_sameBut .domains).domainsOk queued

theorem State.takeLock_domainsOk {act : LockEvent → Option (State → State)} (ok : s.domainsOk = true)
    (h : ∀ e g, act e = some g → ∀ t : State, t.domainsOk = true → (g t).domainsOk = true) :
    (s.takeLock act).domainsOk = true := by
  have ticked : s.takeTicks.domainsOk = true := State.takeTicks_domainsOk ok
  unfold State.takeLock State.takeNextLock
  split_ifs
  · split
    · exact ticked
    · split
      · rename_i g hg
        exact State.settle_sameBut.domainsOk (h _ g hg _ (State.popLockout_sameBut.domainsOk ticked))
      · exact ticked
  · exact ticked
  · exact ok

theorem State.unlessHalted_domainsOk {g : State → State} (ok : s.domainsOk = true)
    (h : ∀ t : State, t.domainsOk = true → (g t).domainsOk = true) : (s.unlessHalted g).domainsOk = true := by
  unfold State.unlessHalted
  split_ifs
  · exact ok
  · exact h s ok

/-! ### Reset and start-up keep the law -/

/-- RESET, loss of power and start-up leave both domains READY, with the inputs of the default POLICY. -/
theorem State.cleared_domainsOk (nv : NvArray) (p : PowerState) : (s.cleared nv p).domainsOk = true :=
  State.domainsOk_of_records (s := State.reset) (by decide) rfl

theorem State.loadAll_domainsOk (ok : s.domainsOk = true) : s.loadAll.domainsOk = true := by
  have caps (d : Domain) : (s.domain d).inputs.cap ≤ 36000 := by
    obtain ⟨-, cap, -⟩ := DomainState.ok_iff.1 (State.domainsOk_iff.1 ok d)
    exact cap
  unfold State.loadAll
  extract_lets n policy a b c d e q f g h i
  have he : e.domainsOk = true := State.domainsOk_iff.2 fun x => by
    cases x
    · exact loadDomain_ok (caps .normal) _ _
    · exact loadDomain_ok (caps .recovery) _ _
  have hq (r : Rec) (x : Bool) (t : State) (k : t.domainsOk = true) : (q r x t).domainsOk = true := by
    unfold q
    split_ifs
    · exact (State.queueRec_sameBut _ _).domainsOk k
    · exact k
  have hi : i.domainsOk = true := hq _ _ _ (hq _ _ _ (hq _ _ _ (hq _ _ _ he)))
  split_ifs
  · exact hi
  · exact (State.attend_sameBut _).domainsOk hi

theorem State.healWraps_records : s.healWraps.lockout.records = s.lockout.records := by
  unfold State.healWraps
  induction allVols generalizing s with
  | nil => rfl
  | cons v l ih =>
    rw [List.foldl_cons, ih]
    cases (s.vol v).data.state <;> simp

theorem State.loadList_records : s.loadList.lockout.records = s.lockout.records := by
  unfold State.loadList
  extract_lets n intact stored kept ended whole list t u v
  have hu : u.lockout.records = s.lockout.records := by unfold u; split_ifs <;> simp [t]
  have hv : v.lockout.records = s.lockout.records := by unfold v; split_ifs <;> simp [hu]
  split_ifs <;> simp [hv]

/-! ### Every step keeps the law -/

/-- An outcome that is a next state. -/
theorem go_domainsOk (h : go u = .next t) (k : u.domainsOk = true) : t.domainsOk = true := by cases h; exact k

/-- Reset, start-up and the examination keep the law. -/
theorem exec_domainsOk_of_startUp {c : Instr} (hc : resets c = true ∨ c = .loadRecords ∨ c = .lockoutExamination)
    (ok : s.domainsOk = true) (h : exec c s = .next t) : t.domainsOk = true := by
  cases c with
  | resetAssert =>
    refine go_domainsOk h ?_
    split_ifs
    · exact ok
    · exact State.cleared_domainsOk _ _
  | powerLoss => exact go_domainsOk h (State.cleared_domainsOk _ _)
  | startUp =>
    refine go_domainsOk h ?_
    split_ifs
    · exact State.cleared_domainsOk _ _
    · exact State.domainsOk_of_records (State.cleared_domainsOk _ _) State.raiseWarning_records
    · exact ok
  | loadRecords =>
    refine go_domainsOk h ?_
    split_ifs
    · exact State.domainsOk_of_records (State.loadAll_domainsOk ok)
        (by simp [State.loadList_records, State.healWraps_records])
    · exact ok
  | lockoutExamination =>
    refine go_domainsOk h ?_
    split_ifs
    · exact State.examineThen_domainsOk ok _ fun _ k => State.examineAfter_domainsOk k _
    · exact ok
  | _ => simp [resets] at hc

/-- Every command keeps the law. -/
theorem exec_domainsOk {c : Instr} (ok : s.domainsOk = true) (h : exec c s = .next t) : t.domainsOk = true := by
  by_cases hc : worksDomains c = false
  · exact State.domainsOk_of_records ok (exec_records hc h)
  cases c with
  | resetAssert | startUp | powerLoss | loadRecords | lockoutExamination =>
    exact exec_domainsOk_of_startUp (by simp [resets]) ok h
  | charge =>
    refine go_domainsOk h (State.takeLock_domainsOk ok ?_)
    rintro e g hg v k; split at hg <;> cases hg
    exact State.unlessHalted_domainsOk k fun _ k => State.charge_domainsOk k _
  | matchReport =>
    refine go_domainsOk h (State.takeLock_domainsOk ok ?_)
    rintro e g hg v k; split at hg <;> cases hg
    exact State.unlessHalted_domainsOk k fun _ k => State.matchOutcome_domainsOk k _
  | noMatchReport =>
    refine go_domainsOk h (State.takeLock_domainsOk ok ?_)
    rintro e g hg v k; split at hg <;> cases hg
    exact State.unlessHalted_domainsOk k fun _ k => State.noMatchOutcome_domainsOk k _
  | acceptanceComplete =>
    refine go_domainsOk h ?_
    split
    · split_ifs
      · exact State.takeAcceptance_domainsOk ok _
      · exact ok
    · refine State.takeLock_domainsOk ok ?_
      rintro e g hg v k; split_ifs at hg; cases hg
      exact k
  | lockoutTick =>
    refine go_domainsOk h ?_
    have told : (s.tellLockout .tick).domainsOk = true := (State.tellLockout_sameBut _).domainsOk ok
    split_ifs
    · exact State.takeTicks_domainsOk told
    · exact told
    · exact ok
  | lockoutEnd d =>
    refine go_domainsOk h ?_
    split_ifs
    · exact State.settle_sameBut.domainsOk ((State.refreshEntries_sameBut _).domainsOk (State.tickDomain_domainsOk ok d))
    · exact ok
  | factoryOrder =>
    refine go_domainsOk h (State.takeLock_domainsOk ok ?_)
    rintro e g hg v k; split at hg <;> cases hg
    exact State.factoryClear_domainsOk k
  | _ => exact absurd rfl hc

/-- What a command leaves, whatever its outcome, keeps the law. -/
theorem State.after_domainsOk (c : Instr) (ok : s.domainsOk = true) : (s.after (exec c s)).domainsOk = true := by
  unfold State.after
  split
  · rename_i h; exact exec_domainsOk ok h
  · exact ok

/-- A second of the timebase keeps the law. -/
theorem State.secondTick_domainsOk (ok : s.domainsOk = true) : s.secondTick.domainsOk = true := by
  have expired (l : List Vol) {a : State} (k : a.domainsOk = true) :
      (l.foldl (fun t v => if (t.vol v).idle = some 0 then t.after (exec (.idleTimerExpiry v) t) else t) a).domainsOk =
        true := by
    induction l generalizing a with
    | nil => exact k
    | cons v l ih =>
      refine ih ?_
      dsimp only
      split_ifs
      · exact State.after_domainsOk _ k
      · exact k
  unfold State.secondTick State.expireIdle
  exact expired _ (State.countIdle_sameBut.domainsOk
    (State.after_domainsOk _ (State.after_domainsOk _ (State.after_domainsOk _ ok))))

/-- A tick keeps the law. -/
theorem State.tick_domainsOk (ok : s.domainsOk = true) : s.tick.domainsOk = true := by
  unfold State.tick
  split
  · extract_lets t
    have ht : t.domainsOk = true := State.domainsOk_of_records ok (by
      show (if s.keypad.scanning then s.keyScan s.keypad.contacts else { s with ms := s.ms + 1 }).lockout.records = _
      split_ifs <;> simp)
    split_ifs
    · exact State.domainsOk_of_records ht rfl
    · exact State.secondTick_domainsOk (State.domainsOk_of_records ht rfl)
  · exact ok

end Sys2Proof.Machine

open Sys2Proof Sys2Proof.Machine

/-- Settles O8: every command keeps R48 for each domain, and so does a tick. -/
theorem domainsStayLegal : Obligations.DomainsStayLegal := by
  intro s t ok h
  unfold step at h
  split at h
  · rename_i c rest _
    have okRest : ({ s with pending := rest } : State).domainsOk = true := State.domainsOk_of_records ok rfl
    exact exec_domainsOk okRest h
  · split at h
    · exact exec_domainsOk ok h
    · cases h; exact State.tick_domainsOk ok
end

section
namespace Sys2Proof.Machine

/-! ### The lockout schedule and the remaining-time report (R50, R55, R60) -/

/-- The base codes. -/
theorem baseSeconds_eq (b : Nat) :
    baseSeconds b = if b = 0 then 5 else if b = 1 then 10 else if b = 2 then 30 else if b = 3 then 60 else 300 := by
  rcases Nat.lt_or_ge b 5 with h | h
  · interval_cases b <;> rfl
  · have base : baseSeconds b = 300 := by simp [baseSeconds, h]
    rw [base]
    split_ifs <;> omega

/-- The cap codes. -/
theorem capSeconds_eq (c : Nat) :
    capSeconds c = if c = 0 then 60 else if c = 1 then 300 else if c = 2 then 900 else if c = 3 then 1800
      else if c = 4 then 3600 else if c = 5 then 7200 else if c = 6 then 14400 else 36000 := by
  rcases Nat.lt_or_ge c 8 with h | h
  · interval_cases c <;> rfl
  · have cap : capSeconds c = 36000 := by simp [capSeconds, h]
    rw [cap]
    split_ifs <;> omega

/-- The first step. -/
theorem lockoutSeconds_one (i : Sampled) : lockoutSeconds i 1 = min i.b i.cap := by simp [lockoutSeconds]

/-- No step is longer than the cap. -/
theorem lockoutSeconds_le (i : Sampled) (n : Nat) : lockoutSeconds i n ≤ i.cap := Nat.min_le_right _ _

/-- A base above the cap makes every step as long as the cap. -/
theorem lockoutSeconds_of_cap_lt {i : Sampled} (h : i.cap < i.b) (n : Nat) : lockoutSeconds i n = i.cap :=
  Nat.min_eq_right (h.le.trans (Nat.le_mul_of_pos_right _ (Nat.two_pow_pos _)))

/-- Each step doubles the one before, up to the cap. -/
theorem lockoutSeconds_succ (i : Sampled) {n : Nat} (h : 1 ≤ n) :
    lockoutSeconds i (n + 1) = min (2 * lockoutSeconds i n) i.cap := by
  obtain ⟨m, rfl⟩ := Nat.exists_eq_add_of_le' h
  have double : i.b * 2 ^ (m + 1) = 2 * (i.b * 2 ^ m) := by ring
  simp only [lockoutSeconds, Nat.add_sub_cancel, double]
  omega

/-- A READY domain reports nothing left. -/
theorem remainingReport_of_ready {d : DomainState} (h : d.lockedOut = false) : remainingReport d = (false, 0) := by
  simp [remainingReport, h]

/-- Up to 635 s are reported in steps of 5 s. -/
theorem remainingReport_of_short {d : DomainState} (h : d.lockedOut = true) (short : d.left ≤ 635) :
    remainingReport d = (false, (d.left + 4) / 5) := by simp [remainingReport, h, short]

/-- Above 635 s the time left is reported in steps of 300 s. -/
theorem remainingReport_of_long {d : DomainState} (h : d.lockedOut = true) (long : 635 < d.left) (le : d.left ≤ 36000) :
    remainingReport d = (true, (d.left + 299) / 300) := by
  have fits : (d.left + 299) / 300 ≤ 127 := by omega
  simp [remainingReport, h, Nat.not_le.2 long, fits]

end Sys2Proof.Machine

open Sys2Proof Sys2Proof.Machine

/-- Settles O50: the tables of the codes, the schedule step by step, and the report on either side of 635 s. -/
theorem lockoutSchedule : Obligations.LockoutSchedule := by
  refine ⟨fun p => ⟨baseSeconds_eq _, capSeconds_eq _, lockoutSeconds_one _, fun n low _ => ⟨rfl,
    (lockoutSeconds_le _ n).trans (capSeconds_le _), fun h => lockoutSeconds_of_cap_lt h n, lockoutSeconds_succ _ low⟩⟩,
    by decide, by decide, fun d le => ⟨rfl, ?_⟩⟩
  cases locked : d.lockedOut with
  | false => rw [remainingReport_of_ready locked]; simp
  | true =>
    rcases Nat.lt_or_ge 635 d.left with long | short
    · rw [remainingReport_of_long locked long le]
      exact ⟨by dsimp only; omega, by simp, fun _ h => absurd h (Nat.not_le.2 long),
        fun _ _ => ⟨rfl, by dsimp only; omega, by dsimp only; omega, by dsimp only; omega⟩⟩
    · rw [remainingReport_of_short locked short]
      exact ⟨by dsimp only; omega, by simp, fun _ _ => ⟨rfl, by dsimp only; omega, by dsimp only; omega⟩,
        fun _ h => absurd short (Nat.not_le.2 h)⟩
end

section
namespace Sys2Proof.Machine
set_option Elab.async false
variable {s t u : State} {ps qs : List Part}

/-! ### One domain changed (R53, R56, R57, R58) -/

/-- A domain outside the frame is as it was. -/
theorem State.sameBut.domain (h : s.sameBut ps t) (d : Domain) (w : ps.contains .domains = false := by decide) :
    t.domain d = s.domain d := by rw [State.domain_eq, State.domain_eq, h.records w]

/-- A step that leaves the store leaves what stands with it. -/
theorem State.sameBut.queued {r : Rec} (h : s.sameBut ps t) (k : s.queued r) (c : ps.contains .commits = false := by decide)
    (c' : ps.contains .storeRest = false := by decide) : t.queued r := by
  intro takes
  rw [h.storeTakes c'] at takes
  change ∃ q ∈ t.standing, q.data = r
  rw [h.standing c]
  exact k takes

/-- One domain has become `x`, the other is as it was; its record has been queued when `queues`, LOCKOUT attention set when
`attends`, and what stood with the store and that flag stand still. -/
structure State.domainTo (s t : State) (d : Domain) (x : DomainState) (queues attends : Prop) : Prop where
  domain : t.domain d = x
  others : ∀ e, e ≠ d → t.domain e = s.domain e
  queued : queues → t.queued (.domain d ⟨x.f, x.flag⟩)
  kept : ∀ r : Rec, r.id ≠ .domain d → s.queued r → t.queued r
  attends : attends → t.attending .lockout = true
  attended : s.attending .lockout = true → t.attending .lockout = true
  policy : t.store.policy = s.store.policy

/-- The settings are with the store. -/
theorem State.sameBut.policy (h : s.sameBut ps t) (w : ps.contains .storeRest = false := by decide) :
    t.store.policy = s.store.policy := by
  have rest : t.store.rest = s.store.rest := State.sameBut_agree h .storeRest w
  exact (congrArg Store.policy rest : t.store.rest.policy = s.store.rest.policy)

/-- A record that is queued leaves the settings. -/
theorem State.queueRec_policy (r : Rec) (ws : List Waiter) : (s.queueRec r ws).store.policy = s.store.policy := by
  have begins (t : State) : t.beginCommit.store.policy = t.store.policy := by
    unfold State.beginCommit
    split <;> rfl
  unfold State.queueRec
  split_ifs
  · rfl
  · rfl
  · exact begins _
  · rfl
  · rfl

/-- A frame that is without several parts is without each. -/
theorem outside_of_all (w : (qs.all fun p => !ps.contains p) = true) {p : Part} (hp : p ∈ qs) : ps.contains p = false := by
  simpa using List.all_eq_true.1 w p hp

/-- A step that leaves the domains, the store and the flags, after it. -/
theorem State.domainTo.then {d : Domain} {x : DomainState} {q a : Prop} (h : s.domainTo u d x q a) (k : u.sameBut ps t)
    (w : ([.domains, .commits, .storeRest, .attn].all fun p => !ps.contains p) = true := by decide) :
    s.domainTo t d x q a := by
  have domains := outside_of_all w (p := .domains) (by decide)
  have commits := outside_of_all w (p := .commits) (by decide)
  have rest := outside_of_all w (p := .storeRest) (by decide)
  have attn := outside_of_all w (p := .attn) (by decide)
  exact {
    domain := (k.domain d domains).trans h.domain
    others := fun e n => (k.domain e domains).trans (h.others e n)
    queued := fun hq => k.queued (h.queued hq) commits rest
    kept := fun r n hr => k.queued (h.kept r n hr) commits rest
    attends := fun ha => (k.attending .lockout attn).trans (h.attends ha)
    attended := fun ha => (k.attending .lockout attn).trans (h.attended ha)
    policy := (k.policy rest).trans h.policy }

/-- A step that leaves them, before it. -/
theorem State.domainTo.after {d : Domain} {x : DomainState} {q a : Prop} (k : s.sameBut ps u) (h : u.domainTo t d x q a)
    (w : ([.domains, .commits, .storeRest, .attn].all fun p => !ps.contains p) = true := by decide) :
    s.domainTo t d x q a := by
  have domains := outside_of_all w (p := .domains) (by decide)
  have commits := outside_of_all w (p := .commits) (by decide)
  have rest := outside_of_all w (p := .storeRest) (by decide)
  have attn := outside_of_all w (p := .attn) (by decide)
  exact { h with
    others := fun e n => (h.others e n).trans (k.domain e domains)
    kept := fun r n hr => h.kept r n (k.queued hr commits rest)
    attended := fun ha => h.attended ((k.attending .lockout attn).trans ha)
    policy := h.policy.trans (k.policy rest) }

/-- A change of a domain. -/
theorem State.modDomain_domainTo (d : Domain) (g : DomainState → DomainState) :
    s.domainTo (s.modDomain d g) d (g (s.domain d)) False False where
  domain := State.modDomain_same d g
  others := fun e n => (State.modDomain_domain d e g).trans (if_neg n.symm)
  queued := False.elim
  kept := fun _ _ hr => (State.modDomain_sameBut d g).queued hr
  attends := False.elim
  attended := fun ha => ((State.modDomain_sameBut d g).attending .lockout).trans ha
  policy := (State.modDomain_sameBut d g).policy

/-- Its record queued. -/
theorem State.domainTo.queueDomain {d : Domain} {x : DomainState} {q a : Prop} (h : s.domainTo u d x q a) :
    s.domainTo (u.queueDomain d) d x True a where
  domain := ((State.queueDomain_sameBut d).domain d).trans h.domain
  others := fun e n => ((State.queueDomain_sameBut d).domain e).trans (h.others e n)
  queued := fun _ => by
    have rec' : u.domainRec d = .domain d ⟨x.f, x.flag⟩ := by rw [State.domainRec, h.domain]
    exact rec' ▸ State.queueRec_queued _ _
  kept := fun r n hr => State.queued_queueRec (r' := u.domainRec d) (h.kept r n hr) n _
  attends := fun ha => ((State.queueDomain_sameBut d).attending .lockout).trans (h.attends ha)
  attended := fun ha => ((State.queueDomain_sameBut d).attending .lockout).trans (h.attended ha)
  policy := (State.queueRec_policy _ _).trans h.policy

/-- LOCKOUT attention set. -/
theorem State.domainTo.attend {d : Domain} {x : DomainState} {q a : Prop} (h : s.domainTo u d x q a) :
    s.domainTo (u.attend .lockout) d x q True where
  domain := ((State.attend_sameBut _).domain d).trans h.domain
  others := fun e n => ((State.attend_sameBut _).domain e).trans (h.others e n)
  queued := fun hq => (State.attend_sameBut _).queued (h.queued hq)
  kept := fun r n hr => (State.attend_sameBut _).queued (h.kept r n hr)
  attends := fun _ => State.attend_attending _
  attended := fun _ => State.attend_attending _
  policy := h.policy

/-- What is said of the record and of the flag may be said of less. -/
theorem State.domainTo.weaken {d : Domain} {x : DomainState} {q a q' a' : Prop} (h : s.domainTo t d x q a) (hq : q' → q)
    (ha : a' → a) : s.domainTo t d x q' a' :=
  { h with queued := fun k => h.queued (hq k), attends := fun k => h.attends (ha k) }

/-- NORMAL first, then RECOVERY: both have changed, and neither change undoes the other. -/
theorem State.domainTo.both {x : Domain → DomainState} {q a : Domain → Prop}
    (h : s.domainTo u .normal (x .normal) (q .normal) (a .normal))
    (k : u.domainTo t .recovery (x .recovery) (q .recovery) (a .recovery)) (d : Domain) :
    t.domain d = x d ∧ (q d → t.queued (.domain d ⟨(x d).f, (x d).flag⟩)) ∧ (a d → t.attending .lockout = true) := by
  cases d with
  | normal => exact ⟨(k.others _ (by decide)).trans h.domain, fun hq => k.kept _ (by simp [Rec.id]) (h.queued hq),
      fun ha => k.attended (h.attends ha)⟩
  | recovery => exact ⟨k.domain, k.queued, k.attends⟩

/-- A lockout starts. -/
theorem State.startLockout_domainTo (d : Domain) :
    s.domainTo (s.startLockout d) d (s.domain d).startLockout True True :=
  ((State.modDomain_domainTo d _).queueDomain).attend

/-- The count is reset after a wipe. -/
theorem State.wipeDone_domainTo (d : Domain) : s.domainTo (s.wipeDone d) d (s.domain d).cleared True True :=
  ((State.modDomain_domainTo d _).queueDomain).attend

/-! ### The section that shows the domains (R61, R172) -/

/-- What a rewrite of entries shows rests on the domains and the section. -/
theorem State.sameBut.entriesRewritten {on : Domain → Bool} (k : u.sameBut ps t) (h : s.entriesRewritten u on)
    (w : ps.contains .domains = false := by decide) (w' : ps.contains .pageDomains = false := by decide) :
    s.entriesRewritten t on := by
  have page : t.page.domains = u.page.domains := State.sameBut_agree k .pageDomains w'
  unfold State.entriesRewritten at h ⊢
  simpa only [page, k.domain _ w] using h

/-- A rewrite of entries after steps that left the section. -/
theorem State.refreshEntries_shown (page : u.page.domains = s.page.domains) (on : Domain → Bool) :
    s.entriesRewritten (u.refreshEntries on).settle on := by
  refine State.settled.entriesRewritten (u := u.refreshEntries on) ?_
  have h := State.refreshEntries_rewritten (s := u) on
  unfold State.entriesRewritten at h ⊢
  rwa [page] at h

/-- A rewrite of the section after steps that left it. -/
theorem State.refresh_domains_shown (page : u.page.domains = s.page.domains) :
    s.rewritten (u.refresh .domains).settle .domains := by
  have body : (u.refresh .domains).settle.body .domains = (u.refresh .domains).body .domains := by
    have normal := State.settled.domain (s := u.refresh .domains) .normal
    have recovery := State.settled.domain (s := u.refresh .domains) .recovery
    simp only [State.domain] at normal recovery
    simp only [State.body, State.domainsBody, normal, recovery]
  have shown : (u.refresh .domains).settle.page.domains = (u.refresh .domains).page.domains :=
    State.sameBut_agree State.settled .pageDomains
  have h := State.refresh_rewritten (s := u) .domains
  rw [State.rewritten] at h ⊢
  rw [body]
  simpa only [Page.get, page] using shown.trans h

/-- A section rewritten, since what stood before. -/
theorem State.rewritten_of_page (page : u.page.domains = s.page.domains) (h : u.rewritten t .domains) :
    s.rewritten t .domains := by
  rw [State.rewritten] at h ⊢
  simpa only [Page.get, page] using h

/-- A domain changed, and its entry rewritten. -/
theorem State.domainTo.shown {d : Domain} {x : DomainState} {q a : Prop} (h : s.domainTo u d x q a)
    (page : u.page.domains = s.page.domains) :
    s.domainTo (u.refreshEntry d).settle d x q a ∧ s.entriesRewritten (u.refreshEntry d).settle (· = d) :=
  ⟨(h.then (State.refreshEntries_sameBut _)).then State.settled, State.refreshEntries_shown page _⟩

end Sys2Proof.Machine
end

section
namespace Sys2Proof.Machine
set_option Elab.async false
variable {s t u : State}

/-! ### The examination of start-up (R62, R154) -/

/-- A domain with its inputs sampled again (R50). -/
def State.sampledDomain (s : State) (d : Domain) : DomainState :=
  { s.domain d with inputs := sampleInputs (s.store.policy.domain d) }

/-- A domain has come to its wipe threshold (R58). -/
def DomainState.atThreshold (x : DomainState) : Prop := x.inputs.w ≠ 0 ∧ x.inputs.w ≤ x.f

/-- What the examination makes of a domain below its wipe threshold (R62). -/
def DomainState.examined (x : DomainState) : DomainState :=
  if x.flag ∧ x.inputs.a < x.f then x.startLockout else { x with flag := false }

/-- The inputs of a domain are sampled. -/
theorem State.sampleDomain_domainTo (d : Domain) : s.domainTo (s.sampleDomain d) d (s.sampledDomain d) False False :=
  State.modDomain_domainTo d _

/-- What is sampled of the other domain does not rest on this one. -/
theorem State.domainTo.sampledDomain {d e : Domain} {x : DomainState} {q a : Prop} (h : s.domainTo u d x q a) (n : e ≠ d) :
    u.sampledDomain e = s.sampledDomain e := by simp only [State.sampledDomain, h.others e n, h.policy]

/-- A domain changed twice. -/
theorem State.domainTo.again {d : Domain} {x y : DomainState} {q a q' a' : Prop} (h : s.domainTo u d x q a)
    (k : u.domainTo t d y q' a') : s.domainTo t d y q' a' :=
  { k with
    others := fun e n => (k.others e n).trans (h.others e n)
    kept := fun r n hr => k.kept r n (h.kept r n hr)
    attended := fun ha => k.attended (h.attended ha)
    policy := k.policy.trans h.policy }

/-- The examination has handed a domain's wipe to the engine and awaits its acceptance. -/
structure State.wipeBegun (s t : State) (d : Domain) : Prop where
  startUp : t.startUp = { s.startUp with examining := some d }
  domain : s.domainTo t d (s.sampledDomain d) False True
  wait : t.lockout.wait = .wipe d
  told : t.erase.inbox = s.erase.inbox ++ [.brute]
  inbox : t.lockout.inbox = s.lockout.inbox
  frame : s.sameBut [.startUp, .domains, .lockoutRest, .eraseInbox, .attn] t

/-- The branches of the examination of a domain, by what has been sampled. -/
theorem State.examine_of_threshold {d : Domain} (h : (s.sampledDomain d).atThreshold) :
    s.examine d = (((s.sampleDomain d).bruteForce d).attend .lockout, true) := by
  simp only [State.examine, (State.sampleDomain_domainTo d).domain]
  exact if_pos h

theorem State.examine_of_above {d : Domain} (h : ¬(s.sampledDomain d).atThreshold) (flag : (s.domain d).flag = true)
    (above : (s.sampledDomain d).inputs.a < (s.domain d).f) : s.examine d = ((s.sampleDomain d).startLockout d, false) := by
  simp only [State.examine, (State.sampleDomain_domainTo d).domain]
  exact (if_neg h).trans (if_pos (Bool.and_eq_true_iff.2 ⟨flag, decide_eq_true above⟩))

theorem State.examine_of_free {d : Domain} (h : ¬(s.sampledDomain d).atThreshold) (flag : (s.domain d).flag = true)
    (above : ¬(s.sampledDomain d).inputs.a < (s.domain d).f) :
    s.examine d = (((s.sampleDomain d).modDomain d fun y => { y with flag := false }).queueDomain d, false) := by
  simp only [State.examine, (State.sampleDomain_domainTo d).domain]
  exact (if_neg h).trans ((if_neg fun k => above (of_decide_eq_true (Bool.and_eq_true_iff.1 k).2)).trans (if_pos flag))

theorem State.examine_of_unflagged {d : Domain} (h : ¬(s.sampledDomain d).atThreshold) (flag : (s.domain d).flag = false) :
    s.examine d = (s.sampleDomain d, false) := by
  have off : ¬(s.sampledDomain d).flag = true := by simp [State.sampledDomain, flag]
  simp only [State.examine, (State.sampleDomain_domainTo d).domain]
  exact (if_neg h).trans ((if_neg fun k => off (Bool.and_eq_true_iff.1 k).1).trans (if_neg off))

/-- The examination of a domain at its wipe threshold. -/
theorem State.examineThen_of_threshold {d : Domain} (h : (s.sampledDomain d).atThreshold) (k : State → State) :
    s.wipeBegun (s.examineThen d k) d := by
  have sampled := State.sampleDomain_domainTo (s := s) d
  have frame := State.sampleDomain_sameBut (s := s) d
  have eq : s.examineThen d k =
      (((s.sampleDomain d).bruteForce d).attend .lockout).modStartUp fun x => { x with examining := some d } := by
    rw [State.examineThen, State.examine_of_threshold h]
    rfl
  rw [eq]
  exact {
    startUp := congrArg (fun x : StartUp => { x with examining := some d }) (State.sameBut_agree frame .startUp)
    domain := ((sampled.then (State.bruteForce_sameBut d)).attend).then (State.modStartUp_sameBut _)
    wait := rfl
    told := congrArg (· ++ [EngineEvent.brute]) (State.sameBut_agree frame .eraseInbox)
    inbox := (State.sameBut_agree frame .lockoutRest).1
    frame := State.sameBut_then frame (State.sameBut_then (rs := [.startUp, .lockoutRest, .eraseInbox, .attn])
      (State.sameBut_then (rs := [.lockoutRest, .eraseInbox, .attn]) (State.bruteForce_sameBut d) (State.attend_sameBut _))
      (State.modStartUp_sameBut _)) }

/-- The examination of a domain below its wipe threshold. -/
theorem State.examine_of_below {d : Domain} (h : ¬(s.sampledDomain d).atThreshold) :
    (s.examine d).2 = false ∧
      s.domainTo (s.examine d).1 d (s.sampledDomain d).examined ((s.domain d).flag = true)
        ((s.domain d).flag = true ∧ (s.sampledDomain d).inputs.a < (s.domain d).f) ∧
      s.sameBut [.domains, .commits, .storeRest, .attn] (s.examine d).1 := by
  have sampled := State.sampleDomain_domainTo (s := s) d
  have frame := State.sampleDomain_sameBut (s := s) d
  cases flag : (s.domain d).flag with
  | false =>
    have same : (s.sampledDomain d).examined = s.sampledDomain d := by
      rw [DomainState.examined, if_neg (by simp [State.sampledDomain, flag])]
      simp only [State.sampledDomain, ← flag]
    rw [State.examine_of_unflagged h flag, same]
    exact ⟨rfl, sampled.weaken (by simp) (by simp), State.sameBut_mono frame⟩
  | true =>
    by_cases above : (s.sampledDomain d).inputs.a < (s.domain d).f
    · have locks : (s.sampledDomain d).examined = (s.sampledDomain d).startLockout := if_pos ⟨flag, above⟩
      have started := State.startLockout_domainTo (s := s.sampleDomain d) d
      rw [sampled.domain] at started
      rw [State.examine_of_above h flag above, locks]
      exact ⟨rfl, (sampled.again started).weaken (fun _ => trivial) fun _ => trivial,
        State.sameBut_then frame (State.startLockout_sameBut d)⟩
    · have clears : (s.sampledDomain d).examined = { s.sampledDomain d with flag := false } := if_neg fun k => above k.2
      have cleared := (State.modDomain_domainTo (s := s.sampleDomain d) d fun y => { y with flag := false }).queueDomain
      rw [sampled.domain] at cleared
      rw [State.examine_of_free h flag above, clears]
      exact ⟨rfl, (sampled.again cleared).weaken (fun _ => trivial) (fun k => above k.2),
        State.sameBut_then frame (State.sameBut_then (rs := [.domains, .commits, .storeRest]) (State.modDomain_sameBut d _)
          (State.queueDomain_sameBut d))⟩

theorem State.examineThen_of_below {d : Domain} (h : ¬(s.sampledDomain d).atThreshold) (k : State → State) :
    s.examineThen d k = k (s.examine d).1 := by
  obtain ⟨done, -⟩ := State.examine_of_below h
  rw [State.examineThen]
  exact if_neg (by simp [done])

/-- The examination has ended, with nothing awaited. -/
theorem State.examined_facts :
    s.examined.startUp = { s.startUp with next := 5, examining := none } ∧ s.rewritten s.examined .domains ∧
      s.sameBut (([.startUp, .pageDomains] : List Part) ++ showing) s.examined := by
  have frame : s.sameBut [.startUp] (s.modStartUp fun x => { x with next := 5, examining := none }) :=
    State.modStartUp_sameBut _
  have shown : (s.modStartUp fun x => { x with next := 5, examining := none }).sameBut
      (([.pageDomains] : List Part) ++ showing) s.examined :=
    State.sameBut_then (State.refresh_sameBut .domains) State.settled
  exact ⟨State.sameBut_agree shown .startUp, State.refresh_domains_shown (State.sameBut_agree frame .pageDomains),
    State.sameBut_then frame shown⟩

/-- After NORMAL comes RECOVERY, at its wipe threshold or below it, and then the end. -/
theorem State.examineAfter_of_below (h : ¬(s.sampledDomain .recovery).atThreshold) :
    s.domainTo (s.examineAfter .normal) .recovery (s.sampledDomain .recovery).examined ((s.domain .recovery).flag = true)
        ((s.domain .recovery).flag = true ∧ (s.sampledDomain .recovery).inputs.a < (s.domain .recovery).f) ∧
      (s.examineAfter .normal).startUp = { s.startUp with next := 5, examining := none } ∧
      s.rewritten (s.examineAfter .normal) .domains ∧
      s.sameBut (([.startUp, .domains, .commits, .storeRest, .attn, .pageDomains] : List Part) ++ showing)
        (s.examineAfter .normal) := by
  obtain ⟨-, recovery, frame⟩ := State.examine_of_below h
  obtain ⟨startUp, shown, ends⟩ := State.examined_facts (s := (s.examine .recovery).1)
  have page : (s.examine .recovery).1.page.domains = s.page.domains := State.sameBut_agree frame .pageDomains
  have start : (s.examine .recovery).1.startUp = s.startUp := State.sameBut_agree frame .startUp
  rw [State.examineAfter, State.examineThen_of_below h]
  exact ⟨recovery.then ends, start ▸ startUp, State.rewritten_of_page page shown, State.sameBut_then frame ends⟩

/-- Step 4 taken, with the unit and the engine free. -/
theorem State.exec_lockoutExamination (due : s.stepDue 4 = true) (fresh : s.startUp.examining = none)
    (free : s.lockoutFree = true) (engine : s.engineFree = true) (taken : s.orphansTaken = true) :
    exec .lockoutExamination s = .next (s.examineThen .normal fun t => t.examineAfter .normal) := by
  change execLockoutExamination s = _
  rw [execLockoutExamination, if_pos (by simp [due, fresh, free, engine, taken])]
  rfl

end Sys2Proof.Machine

open Sys2Proof Sys2Proof.Machine

/-- Settles O15: NORMAL is at its wipe threshold or below it, and after it RECOVERY. -/
theorem lockoutExamination : Obligations.LockoutExamination := by
  refine ⟨fun s waits => ?_, fun s due fresh free engine taken => ?_⟩
  · change execLockoutExamination s = _
    rw [execLockoutExamination, if_neg (by simp [waits])]
    rfl
  refine ⟨_, State.exec_lockoutExamination due fresh free engine taken, ?_⟩
  by_cases normal : (s.sampledDomain .normal).atThreshold
  · have begun := State.examineThen_of_threshold normal fun t => t.examineAfter .normal
    exact ⟨fun _ => ⟨by rw [begun.startUp], begun.wait, begun.told, begun.domain.attends trivial⟩,
      fun _ below => absurd normal below, fun below => absurd normal below, State.sameBut_mono begun.frame⟩
  rw [State.examineThen_of_below normal]
  obtain ⟨-, first, frame⟩ := State.examine_of_below normal
  have inbox : (s.examine .normal).1.erase.inbox = s.erase.inbox := State.sameBut_agree frame .eraseInbox
  have page : (s.examine .normal).1.page.domains = s.page.domains := State.sameBut_agree frame .pageDomains
  have sampled : (s.examine .normal).1.sampledDomain .recovery = s.sampledDomain .recovery :=
    first.sampledDomain (by decide)
  have other : (s.examine .normal).1.domain .recovery = s.domain .recovery := first.others _ (by decide)
  refine ⟨fun wipes => absurd wipes normal, ?_⟩
  by_cases recovery : (s.sampledDomain .recovery).atThreshold
  · have begun : (s.examine .normal).1.wipeBegun _ .recovery :=
      State.examineThen_of_threshold (sampled ▸ recovery) State.examined
    have kept : ((s.examine .normal).1.examineAfter .normal).domain .normal = (s.sampledDomain .normal).examined :=
      (begun.domain.others _ (by decide)).trans first.domain
    refine ⟨fun d _ below flag locks => begun.domain.attends trivial, fun _ => ⟨kept, fun flag => ?_,
      fun _ => ⟨by rw [State.examineAfter, begun.startUp], begun.wait, begun.told.trans (by rw [inbox]),
        begun.domain.attends trivial⟩,
      fun below => absurd recovery below⟩, State.sameBut_then frame begun.frame⟩
    rw [State.domainRec, kept]
    exact begun.domain.kept _ (by simp [Rec.id]) (first.queued flag)
  · obtain ⟨second, startUp, shown, ends⟩ := State.examineAfter_of_below (s := (s.examine .normal).1) (sampled ▸ recovery)
    rw [sampled, other] at second
    have both := State.domainTo.both (x := fun d => (s.sampledDomain d).examined) (q := fun d => (s.domain d).flag = true)
      (a := fun d => (s.domain d).flag = true ∧ (s.sampledDomain d).inputs.a < (s.domain d).f) first second
    have queued (d : Domain) (flag : (s.domain d).flag = true) :
        ((s.examine .normal).1.examineAfter .normal).queued (((s.examine .normal).1.examineAfter .normal).domainRec d) := by
      obtain ⟨domain, queued, -⟩ := both d
      rw [State.domainRec, domain]
      exact queued flag
    refine ⟨fun d _ _ flag locks => (both d).2.2 ⟨flag, locks⟩, fun _ => ⟨(both .normal).1, queued .normal,
      fun wipes => absurd wipes recovery, fun _ => ⟨(both .recovery).1, by rw [startUp], by rw [startUp], queued .recovery,
      State.rewritten_of_page page shown⟩⟩, State.sameBut_then frame ends⟩
end

section
namespace Sys2Proof.Machine
set_option Elab.async false
variable {s t u : State} {ps : List Part}

/-! ### The turn of an event of the lockout unit (R49) -/

/-- The event at the head of a free unit's inbox is taken. -/
theorem State.takeLock_of_head {act : LockEvent → Option (State → State)} {e : LockEvent} {rest : List LockEvent}
    {g : State → State} (alive : s.alive = true) (free : s.lockoutFree = true) (head : s.lockout.inbox = e :: rest)
    (other : e ≠ .tick) (h : act e = some g) : s.takeLock act = (g s.popLockout).settle := by
  have ticks : s.takeTicks = s := State.takeTicks_of_head (by simp [head, other])
  simp [State.takeLock, State.takeNextLock, alive, ticks, free, head, h]

theorem State.popLockout_inbox {e : LockEvent} {rest : List LockEvent} (head : s.lockout.inbox = e :: rest) :
    s.popLockout.lockout.inbox = rest := by simp [State.popLockout, head]

theorem State.lockoutFree_wait (h : s.lockoutFree = true) : s.lockout.wait = .free := by
  simp [State.lockoutFree] at h; exact h.1

/-- The unit outside the frame. -/
theorem State.sameBut.lockout (h : s.sameBut ps t) (w : ps.contains .domains = false := by decide)
    (w' : ps.contains .lockoutRest = false := by decide) : t.lockout = s.lockout := by
  obtain ⟨normal, recovery⟩ := State.sameBut_agree h .domains w
  obtain ⟨inbox, wait, halted⟩ := State.sameBut_agree h .lockoutRest w'
  cases hs : s.lockout
  cases ht : t.lockout
  simp_all

/-- A unit that has taken the entry to HALTED takes a charge or a report without effect. -/
theorem State.unlessHalted_of_halted (h : s.lockout.halted = true) (g : State → State) : s.unlessHalted g = s := if_pos h

theorem State.unlessHalted_of_running (h : s.lockout.halted = false) (g : State → State) : s.unlessHalted g = g s :=
  if_neg (by simp [h])

theorem State.exec_charge {d : Domain} {rest : List LockEvent} (alive : s.alive = true) (free : s.lockoutFree = true)
    (head : s.lockout.inbox = .charge d :: rest) :
    exec .charge s = .next (s.popLockout.unlessHalted fun u => u.charge d).settle :=
  congrArg Host.Outcome.next (State.takeLock_of_head (g := fun t => t.unlessHalted fun u => u.charge d) alive free head
    (by simp) rfl)

theorem State.exec_matchReport {d : Domain} {rest : List LockEvent} (alive : s.alive = true) (free : s.lockoutFree = true)
    (head : s.lockout.inbox = .matched d :: rest) :
    exec .matchReport s = .next (s.popLockout.unlessHalted fun u => u.matchOutcome d).settle :=
  congrArg Host.Outcome.next (State.takeLock_of_head (g := fun t => t.unlessHalted fun u => u.matchOutcome d) alive free head
    (by simp) rfl)

theorem State.exec_noMatchReport {d : Domain} {rest : List LockEvent} (alive : s.alive = true) (free : s.lockoutFree = true)
    (head : s.lockout.inbox = .noMatch d :: rest) :
    exec .noMatchReport s = .next (s.popLockout.unlessHalted fun u => u.noMatchOutcome d).settle :=
  congrArg Host.Outcome.next (State.takeLock_of_head (g := fun t => t.unlessHalted fun u => u.noMatchOutcome d) alive free head
    (by simp) rfl)

theorem State.exec_acceptanceComplete {d : Domain} (alive : s.alive = true) (first : s.lockout.waitEnd = some .accepted)
    (wait : s.lockout.wait = .wipe d) : exec .acceptanceComplete s = .next (s.acceptanceDone d) := by
  change execAcceptanceComplete s = _
  simp [execAcceptanceComplete, State.takeAcceptance, wait, alive, first, go]

/-- What a charge or a report does once the unit has taken the entry to HALTED. -/
theorem State.popLockout_settle {e : LockEvent} {rest : List LockEvent} (head : s.lockout.inbox = e :: rest) :
    s.popLockout.settle.lockout = { s.lockout with inbox := rest } ∧
      s.sameBut (.lockoutRest :: showing) s.popLockout.settle := by
  refine ⟨State.settled.lockout.trans ?_, State.sameBut_then State.popLockout_sameBut State.settled⟩
  simp [State.popLockout, head]

/-! ### Charges and reports (R51 to R54, R58) -/

/-- A charge: the domain charged, and its record awaited by the unit, unless the store takes none. -/
theorem State.charge_facts (d : Domain) {x : DomainState}
    (hx : (s.domain d).charged (sampleInputs (s.store.policy.domain d)) = x) :
    (s.charge d).domain d = x ∧ (∀ e, e ≠ d → (s.charge d).domain e = s.domain e) ∧
      (s.charge d).lockout.wait = (if s.storeTakes then .charge d else s.lockout.wait) ∧
      (s.charge d).lockout.inbox = s.lockout.inbox ∧ (s.charge d).awaits (.domain d ⟨x.f, x.flag⟩) .lockout ∧
      s.sameBut [.domains, .lockoutRest, .commits, .storeRest] (s.charge d) := by
  unfold State.charge
  extract_lets t
  have charged : s.domainTo t d x False False := hx ▸ State.modDomain_domainTo d _
  have frame : s.sameBut [.domains] t := State.modDomain_sameBut d _
  have takes : t.storeTakes = s.storeTakes := frame.storeTakes
  obtain ⟨inbox, wait, -⟩ := State.sameBut_agree frame .lockoutRest
  cases on : s.storeTakes with
  | false =>
    rw [if_neg (by simp [takes, on])]
    exact ⟨charged.domain, charged.others, wait, inbox, fun k => absurd (takes.symm.trans k) (by simp [on]),
      State.sameBut_mono frame⟩
  | true =>
    rw [if_pos (takes.trans on)]
    have queued := State.queueRec_sameBut (s := t.lockoutWaits (.charge d)) (t.domainRec d) [.lockout]
    have after : t.sameBut [.lockoutRest, .commits, .storeRest] _ :=
      State.sameBut_then (State.lockoutWaits_sameBut (.charge d)) queued
    have named : t.domainRec d = .domain d ⟨x.f, x.flag⟩ := by rw [State.domainRec, charged.domain]
    obtain ⟨inbox', wait', -⟩ := State.sameBut_agree queued .lockoutRest
    exact ⟨(after.domain d).trans charged.domain, fun e n => (after.domain e).trans (charged.others e n), wait',
      inbox'.trans inbox, named ▸ State.queueRec_awaits _ (by simp), State.sameBut_then frame after⟩

end Sys2Proof.Machine
end

section
namespace Sys2Proof.Machine
set_option Elab.async false
variable {s t u : State}

/-! ### A match and a no-match (R53, R54) -/

/-- A match clears the domain and shows it. -/
theorem State.matchOutcome_facts {d : Domain} {rest : List LockEvent} {e : LockEvent} (head : s.lockout.inbox = e :: rest) :
    s.domainTo (s.popLockout.matchOutcome d).settle d (s.domain d).cleared True False ∧
      s.entriesRewritten (s.popLockout.matchOutcome d).settle (· = d) ∧
      (s.popLockout.matchOutcome d).settle.lockout.inbox = rest ∧
      s.sameBut (([.domains, .lockoutRest, .commits, .storeRest, .pageDomains] : List Part) ++ showing)
        (s.popLockout.matchOutcome d).settle := by
  have popped : s.sameBut [.lockoutRest] s.popLockout := State.popLockout_sameBut
  have recorded : s.popLockout.domainTo ((s.popLockout.modDomain d DomainState.cleared).queueDomain d) d (s.domain d).cleared
      True False := (State.modDomain_domainTo d _).queueDomain
  have frame : s.popLockout.sameBut [.domains, .commits, .storeRest]
      ((s.popLockout.modDomain d DomainState.cleared).queueDomain d) :=
    State.sameBut_then (State.modDomain_sameBut d _) (State.queueDomain_sameBut d)
  have ends : ((s.popLockout.modDomain d DomainState.cleared).queueDomain d).sameBut (.pageDomains :: showing)
      (s.popLockout.matchOutcome d).settle := State.sameBut_then (State.refreshEntries_sameBut _) State.settled
  obtain ⟨changed, shown⟩ := (State.domainTo.after popped recorded).shown (State.sameBut_agree frame .pageDomains)
  have whole : s.popLockout.sameBut (([.domains, .commits, .storeRest, .pageDomains] : List Part) ++ showing)
      (s.popLockout.matchOutcome d).settle := State.sameBut_then frame ends
  exact ⟨changed, shown, (State.sameBut_agree whole .lockoutRest).1.trans (State.popLockout_inbox head),
    State.sameBut_then popped whole⟩

/-- A no-match by what it finds. -/
theorem State.noMatchOutcome_of_threshold {d : Domain} (h : (s.domain d).atThreshold) : s.noMatchOutcome d = s.bruteForce d :=
  if_pos h

theorem State.noMatchOutcome_of_above {d : Domain} (h : ¬(s.domain d).atThreshold)
    (above : (s.domain d).inputs.a < (s.domain d).f ∧ (s.domain d).lockedOut = false) :
    s.noMatchOutcome d = (s.startLockout d).refreshEntry d :=
  (if_neg h).trans (if_pos ⟨above.1, by simp [above.2]⟩)

theorem State.noMatchOutcome_of_free {d : Domain} (h : ¬(s.domain d).atThreshold)
    (free : ¬((s.domain d).inputs.a < (s.domain d).f ∧ (s.domain d).lockedOut = false)) : s.noMatchOutcome d = s :=
  (if_neg h).trans (if_neg fun k => free ⟨k.1, by simpa using k.2⟩)

/-- A no-match at the wipe threshold. -/
theorem State.bruteForce_facts {d : Domain} {rest : List LockEvent} {e : LockEvent} (head : s.lockout.inbox = e :: rest) :
    (s.popLockout.bruteForce d).settle.lockout.inbox = rest ∧ (s.popLockout.bruteForce d).settle.lockout.wait = .wipe d ∧
      (s.popLockout.bruteForce d).settle.erase.inbox = s.erase.inbox ++ [.brute] ∧
      s.sameBut (([.lockoutRest, .eraseInbox] : List Part) ++ showing) (s.popLockout.bruteForce d).settle := by
  obtain ⟨inbox, wait, -⟩ := State.sameBut_agree (State.settled (s := s.popLockout.bruteForce d)) .lockoutRest
  exact ⟨inbox.trans (State.popLockout_inbox head), wait, State.sameBut_agree State.settled .eraseInbox,
    State.sameBut_then State.popLockout_sameBut (State.sameBut_then
      (rs := ([.lockoutRest, .eraseInbox] : List Part) ++ showing) (State.bruteForce_sameBut d) State.settled)⟩

/-- A no-match above the free attempts starts a lockout and shows it. -/
theorem State.lockoutStarted_facts {d : Domain} {rest : List LockEvent} {e : LockEvent} (head : s.lockout.inbox = e :: rest) :
    s.domainTo ((s.popLockout.startLockout d).refreshEntry d).settle d (s.domain d).startLockout True True ∧
      s.entriesRewritten ((s.popLockout.startLockout d).refreshEntry d).settle (· = d) ∧
      ((s.popLockout.startLockout d).refreshEntry d).settle.lockout.inbox = rest ∧
      s.sameBut (([.domains, .lockoutRest, .commits, .storeRest, .attn, .pageDomains] : List Part) ++ showing)
        ((s.popLockout.startLockout d).refreshEntry d).settle := by
  have popped : s.sameBut [.lockoutRest] s.popLockout := State.popLockout_sameBut
  have frame := State.startLockout_sameBut (s := s.popLockout) d
  obtain ⟨changed, shown⟩ := (State.domainTo.after popped (State.startLockout_domainTo d)).shown
    (State.sameBut_agree frame .pageDomains)
  have whole : s.popLockout.sameBut (([.domains, .commits, .storeRest, .attn, .pageDomains] : List Part) ++ showing)
      ((s.popLockout.startLockout d).refreshEntry d).settle :=
    State.sameBut_then frame (State.sameBut_then (rs := .pageDomains :: showing) (State.refreshEntries_sameBut _)
      State.settled)
  exact ⟨changed, shown, (State.sameBut_agree whole .lockoutRest).1.trans (State.popLockout_inbox head),
    State.sameBut_then popped whole⟩

/-! ### The end of a brute-force wipe (R58, R62) -/

/-- The report of the acceptance taken, the domain cleared and the unit free. -/
def State.wipeEnded (s : State) (d : Domain) : State :=
  ((s.modLockout fun l => { l with inbox := l.inbox.erase .accepted }).wipeDone d).lockoutRelease

theorem State.wipeEnded_facts (d : Domain) :
    s.domainTo (s.wipeEnded d) d (s.domain d).cleared True True ∧ (s.wipeEnded d).lockout.wait = .free ∧
      (s.wipeEnded d).lockout.inbox = s.lockout.inbox.erase .accepted ∧
      s.sameBut [.domains, .lockoutRest, .commits, .storeRest, .attn] (s.wipeEnded d) := by
  have taken : s.sameBut [.lockoutRest] (s.modLockout fun l => { l with inbox := l.inbox.erase .accepted }) := by
    intro p; cases p <;> first | exact .inl (by decide) | exact .inr (by repeat' constructor)
  have done := State.wipeDone_sameBut (s := s.modLockout fun l => { l with inbox := l.inbox.erase .accepted }) d
  exact ⟨(State.domainTo.after taken (State.wipeDone_domainTo d)).then State.lockoutRelease_sameBut, rfl,
    (State.sameBut_agree done .lockoutRest).1, State.sameBut_then taken (State.sameBut_then
      (rs := [.domains, .lockoutRest, .commits, .storeRest, .attn]) done State.lockoutRelease_sameBut)⟩

/-- Outside the examination of the domain the end of its wipe shows its entry. -/
theorem State.acceptanceDone_of_other {d : Domain} (h : s.startUp.examining ≠ some d) :
    s.acceptanceDone d = ((s.wipeEnded d).refreshEntry d).settle := by
  obtain ⟨-, -, -, frame⟩ := State.wipeEnded_facts (s := s) d
  have start : (s.wipeEnded d).startUp = s.startUp := State.sameBut_agree frame .startUp
  exact if_neg (start ▸ h)

/-- The examination that awaited the end of a wipe goes on. -/
theorem State.acceptanceDone_of_examining {d : Domain} (h : s.startUp.examining = some d) :
    s.acceptanceDone d = ((s.wipeEnded d).modStartUp fun x => { x with examining := none }).examineAfter d := by
  obtain ⟨-, -, -, frame⟩ := State.wipeEnded_facts (s := s) d
  have start : (s.wipeEnded d).startUp = s.startUp := State.sameBut_agree frame .startUp
  exact if_pos (start ▸ h)

/-- The end of a wipe outside the examination. -/
theorem State.acceptanceDone_shown {d : Domain} (h : s.startUp.examining ≠ some d) :
    s.domainTo (s.acceptanceDone d) d (s.domain d).cleared True True ∧ s.entriesRewritten (s.acceptanceDone d) (· = d) ∧
      (s.acceptanceDone d).lockout.wait = .free ∧
      (s.acceptanceDone d).lockout.inbox = s.lockout.inbox.erase .accepted ∧
      s.sameBut (([.domains, .lockoutRest, .commits, .storeRest, .attn, .pageDomains] : List Part) ++ showing)
        (s.acceptanceDone d) := by
  rw [State.acceptanceDone_of_other h]
  obtain ⟨cleared, free, taken, frame⟩ := State.wipeEnded_facts (s := s) d
  have ends : (s.wipeEnded d).sameBut (.pageDomains :: showing) ((s.wipeEnded d).refreshEntry d).settle :=
    State.sameBut_then (State.refreshEntries_sameBut _) State.settled
  obtain ⟨changed, shown⟩ := cleared.shown (State.sameBut_agree frame .pageDomains)
  obtain ⟨inbox, wait, -⟩ := State.sameBut_agree ends .lockoutRest
  exact ⟨changed, shown, wait.trans free, inbox.trans taken, State.sameBut_then frame ends⟩

/-- The examination of a domain whose wipe has ended, about to go on. -/
def State.goingOn (s : State) (d : Domain) : State := (s.wipeEnded d).modStartUp fun x => { x with examining := none }

theorem State.goingOn_facts (d : Domain) :
    s.domainTo (s.goingOn d) d (s.domain d).cleared True True ∧
      (s.goingOn d).startUp = { s.startUp with examining := none } ∧ (s.goingOn d).lockout.wait = .free ∧
      (s.goingOn d).lockout.inbox = s.lockout.inbox.erase .accepted ∧
      s.sameBut [.startUp, .domains, .lockoutRest, .commits, .storeRest, .attn] (s.goingOn d) := by
  obtain ⟨cleared, free, taken, frame⟩ := State.wipeEnded_facts (s := s) d
  have start : (s.wipeEnded d).startUp = s.startUp := State.sameBut_agree frame .startUp
  exact ⟨cleared.then (State.modStartUp_sameBut _), congrArg (fun x : StartUp => { x with examining := none }) start,
    free, taken, State.sameBut_then frame (State.modStartUp_sameBut _)⟩

/-- After RECOVERY's wipe the examination has ended. -/
theorem State.acceptanceDone_last (h : s.startUp.examining = some .recovery) :
    s.domainTo (s.acceptanceDone .recovery) .recovery (s.domain .recovery).cleared True True ∧
      (s.acceptanceDone .recovery).startUp = { s.startUp with next := 5, examining := none } ∧
      (s.acceptanceDone .recovery).lockout.wait = .free ∧
      (s.acceptanceDone .recovery).lockout.inbox = s.lockout.inbox.erase .accepted ∧
      s.rewritten (s.acceptanceDone .recovery) .domains ∧
      s.sameBut (([.startUp, .domains, .lockoutRest, .commits, .storeRest, .attn, .pageDomains] : List Part) ++ showing)
        (s.acceptanceDone .recovery) := by
  obtain ⟨cleared, start, free, taken, frame⟩ := State.goingOn_facts (s := s) .recovery
  obtain ⟨startUp, shown, ends⟩ := State.examined_facts (s := s.goingOn .recovery)
  obtain ⟨inbox, wait, -⟩ := State.sameBut_agree ends .lockoutRest
  rw [State.acceptanceDone_of_examining h]
  exact ⟨cleared.then ends, startUp.trans (by rw [start]), wait.trans free, inbox.trans taken,
    State.rewritten_of_page (State.sameBut_agree frame .pageDomains) shown, State.sameBut_then frame ends⟩

/-- After NORMAL's wipe RECOVERY comes to its own. -/
theorem State.acceptanceDone_of_threshold (h : s.startUp.examining = some .normal)
    (again : (s.sampledDomain .recovery).atThreshold) :
    (s.goingOn .normal).wipeBegun (s.acceptanceDone .normal) .recovery := by
  have sampled := (State.goingOn_facts (s := s) .normal).1.sampledDomain (e := .recovery) (by decide)
  rw [State.acceptanceDone_of_examining h]
  exact State.examineThen_of_threshold (sampled.symm ▸ again) State.examined

/-- After NORMAL's wipe RECOVERY is below its threshold, and the examination has ended. -/
theorem State.acceptanceDone_of_below (h : s.startUp.examining = some .normal)
    (below : ¬(s.sampledDomain .recovery).atThreshold) :
    (s.goingOn .normal).domainTo (s.acceptanceDone .normal) .recovery (s.sampledDomain .recovery).examined
        ((s.domain .recovery).flag = true) False ∧
      (s.acceptanceDone .normal).startUp = { s.startUp with next := 5, examining := none } ∧
      s.rewritten (s.acceptanceDone .normal) .domains ∧
      (s.goingOn .normal).sameBut (([.startUp, .domains, .commits, .storeRest, .attn, .pageDomains] : List Part) ++ showing)
        (s.acceptanceDone .normal) := by
  obtain ⟨cleared, start, -, -, frame⟩ := State.goingOn_facts (s := s) .normal
  have sampled := cleared.sampledDomain (e := .recovery) (by decide)
  obtain ⟨examined, startUp, shown, ends⟩ := State.examineAfter_of_below (s := s.goingOn .normal) (sampled.symm ▸ below)
  rw [sampled, cleared.others .recovery (by decide)] at examined
  rw [State.acceptanceDone_of_examining h]
  exact ⟨examined.weaken id False.elim, startUp.trans (by rw [start]),
    State.rewritten_of_page (State.sameBut_agree frame .pageDomains) shown, ends⟩

end Sys2Proof.Machine

open Sys2Proof Sys2Proof.Machine

/-- Settles O48: each event in its turn, a no-match by what it finds, and the end of a wipe by what awaited it. -/
theorem lockoutReports : Obligations.LockoutReports := by
  refine ⟨fun s d rest c e alive free halted head which => ?_, fun s d rest alive running => ⟨fun free head => ?_,
    fun free head => ?_, fun free head => ?_, fun first wait => ?_⟩⟩
  · have dead : s.popLockout.lockout.halted = true := halted
    have done := State.popLockout_settle head
    obtain ⟨rfl, rfl⟩ | ⟨rfl, rfl⟩ | ⟨rfl, rfl⟩ := which
    · exact ⟨_, State.exec_charge alive free head, by rw [State.unlessHalted_of_halted dead]; exact done⟩
    · exact ⟨_, State.exec_matchReport alive free head, by rw [State.unlessHalted_of_halted dead]; exact done⟩
    · exact ⟨_, State.exec_noMatchReport alive free head, by rw [State.unlessHalted_of_halted dead]; exact done⟩
  · have run := State.exec_charge alive free head
    rw [State.unlessHalted_of_running (s := s.popLockout) running] at run
    have popped : s.sameBut [.lockoutRest] s.popLockout := State.popLockout_sameBut
    obtain ⟨domain, others, waits, inbox, awaits, frame⟩ := State.charge_facts (s := s.popLockout) d rfl
    have settled := State.settled (s := s.popLockout.charge d)
    obtain ⟨inbox', wait', -⟩ := State.sameBut_agree settled .lockoutRest
    exact ⟨_, run, (settled.domain d).trans domain, fun e n => (settled.domain e).trans (others e n),
      (wait'.trans waits).trans (by rw [popped.storeTakes]; exact congrArg _ (State.lockoutFree_wait free)),
      (inbox'.trans inbox).trans (State.popLockout_inbox head), settled.awaits awaits,
      State.sameBut_then popped
        (State.sameBut_then (rs := [.domains, .lockoutRest, .commits, .storeRest] ++ showing) frame settled)⟩
  · have run := State.exec_matchReport alive free head
    rw [State.unlessHalted_of_running (s := s.popLockout) running] at run
    obtain ⟨cleared, shown, inbox, frame⟩ := State.matchOutcome_facts (d := d) head
    exact ⟨_, run, cleared.domain, cleared.others, inbox, cleared.queued trivial, shown, frame⟩
  · have run := State.exec_noMatchReport alive free head
    rw [State.unlessHalted_of_running (s := s.popLockout) running] at run
    by_cases wipes : (s.domain d).inputs.w ≠ 0 ∧ (s.domain d).inputs.w ≤ (s.domain d).f
    · rw [State.noMatchOutcome_of_threshold (s := s.popLockout) wipes] at run
      obtain ⟨inbox, waits, told, frame⟩ := State.bruteForce_facts (d := d) head
      refine ⟨_, run, fun e _ => frame.domain e, inbox, ?_⟩
      rw [if_pos wipes]
      exact ⟨frame.domain d, told, waits, frame⟩
    by_cases above : (s.domain d).inputs.a < (s.domain d).f ∧ (s.domain d).lockedOut = false
    · rw [State.noMatchOutcome_of_above (s := s.popLockout) wipes above] at run
      obtain ⟨started, shown, inbox, frame⟩ := State.lockoutStarted_facts (d := d) head
      refine ⟨_, run, started.others, inbox, ?_⟩
      rw [if_neg wipes, if_pos above]
      exact ⟨started.domain, started.queued trivial, started.attends trivial, shown, frame⟩
    · rw [State.noMatchOutcome_of_free (s := s.popLockout) wipes above] at run
      obtain ⟨unit, frame⟩ := State.popLockout_settle head
      refine ⟨_, run, fun e _ => frame.domain e, by rw [unit], ?_⟩
      rw [if_neg wipes, if_neg above]
      exact ⟨frame.domain d, frame⟩
  · refine ⟨_, State.exec_acceptanceComplete alive first wait, ?_⟩
    by_cases examining : s.startUp.examining = some d
    · cases d with
      | recovery =>
        obtain ⟨cleared, startUp, free, inbox, shown, frame⟩ := State.acceptanceDone_last examining
        exact ⟨fun none => by simp [none] at examining, fun none => by simp [none] at examining,
          fun _ => ⟨cleared.domain, cleared.queued trivial, cleared.attends trivial, inbox,
            fun again => absurd again.1 (by decide),
            fun _ => ⟨startUp, free, State.sameBut_agree frame .eraseInbox, shown, fun _ => cleared.others _ (by decide),
              fun normal => absurd normal (by decide)⟩⟩, State.sameBut_mono frame⟩
      | normal =>
        obtain ⟨cleared, start, free, inbox, frame⟩ := State.goingOn_facts (s := s) .normal
        have engine : (s.goingOn .normal).erase.inbox = s.erase.inbox := State.sameBut_agree frame .eraseInbox
        have page : (s.goingOn .normal).page.domains = s.page.domains := State.sameBut_agree frame .pageDomains
        have sampled := cleared.sampledDomain (e := .recovery) (by decide)
        refine ⟨fun none => by simp [none] at examining, fun none => by simp [none] at examining, ?_⟩
        by_cases again : (s.sampledDomain .recovery).atThreshold
        · have begun := State.acceptanceDone_of_threshold examining again
          exact ⟨fun _ => ⟨(begun.domain.others _ (by decide)).trans cleared.domain,
            begun.domain.kept _ (by simp [Rec.id]) (cleared.queued trivial), begun.domain.attends trivial,
            begun.inbox.trans inbox, fun _ => ⟨begun.startUp.trans (by rw [start]), begun.domain.domain.trans sampled,
              begun.wait, begun.told.trans (by rw [engine]), (State.sameBut_agree begun.frame .pageDomains).trans page⟩,
            fun below => absurd ⟨rfl, again⟩ below⟩, State.sameBut_then frame begun.frame⟩
        · obtain ⟨examined, startUp, shown, ends⟩ := State.acceptanceDone_of_below examining again
          obtain ⟨inbox', wait', -⟩ := State.sameBut_agree ends .lockoutRest
          refine ⟨fun _ => ⟨(examined.others _ (by decide)).trans cleared.domain,
            examined.kept _ (by simp [Rec.id]) (cleared.queued trivial), examined.attended (cleared.attends trivial),
            inbox'.trans inbox, fun wipes => absurd wipes.2 again, fun _ => ⟨startUp, wait'.trans free,
              (State.sameBut_agree ends .eraseInbox).trans engine, shown, fun no => absurd no (by decide),
              fun _ => ⟨examined.domain, fun flag => ?_⟩⟩⟩, State.sameBut_then frame ends⟩
          rw [State.domainRec, examined.domain]
          exact examined.queued flag
    · obtain ⟨cleared, shown, free, inbox, frame⟩ := State.acceptanceDone_shown examining
      exact ⟨fun _ => cleared.domain, fun _ => ⟨cleared.others, free, inbox, cleared.queued trivial, cleared.attends trivial,
        shown, frame⟩,
        fun h => absurd h examining, State.sameBut_mono frame⟩
end

section
namespace Sys2Proof.Machine
set_option Elab.async false
variable {s t u : State} {ps : List Part}

/-! ### One tick of a domain (R57) -/

/-- A lockout at its last second. -/
def DomainState.ends (x : DomainState) : Bool := x.lockedOut && x.left ≤ 1

/-- What `n` ticks before the last one leave of a domain. -/
def DomainState.counted (x : DomainState) (n : Nat) : DomainState :=
  if x.lockedOut then { x with left := x.left - n } else x

/-- What a tick makes of a domain. -/
def DomainState.ticked (x : DomainState) : DomainState := if x.ends then x.endLockout else x.counted 1

theorem DomainState.ticked_of_ends {x : DomainState} (h : x.ends = true) : x.ticked = x.endLockout := if_pos h

theorem DomainState.ticked_of_counting {x : DomainState} (h : x.ends = false) : x.ticked = x.counted 1 :=
  if_neg (by simp [h])

theorem DomainState.counted_of_ready {x : DomainState} (h : x.lockedOut = false) (n : Nat) : x.counted n = x :=
  if_neg (by simp [h])

theorem DomainState.counted_zero (x : DomainState) : x.counted 0 = x := by
  rw [DomainState.counted]
  exact ite_self x

theorem DomainState.counted_counted (x : DomainState) (m n : Nat) : (x.counted m).counted n = x.counted (m + n) := by
  cases locked : x.lockedOut <;> simp [DomainState.counted, locked, Nat.sub_sub]

theorem DomainState.ends_of_ready {x : DomainState} (h : x.lockedOut = false) : x.ends = false := by
  simp [DomainState.ends, h]

/-- A lockout with more than a second left does not end. -/
theorem DomainState.ends_of_more {x : DomainState} (h : x.lockedOut = true → 1 < x.left) : x.ends = false := by
  cases locked : x.lockedOut with
  | false => exact DomainState.ends_of_ready locked
  | true => simp [DomainState.ends, h locked]

/-- A lockout that ends: READY, its record queued and LOCKOUT attention set. -/
theorem State.tickDomain_ends {d : Domain} (h : (s.domain d).ends = true) :
    s.domainTo (s.tickDomain d) d (s.domain d).endLockout True True := by
  obtain ⟨locked, last⟩ := Bool.and_eq_true_iff.1 h
  have eq : s.tickDomain d = ((s.modDomain d DomainState.endLockout).queueDomain d).attend .lockout :=
    (if_pos locked).trans (if_pos (of_decide_eq_true last))
  exact eq ▸ ((State.modDomain_domainTo d _).queueDomain).attend

/-- A lockout that goes on loses a second, and a READY domain nothing. -/
theorem State.tickDomain_counts {d : Domain} (h : (s.domain d).ends = false) :
    s.domainTo (s.tickDomain d) d ((s.domain d).counted 1) False False ∧ s.sameBut [.domains] (s.tickDomain d) := by
  have counted (g : DomainState → DomainState) (hg : g (s.domain d) = (s.domain d).counted 1) :
      s.domainTo (s.modDomain d g) d ((s.domain d).counted 1) False False ∧ s.sameBut [.domains] (s.modDomain d g) :=
    ⟨hg ▸ State.modDomain_domainTo d g, State.modDomain_sameBut d g⟩
  cases locked : (s.domain d).lockedOut with
  | true =>
    have more : ¬(s.domain d).left ≤ 1 := by simpa [DomainState.ends, locked] using h
    have eq : s.tickDomain d = s.modDomain d fun x => { x with left := x.left - 1 } :=
      (if_pos locked).trans (if_neg more)
    exact eq ▸ counted _ (if_pos locked).symm
  | false =>
    have eq : s.tickDomain d = s := if_neg (by simp [locked])
    rw [eq, DomainState.counted_of_ready locked]
    exact ⟨⟨rfl, fun _ _ => rfl, False.elim, fun _ _ => id, False.elim, id, rfl⟩, State.sameBut_refl⟩

theorem State.tickDomain_domainTo (d : Domain) :
    s.domainTo (s.tickDomain d) d (s.domain d).ticked ((s.domain d).ends = true) ((s.domain d).ends = true) := by
  cases h : (s.domain d).ends with
  | true => exact DomainState.ticked_of_ends h ▸ (State.tickDomain_ends h).weaken (fun _ => trivial) fun _ => trivial
  | false => exact DomainState.ticked_of_counting h ▸ (State.tickDomain_counts h).1.weaken (by simp) (by simp)

/-! ### One tick of the unit (R57, R62) -/

/-- NORMAL ticks, then RECOVERY. -/
def State.bothTicked (s : State) : State := (s.tickDomain .normal).tickDomain .recovery

theorem State.bothTicked_facts (d : Domain) :
    s.bothTicked.domain d = (s.domain d).ticked ∧
      ((s.domain d).ends = true → s.bothTicked.queued (.domain d ⟨(s.domain d).f, false⟩)) ∧
      ((s.domain d).ends = true → s.bothTicked.attending .lockout = true) := by
  have first := State.tickDomain_domainTo (s := s) .normal
  have second := State.tickDomain_domainTo (s := s.tickDomain .normal) .recovery
  rw [first.others .recovery (by decide)] at second
  obtain ⟨domain, queued, attends⟩ := State.domainTo.both (x := fun d => (s.domain d).ticked)
    (q := fun d => (s.domain d).ends = true) (a := fun d => (s.domain d).ends = true) first second d
  refine ⟨domain, fun h => ?_, attends⟩
  have record := queued h
  rwa [DomainState.ticked_of_ends h] at record

theorem State.bothTicked_sameBut : s.sameBut [.domains, .commits, .storeRest, .attn] s.bothTicked :=
  State.sameBut_trans (State.tickDomain_sameBut _) (State.tickDomain_sameBut _)

/-- A tick at which no lockout ends changes the domains alone. -/
theorem State.bothTicked_counts (h : ∀ d, (s.domain d).ends = false) : s.sameBut [.domains] s.bothTicked := by
  obtain ⟨first, frame⟩ := State.tickDomain_counts (h .normal)
  have other : ((s.tickDomain .normal).domain .recovery).ends = false := first.others .recovery (by decide) ▸ h .recovery
  exact State.sameBut_trans frame (State.tickDomain_counts other).2

/-- A tick at a unit with a domain LOCKED_OUT. -/
theorem State.lockoutTick_of_locked (running : s.lockout.halted = false) (locked : ∃ d, (s.domain d).lockedOut = true) :
    s.lockoutTick =
      if s.bothTicked.domainsShown then s.bothTicked.refreshEntries fun d => (s.domain d).lockedOut else s.bothTicked := by
  refine if_neg fun stays => ?_
  obtain ⟨d, hd⟩ := locked
  cases d <;> simp [running, hd] at stays

/-- Before the examination of start-up is done the section is not written. -/
theorem State.domainsShown_iff : s.domainsShown = false ↔ s.device = .starting ∧ s.startUp.next < 5 := by
  simp [State.domainsShown]

/-- From the ticked domains to the end of the tick. -/
theorem State.lockoutTick_shows (running : s.lockout.halted = false) (locked : ∃ d, (s.domain d).lockedOut = true) :
    s.bothTicked.sameBut [.pageDomains] s.lockoutTick := by
  rw [State.lockoutTick_of_locked running locked]
  split_ifs
  · exact State.refreshEntries_sameBut _
  · exact State.sameBut_refl

/-- What a tick makes of the domains. -/
theorem State.lockoutTick_facts (running : s.lockout.halted = false) (d : Domain) :
    s.lockoutTick.domain d = (s.domain d).ticked ∧
      ((s.domain d).ends = true →
        s.lockoutTick.attending .lockout = true ∧ s.lockoutTick.queued (.domain d ⟨(s.domain d).f, false⟩)) := by
  by_cases locked : ∃ d, (s.domain d).lockedOut = true
  · have shows := State.lockoutTick_shows running locked
    obtain ⟨domain, queued, attends⟩ := State.bothTicked_facts (s := s) d
    exact ⟨(shows.domain d).trans domain, fun h => ⟨(shows.attending .lockout).trans (attends h), shows.queued (queued h)⟩⟩
  · have ready (d : Domain) : (s.domain d).lockedOut = false := by simpa using fun h => locked ⟨d, h⟩
    have goesOn := DomainState.ends_of_ready (ready d)
    rw [State.lockoutTick_ready ready, DomainState.ticked_of_counting goesOn, DomainState.counted_of_ready (ready d)]
    exact ⟨rfl, by simp [goesOn]⟩

/-- A tick at which no lockout ends. -/
theorem State.lockoutTick_counts (h : ∀ d, (s.domain d).ends = false) : s.sameBut [.domains, .pageDomains] s.lockoutTick := by
  unfold State.lockoutTick
  extract_lets locked
  split_ifs
  · exact State.sameBut_refl
  · exact State.sameBut_then (State.bothTicked_counts h) (State.refreshEntries_sameBut _)
  · exact State.sameBut_mono (State.bothTicked_counts h)

/-- What a tick shows. -/
theorem State.lockoutTick_entries (running : s.lockout.halted = false) (locked : ∃ d, (s.domain d).lockedOut = true) :
    if s.device = .starting ∧ s.startUp.next < 5 then s.lockoutTick.settle.page.domains = s.page.domains
    else s.entriesRewritten s.lockoutTick.settle fun d => (s.domain d).lockedOut := by
  have ticked := State.bothTicked_sameBut (s := s)
  have page : s.bothTicked.page.domains = s.page.domains := State.sameBut_agree ticked .pageDomains
  have device : s.bothTicked.domainsShown = s.domainsShown := by
    have mode : s.bothTicked.device = s.device := State.sameBut_agree ticked .device
    have startUp : s.bothTicked.startUp = s.startUp := State.sameBut_agree ticked .startUp
    simp only [State.domainsShown, mode, startUp]
  rw [State.lockoutTick_of_locked running locked, device]
  cases shown : s.domainsShown with
  | true =>
    rw [if_neg fun h => by simp [State.domainsShown_iff.2 h] at shown, if_pos rfl]
    exact State.refreshEntries_shown page _
  | false =>
    rw [if_pos (State.domainsShown_iff.1 shown), if_neg (by simp)]
    exact (State.sameBut_agree State.settled .pageDomains).trans page

/-! ### The turn of a tick (R49) -/

theorem State.lockoutReady_iff : s.lockoutReady = true ↔ s.lockoutFree = true ∧ s.lockout.inbox = [] := by
  simp [State.lockoutReady]

/-- The unit is as free as its wait and the waits for room say. -/
theorem State.lockoutFree_of_wait (h : s.sameBut ps t) (wait : t.lockout.wait = s.lockout.wait)
    (w : ps.contains .commits = false := by decide) : t.lockoutFree = s.lockoutFree := by
  obtain ⟨-, room, -⟩ := State.sameBut_agree h .commits w
  simp only [State.lockoutFree, State.waitsForRoom, wait, room]

/-- An event told to a unit with none waiting, and taken at once. -/
theorem State.tellLockout_popLockout (empty : s.lockout.inbox = []) (e : LockEvent) : (s.tellLockout e).popLockout = s := by
  have eq : (s.tellLockout e).popLockout = { s with lockout := { s.lockout with inbox := s.lockout.inbox } } := by
    simp [State.tellLockout, State.popLockout, State.modLockout, empty]
  exact eq

/-- A tick at the head of a free unit's inbox is taken. -/
theorem State.lockoutTicks_succ {rest : List LockEvent} (free : s.lockoutFree = true) (head : s.lockout.inbox = .tick :: rest)
    (n : Nat) : State.lockoutTicks (n + 1) s = State.lockoutTicks n s.popLockout.lockoutTick.settle := by
  rw [State.lockoutTicks, if_pos (by simp [free, head])]

/-- A tick that comes to a free unit is taken after those that waited. -/
theorem State.exec_lockoutTick_free (alive : s.alive = true) (free : s.lockoutFree = true) :
    exec .lockoutTick s = .next (s.tellLockout .tick).takeTicks := by
  change execLockoutTick s = _
  rw [execLockoutTick, if_pos alive, if_pos free]
  rfl

theorem State.exec_lockoutTick_ready (alive : s.alive = true) (ready : s.lockoutReady = true) :
    exec .lockoutTick s = .next s.lockoutTick.settle := by
  obtain ⟨free, empty⟩ := State.lockoutReady_iff.1 ready
  have told : (s.tellLockout .tick).lockout.inbox = [.tick] := by simp [State.tellLockout, empty]
  have free' : (s.tellLockout .tick).lockoutFree = true :=
    (State.lockoutFree_of_wait (State.tellLockout_sameBut _) rfl).trans free
  have taken : (s.tellLockout .tick).takeTicks = s.lockoutTick.settle := by
    rw [State.takeTicks, told]
    change State.lockoutTicks (0 + 1) _ = _
    rw [State.lockoutTicks_succ free' told, State.tellLockout_popLockout empty]
    rfl
  rw [State.exec_lockoutTick_free alive free, taken]

/-- A tick that finds the unit held, or an older event waiting, stands behind it. -/
theorem State.exec_lockoutTick_waits (alive : s.alive = true)
    (h : s.lockoutFree = false ∨ ∃ e rest, s.lockout.inbox = e :: rest ∧ e ≠ .tick) :
    exec .lockoutTick s = .next (s.tellLockout .tick) := by
  change execLockoutTick s = _
  rw [execLockoutTick, if_pos alive]
  obtain held | ⟨e, rest, head, other⟩ := h
  · rw [if_neg (by simp [held])]; rfl
  · have taken : (s.tellLockout .tick).takeTicks = s.tellLockout .tick :=
      State.takeTicks_of_head (by simp [State.tellLockout, head, other])
    rw [taken, ite_self]; rfl

/-- Ticks that waited, fewer than the seconds left, are all counted. -/
theorem State.lockoutTicks_counts (n : Nat) {s : State} (free : s.lockoutFree = true) (running : s.lockout.halted = false)
    (ticks : s.lockout.inbox = List.replicate n .tick) (more : ∀ d, (s.domain d).lockedOut = true → n < (s.domain d).left) :
    (State.lockoutTicks n s).lockout.inbox = [] ∧ (∀ d, (State.lockoutTicks n s).domain d = (s.domain d).counted n) ∧
      s.sameBut (([.domains, .lockoutRest, .pageDomains] : List Part) ++ showing) (State.lockoutTicks n s) := by
  induction n generalizing s with
  | zero => exact ⟨ticks, fun d => (DomainState.counted_zero _).symm, State.sameBut_refl⟩
  | succ n ih =>
    have head : s.lockout.inbox = .tick :: List.replicate n .tick := ticks
    have goesOn (d : Domain) : (s.popLockout.domain d).ends = false :=
      DomainState.ends_of_more fun locked => Nat.lt_of_le_of_lt (Nat.le_add_left 1 n) (more d locked)
    let t := s.popLockout.lockoutTick.settle
    have after : s.popLockout.sameBut (([.domains, .pageDomains] : List Part) ++ showing) t :=
      State.sameBut_then (State.lockoutTick_counts goesOn) State.settled
    have frame : s.sameBut (([.domains, .lockoutRest, .pageDomains] : List Part) ++ showing) t :=
      State.sameBut_then State.popLockout_sameBut after
    obtain ⟨inbox, wait, halted⟩ := State.sameBut_agree after .lockoutRest
    have domain (d : Domain) : t.domain d = (s.domain d).counted 1 :=
      (State.settled.domain d).trans
        ((State.lockoutTick_facts (s := s.popLockout) running d).1.trans (DomainState.ticked_of_counting (goesOn d)))
    have more' (d : Domain) (locked : (t.domain d).lockedOut = true) : n < (t.domain d).left := by
      rw [domain d] at locked ⊢
      cases was : (s.domain d).lockedOut with
      | false => simp [DomainState.counted, was] at locked
      | true =>
        have := more d was
        simp only [DomainState.counted, was, if_true]
        omega
    obtain ⟨empty, counted, rest⟩ := ih ((State.lockoutFree_of_wait frame wait).trans free) (halted.trans running)
      (inbox.trans (State.popLockout_inbox head)) more'
    rw [State.lockoutTicks_succ free head]
    refine ⟨empty, fun d => ?_, State.sameBut_trans frame rest⟩
    rw [counted d, domain d, DomainState.counted_counted, Nat.add_comm]

/-- Ticks that waited are taken with the one that comes, and all are counted. -/
theorem State.exec_lockoutTick_counts {n : Nat} (alive : s.alive = true) (free : s.lockoutFree = true)
    (running : s.lockout.halted = false) (ticks : s.lockout.inbox = List.replicate n .tick)
    (more : ∀ d, (s.domain d).lockedOut = true → n + 1 < (s.domain d).left) :
    ∃ t, exec .lockoutTick s = .next t ∧ t.lockout.inbox = [] ∧ (∀ d, t.domain d = (s.domain d).counted (n + 1)) ∧
      s.sameBut (([.domains, .lockoutRest, .pageDomains] : List Part) ++ showing) t := by
  have told : s.sameBut [.lockoutRest] (s.tellLockout .tick) := State.tellLockout_sameBut _
  have inbox : (s.tellLockout .tick).lockout.inbox = List.replicate (n + 1) .tick := by
    simp [State.tellLockout, ticks, List.replicate_succ']
  obtain ⟨empty, counted, frame⟩ := State.lockoutTicks_counts (n + 1) (s := s.tellLockout .tick)
    ((State.lockoutFree_of_wait told rfl).trans free) running inbox more
  have run := State.exec_lockoutTick_free alive free
  rw [State.takeTicks, inbox, List.length_replicate] at run
  exact ⟨_, run, empty, counted, State.sameBut_then told frame⟩

/-! ### LOCKOUT_END and FACTORY_ORDER (R57, R64) -/

theorem State.exec_lockoutEnd {d : Domain} (alive : s.alive = true) (ready : s.lockoutReady = true)
    (running : s.lockout.halted = false) (ends : (s.domain d).ends = true) :
    exec (.lockoutEnd d) s = .next ((s.tickDomain d).refreshEntry d).settle := by
  obtain ⟨locked, last⟩ := Bool.and_eq_true_iff.1 ends
  change execLockoutEnd d s = _
  rw [execLockoutEnd, if_pos (by rw [alive, ready, running, locked, last]; rfl)]
  rfl

theorem State.exec_factoryOrder {rest : List LockEvent} (alive : s.alive = true) (free : s.lockoutFree = true)
    (head : s.lockout.inbox = .factory :: rest) : exec .factoryOrder s = .next s.popLockout.factoryClear.settle :=
  congrArg Host.Outcome.next (State.takeLock_of_head (g := State.factoryClear) alive free head (by simp) rfl)

/-- Both domains cleared and their records queued, NORMAL's first. -/
def State.bothCleared (s : State) : State :=
  let t := (s.modDomain .normal DomainState.cleared).modDomain .recovery DomainState.cleared
  (t.queueDomain .normal).queueDomain .recovery

theorem State.bothCleared_facts (d : Domain) :
    s.bothCleared.domain d = (s.domain d).cleared ∧ s.bothCleared.queued (.domain d ⟨0, false⟩) := by
  let t := (s.modDomain .normal DomainState.cleared).modDomain .recovery DomainState.cleared
  have first := State.modDomain_domainTo (s := s) .normal DomainState.cleared
  have second := State.modDomain_domainTo (s := s.modDomain .normal DomainState.cleared) .recovery DomainState.cleared
  rw [first.others .recovery (by decide)] at second
  have cleared (e : Domain) : t.domain e = (s.domain e).cleared :=
    (State.domainTo.both (x := fun d => (s.domain d).cleared) (q := fun _ => False) (a := fun _ => False) first second e).1
  have named (e : Domain) : t.domainRec e = .domain e ⟨0, false⟩ := by rw [State.domainRec, cleared e]; rfl
  have one : (t.queueDomain .normal).queued (.domain .normal ⟨0, false⟩) := named .normal ▸ State.queueRec_queued _ _
  have named' : (t.queueDomain .normal).domainRec .recovery = .domain .recovery ⟨0, false⟩ := by
    rw [← named .recovery, State.domainRec, State.domainRec, (State.queueDomain_sameBut (s := t) .normal).domain .recovery]
  refine ⟨((State.queueDomain_sameBut _).domain d).trans (((State.queueDomain_sameBut _).domain d).trans (cleared d)), ?_⟩
  cases d with
  | normal => exact State.queued_queueRec one (by rw [named']; simp [Rec.id]) _
  | recovery => exact named' ▸ State.queueRec_queued _ _

theorem State.bothCleared_sameBut : s.sameBut [.domains, .commits, .storeRest] s.bothCleared :=
  State.sameBut_then (State.sameBut_trans (State.modDomain_sameBut .normal _) (State.modDomain_sameBut .recovery _))
    (State.sameBut_trans (State.queueDomain_sameBut .normal) (State.queueDomain_sameBut .recovery))

/-- The factory order before its page: LOCKOUT attention when a domain was locked out. -/
def State.factoryLost (s : State) : State :=
  if (s.domain .normal).lockedOut || (s.domain .recovery).lockedOut then s.bothCleared.attend .lockout else s.bothCleared

theorem State.factoryLost_facts :
    s.bothCleared.sameBut [.attn] s.factoryLost ∧
      if (s.domain .normal).lockedOut || (s.domain .recovery).lockedOut then s.factoryLost.attending .lockout = true
      else s.factoryLost.exch.attn = s.exch.attn := by
  unfold State.factoryLost
  split_ifs
  · exact ⟨State.attend_sameBut _, State.attend_attending _⟩
  · exact ⟨State.sameBut_refl, State.sameBut_agree State.bothCleared_sameBut .attn⟩

end Sys2Proof.Machine

open Sys2Proof Sys2Proof.Machine

/-- Settles O49: a tick in its turn, ticks that wait, the last tick of a domain, and the factory order. -/
theorem lockoutTimer : Obligations.LockoutTimer := by
  refine fun s alive => ⟨fun ready running => ?_, fun ready halted => ?_, State.exec_lockoutTick_waits alive,
    fun n free running ticks more => State.exec_lockoutTick_counts alive free running ticks more,
    fun d ready running ends => ?_, fun rest free head => ?_⟩
  · have settled : s.lockoutTick.sameBut showing s.lockoutTick.settle := State.settled
    have facts := State.lockoutTick_facts running
    refine ⟨_, State.exec_lockoutTick_ready alive ready, fun d => (settled.domain d).trans (facts d).1,
      fun d ends => ?_, fun counting => ?_, State.lockoutTick_entries running, fun none => ?_,
      State.sameBut_then State.lockoutTick_sameBut settled⟩
    · obtain ⟨attends, queued⟩ := (facts d).2 ends
      exact ⟨(settled.attending .lockout).trans attends, settled.queued queued⟩
    · exact State.sameBut_agree (State.sameBut_then (rs := ([.domains, .pageDomains] : List Part) ++ showing)
        (State.lockoutTick_counts counting) settled) .attn
    · exact (State.lockoutTick_ready none).symm ▸ State.settled
  · have stays : s.lockoutTick = s := if_pos (by simp [halted])
    exact ⟨_, State.exec_lockoutTick_ready alive ready, stays.symm ▸ State.settled⟩
  · obtain ⟨ended, shown⟩ := (State.tickDomain_ends ends).shown (State.sameBut_agree (State.tickDomain_sameBut d) .pageDomains)
    exact ⟨_, State.exec_lockoutEnd alive ready running ends, ended.domain, ended.others, ended.attends trivial,
      ended.queued trivial, shown, State.sameBut_then (rs := lockoutTicking ++ showing) (State.tickDomain_sameBut d)
        (State.sameBut_then (rs := .pageDomains :: showing) (State.refreshEntries_sameBut _) State.settled)⟩
  · have popped : s.sameBut [.lockoutRest] s.popLockout := State.popLockout_sameBut
    obtain ⟨after, attends⟩ : s.popLockout.bothCleared.sameBut [.attn] s.popLockout.factoryLost ∧
        if (s.domain .normal).lockedOut || (s.domain .recovery).lockedOut then
          s.popLockout.factoryLost.attending .lockout = true
        else s.popLockout.factoryLost.exch.attn = s.exch.attn := State.factoryLost_facts
    have lost : s.popLockout.sameBut [.domains, .commits, .storeRest, .attn] s.popLockout.factoryLost :=
      State.sameBut_then State.bothCleared_sameBut after
    have ends : s.popLockout.factoryLost.sameBut (.pageDomains :: showing) s.popLockout.factoryClear.settle :=
      State.sameBut_then (State.refresh_sameBut .domains) State.settled
    have whole := State.sameBut_then (rs := lockoutTicking ++ showing) lost ends
    refine ⟨_, State.exec_factoryOrder alive free head, ?_, fun d => ?_, ?_,
      State.refresh_domains_shown (State.sameBut_agree lost .pageDomains), State.sameBut_then popped whole⟩
    · exact (State.sameBut_agree whole .lockoutRest).1.trans (State.popLockout_inbox head)
    · obtain ⟨cleared, queued⟩ := State.bothCleared_facts (s := s.popLockout) d
      exact ⟨(ends.domain d).trans ((after.domain d).trans cleared), ends.queued (after.queued queued)⟩
    · split_ifs at attends ⊢ with locked
      · exact (ends.attending .lockout).trans attends
      · exact (State.sameBut_agree ends .attn).trans attends
end

section
namespace Sys2Proof.Machine
set_option Elab.async false
variable {s t u : State} {ps : List Part}

/-! ### What boundaries leave of the link -/

/-- A link but for what boundaries decide on: its state, who holds it, who asks, and the losses of the engine (R99, R102, R103). -/
def Link.undecided (l : Link) : Link :=
  { l with state := .down, granted := none, sectorAsks := false, engineAsks := false, losses := 0 }

/-- The link is as it was but for what boundaries decide on, and one that serves nobody has decided nothing. -/
structure State.linkDecided (s t : State) : Prop where
  kept : t.link.undecided = s.link.undecided
  serves : t.linkServes = s.linkServes
  unserved : s.linkServes = false → t.link.state = s.link.state ∧ t.link.granted = s.link.granted

theorem State.linkDecided.trans (h : s.linkDecided t) (k : t.linkDecided u) : s.linkDecided u where
  kept := k.kept.trans h.kept
  serves := k.serves.trans h.serves
  unserved no :=
    have ⟨state, granted⟩ := h.unserved no
    have ⟨state', granted'⟩ := k.unserved (h.serves.trans no)
    ⟨state'.trans state, granted'.trans granted⟩

/-- A link that serves rests on the warning it stands under and on the device's state. -/
theorem State.linkServes_congr (link : t.link.warned = s.link.warned) (device : t.device = s.device) :
    t.linkServes = s.linkServes := by
  rw [State.linkServes, State.linkServes, link, device]

/-- A step that leaves the link decides nothing. -/
theorem State.sameBut.linkDecided (h : s.sameBut ps t) (w : ps.contains .link = false := by decide)
    (w' : ps.contains .device = false := by decide) : s.linkDecided t := by
  have link : t.link = s.link := State.sameBut_agree h .link w
  exact ⟨by rw [link], State.linkServes_congr (by rw [link]) (State.sameBut_agree h .device w'), fun _ => by rw [link]; simp⟩

theorem State.boundary_linkDecided : s.linkDecided s.boundary := by
  obtain ⟨st, g, sec, eng, n, link⟩ := State.boundary_link (s := s)
  refine ⟨by rw [link]; rfl, State.linkServes_congr (by rw [link]) (State.sameBut_agree State.boundary_sameBut .device),
    fun no => ?_⟩
  rw [State.boundary_of_held (by rw [no]; rfl)]
  exact ⟨rfl, rfl⟩

/-- What of the link no boundary touches. -/
theorem State.linkDecided.fields (h : s.linkDecided t) :
    t.link.inFlight = s.link.inFlight ∧ t.link.staging = s.link.staging ∧ t.link.mediaErrors = s.link.mediaErrors ∧
      t.link.timeouts = s.link.timeouts ∧ t.link.malformed = s.link.malformed ∧ t.link.reissues = s.link.reissues ∧
      t.link.faults = s.link.faults :=
  have same : ∀ {α : Type} (f : Link → α), f t.link.undecided = f s.link.undecided := fun f => congrArg f h.kept
  ⟨same Link.inFlight, same Link.staging, same Link.mediaErrors, same Link.timeouts, same Link.malformed, same Link.reissues,
    same Link.faults⟩

/-- The end of the active request at a link that the path does not hold withdraws at most its request for the link. -/
theorem State.endSector_link_of_ungranted (ungranted : s.link.granted ≠ some .sector) (st : Status) :
    ∃ sec, (s.endSector st).link = { s.link with sectorAsks := sec } ∧ (s.sectorHead.isSome = true → sec = false) := by
  cases head : s.sectorHead with
  | none => exact ⟨s.link.sectorAsks, by rw [State.endSector_of_none head], nofun⟩
  | some r =>
    have withdrawn : s.withdrawSector = s.modLink fun l => { l with sectorAsks := false } := if_neg ungranted
    exact ⟨false, by rw [State.endSector_link head, withdrawn]; rfl, fun _ => rfl⟩

theorem State.endSector_linkDecided (ungranted : s.link.granted ≠ some .sector) (st : Status) :
    s.linkDecided (s.endSector st) := by
  obtain ⟨sec, link, -⟩ := State.endSector_link_of_ungranted ungranted st
  exact ⟨by rw [link]; rfl, State.linkServes_congr (by rw [link]) (State.sameBut_agree (State.endSector_sameBut st) .device),
    fun _ => by rw [link]; exact ⟨rfl, rfl⟩⟩

/-! ### The active request ended at an open link, and the boundary after it (R91, R102) -/

/-- What a boundary has given at a link that was open in `s`, with a request of the path or without (R102, R103, R106). -/
def State.boundaryGiven (s t : State) (sector : Bool) : Prop :=
  if s.linkServes then t.arbitrated s.erase.list s.link.losses sector s.link.engineAsks
  else t.link.state = .ready ∧ t.link.granted = none ∧ t.link.losses = s.link.losses

/-- It rests on the link and on the engine's list before, and on the link after. -/
theorem State.boundaryGiven_congr {b : Bool} {s' t' : State} (h : s.boundaryGiven t b) (serves : s'.linkServes = s.linkServes)
    (list : s'.erase.list = s.erase.list) (losses : s'.link.losses = s.link.losses)
    (asks : s'.link.engineAsks = s.link.engineAsks) (link : t'.link = t.link) : s'.boundaryGiven t' b := by
  simpa only [State.boundaryGiven, State.arbitrated, serves, list, losses, asks, link] using h

/-- A boundary at an open link. -/
theorem State.boundary_boundaryGiven (free : s.link.open_ = true) : s.boundaryGiven s.boundary s.link.sectorAsks := by
  unfold State.boundaryGiven
  cases serves : s.linkServes with
  | true => exact State.boundary_arbitrated serves free
  | false =>
    obtain ⟨ready, -, ungranted⟩ := Link.open_iff.1 free
    rw [State.boundary_of_held (by rw [serves]; rfl)]
    exact ⟨ready, ungranted, rfl⟩

/-- A boundary grants the path nothing that it does not ask for. -/
theorem State.boundary_unasked (sec : s.link.sectorAsks = false) (ungranted : s.link.granted ≠ some .sector) :
    s.boundary.link.sectorAsks = false ∧ s.boundary.link.granted ≠ some .sector := by
  cases eng : s.link.engineAsks with
  | false =>
    rw [State.boundary_of_unasked sec eng]
    exact ⟨sec, ungranted⟩
  | true =>
    cases h : s.linkServes && s.link.open_ with
    | false =>
      rw [State.boundary_of_held h]
      exact ⟨sec, ungranted⟩
    | true =>
      have granted : s.boundary = s.grant .engine := by simp [State.boundary, h, sec, eng]
      rw [granted, State.grant_link]
      simp [sec]

/-- The active request has ended with nothing of it in flight, its slot completed, and the boundary that follows has come. -/
structure State.requestEnded (s t : State) (r : Request) (st : Status) : Prop where
  path : t.sector = { warned := s.sector.warned }
  done : (s.zeroed st).completed t r st s.sector.done (s.sector.results st)
  unasked : t.link.sectorAsks = false
  ungranted : t.link.granted ≠ some .sector
  given : s.boundaryGiven t false

theorem State.endSector_requestEnded {r : Request} (ok : s.memOk = true) (head : s.sectorHead = some r)
    (free : s.link.open_ = true) (st : Status) : s.requestEnded (s.endSector st).boundary r st := by
  obtain ⟨ready, landed, unheld⟩ := Link.open_iff.1 free
  obtain ⟨sec, link, withdrawn⟩ := State.endSector_link_of_ungranted (s := s) (by simp [unheld]) st
  obtain rfl : sec = false := withdrawn (by simp [head])
  have ended : s.sameBut sectorEnding (s.endSector st) := State.endSector_sameBut st
  have decided : (s.endSector st).sameBut granting (s.endSector st).boundary := State.boundary_sameBut
  have still : (s.endSector st).link.open_ = true := by rw [link]; exact Link.open_iff.2 ⟨ready, landed, unheld⟩
  have path : (s.endSector st).boundary.sector = (s.endSector st).sector := State.sameBut_agree decided .sector
  obtain ⟨unasked, ungranted⟩ := State.boundary_unasked (s := s.endSector st) (by rw [link]) (by rw [link]; simp [unheld])
  have given := State.boundary_boundaryGiven still
  rw [show (s.endSector st).link.sectorAsks = false by rw [link]] at given
  refine ⟨path.trans (State.endSector_sector head st), decided.completed (State.endSector_completed ok head st), unasked,
    ungranted, State.boundaryGiven_congr given ?_ ?_ (by rw [link]) (by rw [link]) rfl⟩
  · exact State.linkServes_congr (by rw [link]) (State.sameBut_agree ended .device).symm
  · exact (State.sameBut_agree ended .eraseList).symm

/-- The indicators shown, the request has ended still. -/
theorem State.requestEnded.settle {r : Request} {st : Status} (h : s.requestEnded u r st) : s.requestEnded u.settle r st := by
  have settled : u.sameBut showing u.settle := State.settled
  have path : u.settle.sector = u.sector := State.sameBut_agree settled .sector
  have link : u.settle.link = u.link := State.sameBut_agree settled .link
  exact ⟨path.trans h.path, settled.completed h.done, by rw [link]; exact h.unasked, by rw [link]; exact h.ungranted,
    State.boundaryGiven_congr h.given rfl rfl rfl rfl link⟩

/-- A link that serves nobody leaves nothing for a boundary. -/
theorem State.endSector_boundary_of_unserved (serves : s.linkServes = false) (ungranted : s.link.granted ≠ some .sector)
    (st : Status) : (s.endSector st).boundary = s.endSector st :=
  State.boundary_of_held (by rw [(State.endSector_linkDecided ungranted st).serves, serves]; rfl)

/-! ### A reply applied by the sector path (R89 to R92) -/

/-- The staging area emptied. -/
def State.unstaged (s : State) : State := s.modLink fun l => { l with staging := 0 }

/-- The path with one sector more done. -/
def State.advanced (s : State) : State := s.modSector fun p => { p with done := p.done + 1, k := p.k + 1 }

theorem State.advanceSector_of_last (h : s.sector.k + 1 = s.sector.count) :
    s.advanceSector = (s.advanced.endSector .ok).boundary := if_pos h

theorem State.advanceSector_of_more (h : s.sector.k + 1 ≠ s.sector.count) : s.advanceSector = s.advanced.askSector := if_neg h

theorem State.askSector_linkDecided (ungranted : s.link.granted ≠ some .sector) : s.linkDecided s.askSector := by
  unfold State.askSector
  split_ifs
  · exact State.endSector_linkDecided ungranted _
  · exact State.endSector_linkDecided ungranted _
  · let a := (s.modSector fun p => { p with phase := .waitingGrant }).modLink fun l => { l with sectorAsks := true }
    have asked : s.linkDecided a := ⟨rfl, rfl, fun _ => ⟨rfl, rfl⟩⟩
    exact asked.trans State.boundary_linkDecided

theorem State.advanceSector_linkDecided (ungranted : s.link.granted ≠ some .sector) : s.linkDecided s.advanceSector := by
  have advanced : s.linkDecided s.advanced := (State.modSector_sameBut _).linkDecided
  refine advanced.trans ?_
  by_cases last : s.sector.k + 1 = s.sector.count
  · rw [State.advanceSector_of_last last]
    exact (State.endSector_linkDecided (s := s.advanced) ungranted .ok).trans State.boundary_linkDecided
  · rw [State.advanceSector_of_more last]
    exact State.askSector_linkDecided (s := s.advanced) ungranted

/-- The reply to a command whose request's end is decided: what a WRITE wrote counts, and nothing more is done (R17, R94). -/
theorem State.sectorReply_of_ended {st : Status} (ended : s.sector.ended = some st) (r : Reply) :
    s.sectorReply r = ((if s.sector.write && r = .ok then s.unstaged.modSector fun p => { p with done := p.done + 1 }
      else s.unstaged).endSector st).boundary := by
  simp only [State.sectorReply, State.modLink_sector, ended]
  rfl

theorem State.sectorReply_of_media (wanted : s.sector.ended = none) (n : BitVec 32) :
    s.sectorReply (.mediaError n) =
      ((s.unstaged.modSector fun p => { p with errorSector := some (p.relFirst + p.k) }).endSector .flashError).boundary := by
  simp only [State.sectorReply, State.modLink_sector, wanted]
  rfl

theorem State.sectorReply_of_ok (wanted : s.sector.ended = none) : s.sectorReply .ok = s.unstaged.advanceSector := by
  simp only [State.sectorReply, State.modLink_sector, wanted]
  rfl

/-- A reply without a sector, and an identity, are no reply of the path's: the link alone goes on. -/
theorem State.sectorReply_of_other (wanted : s.sector.ended = none) {r : Reply}
    (h : r = .data [] ∨ ∃ cap ef ed, r = .ident cap ef ed) : s.sectorReply r = s.unstaged.boundary := by
  rcases h with rfl | ⟨cap, ef, ed, rfl⟩
  all_goals
    simp only [State.sectorReply, State.modLink_sector, wanted]
    rfl

/-- A READ's sector put into its buffer, the sector transform undone (R90, R95). -/
def State.received (s : State) (d : Sector) : State := s.modExch fun x =>
  { x with
    mem := writeBytes x.mem (bufAddr (s.sector.firstBuf + s.sector.k))
      (bytesOfSector ((Config.sectorTransform (s.vol s.sector.vol).key (BitVec.ofNat 32 (s.sector.absFirst + s.sector.k))).symm d)) }

theorem State.sectorReply_of_data (wanted : s.sector.ended = none) (held : (s.vol s.sector.vol).keyHeld = true) (d : Sector)
    (l : List Sector) : s.sectorReply (.data (d :: l)) = (s.unstaged.received d).advanceSector := by
  simp only [State.sectorReply, State.modLink_sector, wanted]
  exact if_pos held

theorem State.sectorReply_of_keyless (wanted : s.sector.ended = none) (shut : (s.vol s.sector.vol).keyHeld = false) (d : Sector)
    (l : List Sector) : s.sectorReply (.data (d :: l)) = (s.unstaged.endSector .lockedDuring).boundary := by
  simp only [State.sectorReply, State.modLink_sector, wanted]
  exact if_neg (ne_true_of_eq_false shut)

end Sys2Proof.Machine
end

section
namespace Sys2Proof.Machine
set_option Elab.async false
variable {s t u : State} {ps : List Part}

/-! ### The reply to a sector command (R89 to R92, R96, R99) -/

/-- Whatever the reply is, it leaves the link but for the staging area and what boundaries decide on. -/
theorem State.sectorReply_linkDecided (ungranted : s.link.granted ≠ some .sector) (r : Reply) :
    s.unstaged.linkDecided (s.sectorReply r) := by
  have ends {v : State} {st : Status} (h : s.unstaged.linkDecided v) (free : v.link.granted ≠ some .sector) :
      s.unstaged.linkDecided (v.endSector st).boundary :=
    (h.trans (State.endSector_linkDecided free st)).trans State.boundary_linkDecided
  have path (g : SectorPath → SectorPath) : s.unstaged.linkDecided (s.unstaged.modSector g) :=
    (State.modSector_sameBut g).linkDecided
  have same : s.unstaged.linkDecided s.unstaged := ⟨rfl, rfl, fun _ => ⟨rfl, rfl⟩⟩
  cases ended : s.sector.ended with
  | some st =>
    rw [State.sectorReply_of_ended ended]
    split_ifs
    · exact ends (path _) ungranted
    · exact ends same ungranted
  | none =>
    cases r with
    | ok =>
      rw [State.sectorReply_of_ok ended]
      exact State.advanceSector_linkDecided (s := s.unstaged) ungranted
    | mediaError n =>
      rw [State.sectorReply_of_media ended]
      exact ends (path _) ungranted
    | ident cap ef ed =>
      rw [State.sectorReply_of_other ended (.inr ⟨_, _, _, rfl⟩)]
      exact State.boundary_linkDecided
    | data l =>
      cases l with
      | nil =>
        rw [State.sectorReply_of_other ended (.inl rfl)]
        exact State.boundary_linkDecided
      | cons d l =>
        cases held : (s.vol s.sector.vol).keyHeld with
        | true =>
          rw [State.sectorReply_of_data ended held]
          have put : s.unstaged.linkDecided (s.unstaged.received d) := (State.modExch_sameBut _).linkDecided
          exact put.trans (State.advanceSector_linkDecided (s := s.unstaged.received d) ungranted)
        | false =>
          rw [State.sectorReply_of_keyless ended held]
          exact ends same ungranted

/-- The state in which the path applies a reply: MEDIA_ERROR counted, the link READY. -/
def State.replied (s : State) (r : Reply) : State := (s.countMedia r).linkReady

theorem State.countMedia_link (r : Reply) : ∃ n, (s.countMedia r).link = { s.link with mediaErrors := n } ∧
    ∀ a, r = .mediaError a → n = satInc16 s.link.mediaErrors := by
  cases r with
  | mediaError => exact ⟨_, rfl, fun _ _ => rfl⟩
  | ok | data | ident => exact ⟨s.link.mediaErrors, rfl, nofun⟩

theorem State.countMedia_sameBut (r : Reply) : s.sameBut [.link] (s.countMedia r) := by
  cases r with
  | mediaError => exact State.modLink_sameBut _
  | ok | data | ident => exact State.sameBut_refl

theorem State.replied_sameBut (r : Reply) : s.sameBut [.link, .pageLink] (s.replied r) :=
  State.sameBut_then (State.countMedia_sameBut r) State.linkReady_sameBut

theorem State.replied_link (r : Reply) : ∃ n, (s.replied r).link =
    { s.link with mediaErrors := n, state := .ready, inFlight := none, granted := none } ∧
      ∀ a, r = .mediaError a → n = satInc16 s.link.mediaErrors := by
  obtain ⟨n, link, counted⟩ := State.countMedia_link (s := s) r
  exact ⟨n, by rw [State.replied, State.linkReady_link, link], counted⟩

/-- The exchange unit outside the frame. -/
theorem State.sameBut.exch (h : s.sameBut ps t) (w : ps.contains .mem = false := by decide)
    (w' : ps.contains .attn = false := by decide) (w'' : ps.contains .queues = false := by decide)
    (w''' : ps.contains .scanRegs = false := by decide) : t.exch = s.exch := by
  have mem : t.exch.mem = s.exch.mem := State.sameBut_agree h .mem w
  have attn : t.exch.attn = s.exch.attn := State.sameBut_agree h .attn w'
  have queues : t.exch.queuesOnly = s.exch.queuesOnly := State.sameBut_agree h .queues w''
  have regs : t.exch.regsOnly = s.exch.regsOnly := State.sameBut_agree h .scanRegs w'''
  cases hs : s.exch
  cases ht : t.exch
  simp_all [Exchange.queuesOnly, Exchange.regsOnly]

/-- `u` stands where the reply to a command of `s` is applied: its link READY, with what the arbiter decides by as it was. -/
structure State.answered (s u : State) : Prop where
  free : u.link.open_ = true
  serves : u.linkServes = s.linkServes
  list : u.erase.list = s.erase.list
  losses : u.link.losses = s.link.losses
  asks : u.link.engineAsks = s.link.engineAsks
  warned : u.link.warned = s.link.warned
  head : u.sectorHead = s.sectorHead

theorem State.replied_answered (r : Reply) : s.answered (s.replied r).unstaged := by
  obtain ⟨n, link, -⟩ := State.replied_link (s := s) r
  have frame := State.replied_sameBut (s := s) r
  have device : (s.replied r).device = s.device := State.sameBut_agree frame .device
  have list : (s.replied r).erase.list = s.erase.list := State.sameBut_agree frame .eraseList
  have exch : (s.replied r).exch = s.exch := frame.exch
  have unstaged : (s.replied r).unstaged.link = { (s.replied r).link with staging := 0 } := rfl
  rw [link] at unstaged
  exact ⟨by rw [unstaged]; rfl, State.linkServes_congr (by rw [unstaged]) device, list, by rw [unstaged], by rw [unstaged],
    by rw [unstaged], congrArg (fun x : Exchange => x.sectorQ.head?) exch⟩

/-- A change of the path is no matter of the arbiter. -/
theorem State.answered.modSector (h : s.answered u) (g : SectorPath → SectorPath) : s.answered (u.modSector g) :=
  ⟨h.free, h.serves, h.list, h.losses, h.asks, h.warned, h.head⟩

/-- The exchange unit with a sector put into its buffer. -/
theorem State.received_exch (d : Sector) : (s.received d).exch = { s.exch with
    mem := writeBytes s.exch.mem (bufAddr (s.sector.firstBuf + s.sector.k)) (bytesOfSector
      ((Config.sectorTransform (s.vol s.sector.vol).key (BitVec.ofNat 32 (s.sector.absFirst + s.sector.k))).symm d)) } :=
  State.modExch_exch s _

theorem State.received_memOk (ok : s.memOk = true) (d : Sector) : (s.received d).memOk = true := by
  have wf (a : Nat) (l : List Byte) : Memory.wf (writeBytes s.exch.mem a l) = true := Memory.writeBytes_wf ok
  rw [State.memOk, State.received_exch, wf]

/-- Nor is a sector put into its buffer. -/
theorem State.answered.received (h : s.answered u) (d : Sector) : s.answered (u.received d) := by
  have link : (u.received d).link = u.link := State.modExch_link _ _
  have serves : (u.received d).linkServes = u.linkServes := State.linkServes_congr (by rw [link]) (State.modExch_device _ _)
  have list : (u.received d).erase = u.erase := State.modExch_erase _ _
  have queue : (u.received d).exch.sectorQ = u.exch.sectorQ := by simp [State.received]
  exact ⟨by rw [link]; exact h.free, serves.trans h.serves, by rw [list]; exact h.list, by rw [link]; exact h.losses,
    by rw [link]; exact h.asks, by rw [link]; exact h.warned, by rw [State.sectorHead, queue]; exact h.head⟩

/-- What a boundary there gives is what `s` lets it give. -/
theorem State.answered.given {b : Bool} (h : s.answered u) (k : u.boundaryGiven t b) : s.boundaryGiven t b :=
  State.boundaryGiven_congr k h.serves.symm h.list.symm h.losses.symm h.asks.symm rfl

/-- The end of the request there. -/
theorem State.answered.ends {r : Request} (h : s.answered u) (ok : u.memOk = true) (head : s.sectorHead = some r) (st : Status) :
    u.requestEnded (u.endSector st).boundary.settle r st :=
  (State.endSector_requestEnded ok (h.head.trans head) h.free st).settle

/-- The next sector there: with the last the request ends OK, for any other the link is asked again (R89, R90, R102). -/
theorem State.answered.advances {r : Request} (h : s.answered u) (ok : u.memOk = true) (head : s.sectorHead = some r) :
    let t := u.advanceSector.settle
    (u.sector.k + 1 = u.sector.count → u.advanced.requestEnded t r .ok) ∧
      (u.sector.k + 1 ≠ u.sector.count → s.linkServes = true →
        t.sector = { u.sector with phase := .waitingGrant, k := u.sector.k + 1, done := u.sector.done + 1 } ∧
          t.exch = u.exch ∧ s.boundaryGiven t true) ∧
      (u.sector.k + 1 ≠ u.sector.count → s.linkServes = false → u.advanced.requestEnded t r s.linkRefusal) := by
  have ready : s.answered u.advanced := h.modSector _
  obtain ⟨state, -, unheld⟩ := Link.open_iff.1 h.free
  have sound : u.link.state ≠ .fault := by rw [state]; decide
  refine ⟨fun last => ?_, fun more serves => ?_, fun more serves => ?_⟩
  · rw [State.advanceSector_of_last last]
    exact ready.ends ok head .ok
  · rw [State.advanceSector_of_more more]
    obtain ⟨asked, path, frame⟩ := State.askSector_of_served (s := u.advanced) sound (ready.serves.trans serves)
    have settled : u.advanced.askSector.sameBut showing u.advanced.askSector.settle := State.settled
    have path' : u.advanced.askSector.settle.sector = u.advanced.askSector.sector := State.sameBut_agree settled .sector
    have link : u.advanced.askSector.settle.link = u.advanced.askSector.link := State.sameBut_agree settled .link
    refine ⟨path'.trans path, settled.exch.trans frame.exch, ?_⟩
    unfold State.boundaryGiven
    unfold State.sectorAsked at asked
    rw [if_pos ready.free, ready.list, ready.losses, ready.asks] at asked
    rw [if_pos serves]
    exact State.arbitrated_congr asked link
  · rw [State.advanceSector_of_more more]
    have refused : u.advanced.linkRefusal = s.linkRefusal := by rw [State.linkRefusal, ready.warned]; rfl
    have unserved : u.advanced.linkServes = false := ready.serves.trans serves
    have ends : u.advanced.askSector = (u.advanced.endSector s.linkRefusal).boundary := by
      rw [State.askSector_of_unserved (s := u.advanced) sound unserved, refused]
      refine (State.endSector_boundary_of_unserved unserved ?_ _).symm
      show u.link.granted ≠ some .sector
      simp [unheld]
    rw [ends]
    exact ready.ends ok head s.linkRefusal

/-- What is zeroed at the end of a request rests on its kind, its buffers and the memory. -/
theorem State.zeroed_mem_of (write : t.sector.write = s.sector.write) (first : t.sector.firstBuf = s.sector.firstBuf)
    (done : t.sector.done = s.sector.done) (mem : t.exch.mem = s.exch.mem) (st : Status) :
    (t.zeroed st).exch.mem = (s.zeroed st).exch.mem := by
  unfold State.zeroed
  rw [write]
  split_ifs
  · show zeroBuffers t.sector.firstBuf t.sector.done t.exch.mem = zeroBuffers s.sector.firstBuf s.sector.done s.exch.mem
    rw [first, done, mem]
  · exact mem

/-- A WRITE fills no buffer. -/
theorem State.zeroed_of_write (h : s.sector.write = true) (st : Status) : s.zeroed st = s := if_neg (by simp [h])

/-- Most ends zero nothing. -/
theorem State.zeroed_of_kept {st : Status} (h : st.zeroes = false) : s.zeroed st = s := if_neg (by simp [h])

/-- The slot of a request that has ended, said of a state with the same buffers to zero. -/
theorem State.requestEnded.completed {r : Request} {st : Status} {n : Nat} {l : List Byte} (h : u.requestEnded t r st)
    (mem : (u.zeroed st).exch.mem = s.exch.mem) (done : u.sector.done = n) (results : u.sector.results st = l) :
    s.completed t r st n l := by
  subst done results
  exact State.completed_of_mem h.done mem

/-- The end decided before, at the reply (R17, R94): what a WRITE wrote counts, what a READ has filled is zeroed. -/
theorem State.answered.decidedEnd {r : Request} {st : Status} (h : s.answered u) (ok : u.memOk = true)
    (head : s.sectorHead = some r) (path : u.sector = s.sector) (mem : u.exch.mem = s.exch.mem) (other : st ≠ .flashError)
    (counts : Bool) :
    let t := ((if s.sector.write && counts then u.modSector fun p => { p with done := p.done + 1 } else u).endSector
      st).boundary.settle
    t.sector = { warned := s.sector.warned } ∧ t.link.sectorAsks = false ∧ t.link.granted ≠ some .sector ∧
      s.boundaryGiven t false ∧
      (s.zeroed st).completed t r st (if s.sector.write && counts then s.sector.done + 1 else s.sector.done) [] := by
  cases written : s.sector.write && counts with
  | false =>
    have ends := h.ends ok head st
    exact ⟨by rw [← path]; exact ends.path, ends.unasked, ends.ungranted, h.given ends.given,
      ends.completed (State.zeroed_mem_congr path mem st) (by rw [path]; rfl) (SectorPath.results_of_ne other)⟩
  | true =>
    let v := u.modSector fun p => { p with done := p.done + 1 }
    have ready : s.answered v := h.modSector _
    have ends := ready.ends ok head st
    have write : s.sector.write = true := (Bool.and_eq_true _ _ ▸ written).1
    have write' : v.sector.write = true := (congrArg SectorPath.write path).trans write
    refine ⟨by rw [← path]; exact ends.path, ends.unasked, ends.ungranted, ready.given ends.given,
      ends.completed ?_ (by rw [← path]; rfl) (SectorPath.results_of_ne other)⟩
    rw [State.zeroed_of_write write', State.zeroed_of_write write]
    exact mem

/-- The next sector, with the memory of `w` once the sector done has been put there (R89, R90). -/
theorem State.answered.progress {w : State} {r : Request} (h : s.answered u) (ok : u.memOk = true)
    (head : s.sectorHead = some r) (path : u.sector = s.sector) (exch : w.exch = u.exch) (path' : w.sector = s.sector) :
    let p := s.sector
    let t := u.advanceSector.settle
    (p.k + 1 = p.count → t.sector.phase = .idle ∧ w.completed t r .ok (p.done + 1) [] ∧ s.boundaryGiven t false) ∧
      (p.k + 1 ≠ p.count → s.linkServes = true →
        t.sector = { p with phase := .waitingGrant, k := p.k + 1, done := p.done + 1 } ∧ t.exch = w.exch ∧
          s.boundaryGiven t true) ∧
      (p.k + 1 ≠ p.count → s.linkServes = false →
        let x : State := { w with sector := { w.sector with done := p.done + 1 } }
        t.sector.phase = .idle ∧ (x.zeroed s.linkRefusal).completed t r s.linkRefusal (p.done + 1) [] ∧
          s.boundaryGiven t false) := by
  obtain ⟨last, served, unserved⟩ := h.advances ok head
  have ready : s.answered u.advanced := h.modSector _
  have done : u.advanced.sector.done = s.sector.done + 1 := by rw [← path]; rfl
  rw [path] at last served unserved
  refine ⟨fun all => ?_, fun more serves => ?_, fun more serves => ?_⟩
  · have ends := last all
    refine ⟨by rw [ends.path], ends.completed ?_ done (SectorPath.results_of_ne (by decide)), ready.given ends.given⟩
    rw [State.zeroed_of_kept rfl, exch]
    rfl
  · obtain ⟨path, same, given⟩ := served more serves
    exact ⟨path, same.trans exch.symm, given⟩
  · have ends := unserved more serves
    have other : s.linkRefusal ≠ .flashError := by unfold State.linkRefusal; split_ifs <;> decide
    refine ⟨by rw [ends.path], ends.completed (State.zeroed_mem_of ?_ ?_ done ?_ _) done (SectorPath.results_of_ne other),
      ready.given ends.given⟩
    · show u.sector.write = w.sector.write
      rw [path, path']
    · show u.sector.firstBuf = w.sector.firstBuf
      rw [path, path']
    · exact congrArg Exchange.mem exch.symm

/-- LINK_REPLY with a good reply. -/
theorem State.exec_goodReply {f : InFlight} {x : Frame} (alive : s.alive = true) (flies : s.link.inFlight = some f)
    (issued : f.resetting = false) (good : frameFits f x = true) (time : Nat) :
    exec (.linkReply x time) s = .next (s.takeReply f time x.reply).settle := by
  refine congrArg go ?_
  simp [alive, flies, issued, good]

/-- What a good reply to a sector command leaves of the link, whatever it is. -/
theorem State.sector_reply_link (r : Reply) :
    let t := ((s.replied r).sectorReply r).settle
    s.sameBut (sectorEnding ++ showing) t ∧ t.link.inFlight = none ∧ t.link.staging = 0 ∧
      ∀ n, r = .mediaError n → t.link.mediaErrors = satInc16 s.link.mediaErrors := by
  intro t
  let q := s.replied r
  obtain ⟨n, link, counted⟩ := State.replied_link (s := s) r
  have frame : s.sameBut [.link, .pageLink] q := State.replied_sameBut r
  have settled : (q.sectorReply r).sameBut showing t := State.settled
  have held : t.link = (q.sectorReply r).link := State.sameBut_agree settled .link
  obtain ⟨landed, staging, errors, -⟩ :=
    (State.sectorReply_linkDecided (s := q) (by rw [show q.link = _ from link]; simp) r).fields
  refine ⟨State.sameBut_then (State.sameBut_then (rs := sectorEnding) frame (State.sectorReply_sameBut r)) settled, ?_, ?_,
    fun a media => ?_⟩
  · rw [held, landed]
    exact congrArg Link.inFlight link
  · rw [held, staging]
    rfl
  · rw [held, errors, ← counted a media]
    exact congrArg Link.mediaErrors link

end Sys2Proof.Machine

open Sys2Proof Sys2Proof.Machine

/-- Settles O40: the reply applied at a link made READY, by the end decided before and by what the reply is. -/
theorem sectorReplies : Obligations.SectorReplies := by
  intro s f x time r alive ok flies issued owner good flying head p
  let q := s.replied x.reply
  let v := q.unstaged
  have taken : s.takeReply f time x.reply = q.sectorReply x.reply := by rw [State.takeReply, owner]; rfl
  have frame : s.sameBut [.link, .pageLink] q := State.replied_sameBut x.reply
  have path : q.sector = s.sector := State.sameBut_agree frame .sector
  have vol (w : Vol) : q.vol w = s.vol w := frame.vol w
  have exch : v.exch = s.exch := frame.exch
  have okv : v.memOk = true := frame.memOk ok
  have ready : s.answered v := State.replied_answered x.reply
  obtain ⟨changed, landed, staging, media⟩ := State.sector_reply_link (s := s) x.reply
  refine ⟨_, (State.exec_goodReply alive flies issued good time).trans (by rw [taken]), changed, landed, staging, ?_⟩
  intro boundary
  refine ⟨fun st ended other => ?_, fun u wanted progress => ?_, fun d wanted data shut => ?_, fun a wanted error => ?_⟩
  · obtain ⟨idle, unasked, ungranted, given, done⟩ :=
      ready.decidedEnd okv head path (congrArg Exchange.mem exch) other (decide (x.reply = .ok))
    have reply := State.sectorReply_of_ended (s := q) (path.symm ▸ ended : q.sector.ended = some st) x.reply
    rw [path] at reply
    rw [← reply] at idle unasked ungranted given done
    exact ⟨idle, unasked, ungranted, given, media, by simpa using done⟩
  · have unended : q.sector.ended = none := (congrArg SectorPath.ended path).trans wanted
    rcases progress with ⟨d, data, key, put⟩ | ⟨done, same⟩
    · have reply : q.sectorReply x.reply = (v.received d).advanceSector := by
        rw [data]
        exact State.sectorReply_of_data unended (by rw [path, vol]; exact key) d []
      have kept : (v.received d).sector = v.sector := State.modExch_sector _ _
      have okr : (v.received d).memOk = true := State.received_memOk okv d
      have received : (v.received d).exch = u.exch := by
        rw [State.received_exch, put, exch, show v.sector = s.sector from path, show v.vol p.vol = s.vol p.vol from vol _]
      have facts := (ready.received d).progress okr head (kept.trans path) received.symm (by rw [put])
      rw [← reply] at facts
      exact facts
    · have reply : q.sectorReply x.reply = v.advanceSector := by
        rw [done]
        exact State.sectorReply_of_ok unended
      have facts := ready.progress okv head path (by rw [same]; exact exch.symm : u.exch = v.exch) (by rw [same])
      rw [← reply] at facts
      exact facts
  · have reply : q.sectorReply x.reply = (v.endSector .lockedDuring).boundary := by
      rw [data]
      exact State.sectorReply_of_keyless ((congrArg SectorPath.ended path).trans wanted) (by rw [path, vol]; exact shut) d []
    have ends := ready.ends okv head .lockedDuring
    rw [← reply] at ends
    exact ⟨by rw [ends.path], ends.completed (State.zeroed_mem_congr (t := v) path (congrArg Exchange.mem exch) _)
      (congrArg SectorPath.done path) rfl, ready.given ends.given⟩
  · let w := v.modSector fun p => { p with errorSector := some (p.relFirst + p.k) }
    have reply : q.sectorReply x.reply = (w.endSector .flashError).boundary := by
      rw [error]
      exact State.sectorReply_of_media ((congrArg SectorPath.ended path).trans wanted) a
    have ends := (ready.modSector _ : s.answered w).ends okv head .flashError
    rw [← reply] at ends
    refine ⟨by rw [ends.path], media a error, (ready.modSector _).given ends.given,
      ends.completed ?_ (congrArg SectorPath.done path : v.sector.done = s.sector.done) ?_⟩
    · rw [State.zeroed_of_kept rfl]
      exact congrArg Exchange.mem exch
    · show leBytes 4 (v.sector.relFirst + v.sector.k) ++ [1] = _
      rw [show v.sector = s.sector from path]
end

section
namespace Sys2Proof.Machine
set_option Elab.async false
variable {s t u : State} {ps : List Part}

/-! ### Frames, IDENT and stripe replies (R96, R99, R101) -/

/-- When a frame is good (R96). -/
theorem frameFits_iff (f : InFlight) (x : Frame) : frameFits f x = true ↔ x.checkOk = true ∧
    ((f.cmd = .ident ∧ ∃ cap ef ed, x.reply = .ident cap ef ed ∧ cap ≠ 0) ∨
      (f.cmd = .read ∧ ∃ d, x.reply = .data d ∧ d.length = f.count) ∨
      ((f.cmd = .write ∨ f.cmd = .discard) ∧ x.reply = .ok) ∨
      (f.cmd ≠ .ident ∧ ∃ n, x.reply = .mediaError n ∧ f.first ≤ n.toNat ∧ n.toNat < f.first + f.count)) := by
  unfold frameFits
  cases f.cmd <;> cases x.reply <;> simp

/-- A step on the link alone and the rewrite of its section. -/
theorem State.modLink_shown (g : Link → Link) :
    ((s.modLink g).refresh .link).link = g s.link ∧ s.rewritten ((s.modLink g).refresh .link) .link ∧
      s.sameBut [.link, .pageLink] ((s.modLink g).refresh .link) :=
  ⟨State.refresh_link _, State.refresh_rewritten (s := s.modLink g) .link,
    State.sameBut_then (State.modLink_sameBut g) (State.refresh_sameBut .link)⟩

/-- A stray frame. -/
theorem State.exec_strayFrame (alive : s.alive = true) (quiet : s.link.inFlight = none) (x : Frame) (time : Nat) :
    exec (.linkReply x time) s = .next (s.countMalformed.refresh .link) := by
  refine congrArg go ?_
  simp [alive, quiet]

/-- The reply of a stripe command handed to the engine at a link granted to nobody: behind it, if anything, the engine's next grant
(R102, R110). -/
theorem State.stripeReplied_facts (ungranted : s.link.granted = none) (o : StripeOutcome) :
    let t := s.stripeReplied o
    t.erase.inbox = s.erase.inbox ++ .reply o :: t.grantEvent ∧ s.linkDecided t ∧ s.sameBut [.eraseInbox, .link, .pageLink] t := by
  let w := s.tellEngine (.reply o)
  have told : s.sameBut [.eraseInbox] w := State.tellEngine_sameBut _
  have inbox : w.erase.inbox = s.erase.inbox ++ [.reply o] := rfl
  by_cases takes : w.erase.takesReply = true
  · have same : s.stripeReplied o = w := if_pos takes
    rw [same]
    refine ⟨?_, told.linkDecided, State.sameBut_mono told⟩
    rw [inbox, State.grantEvent, if_neg (by show s.link.granted ≠ _; simp [ungranted])]
  · have same : s.stripeReplied o = w.boundary := if_neg takes
    rw [same]
    refine ⟨?_, told.linkDecided.trans State.boundary_linkDecided, State.sameBut_then told State.boundary_sameBut⟩
    rw [State.boundary_eraseInbox (s := w) ungranted, inbox, List.append_assoc]
    rfl

/-- The indicators shown, the engine's grant stands as it stood. -/
theorem State.grantEvent_settle : s.settle.grantEvent = s.grantEvent := by
  have link : s.settle.link = s.link := State.sameBut_agree State.settled .link
  rw [State.grantEvent, State.grantEvent, link]

/-- START_UP_IDENT when step 5 is due (R154). -/
theorem State.exec_startUpIdent (due : s.stepDue 5 = true) (unasked : s.startUp.identAsked = false)
    (quiet : s.link.inFlight = none) (untaken : s.link.ident = .none) (serves : s.linkServes = true) :
    exec .startUpIdent s = .next ((s.modStartUp fun x => { x with identAsked := true }).issue (identCommand false)) := by
  refine congrArg go (if_pos ?_)
  simp [due, unasked, quiet, untaken, serves]

/-- PROBE when its timer runs (R100). -/
theorem State.exec_probe (alive : s.alive = true) (fault : s.link.state = .fault) (runs : s.link.probeLeft.isSome = true)
    (quiet : s.link.inFlight = none) (untaken : s.link.ident = .none) (serves : s.linkServes = true) :
    exec .probe s = .next (s.modLink fun l => { l with inFlight := some (identCommand true), probeLeft := none }) := by
  refine congrArg go (if_pos ?_)
  simp [alive, fault, runs, quiet, untaken, serves]

/-- The outcome of a stripe command as its reply gives it (R97, R119). -/
theorem stripeOutcome_cases (f : InFlight) (time : Nat) (r : Reply) :
    (r = .ok → stripeOutcome f time r = .ok time f.expect) ∧
      (∀ d, r = .data d → stripeOutcome f time r = .data (d.all (· = 0))) ∧
      ∀ n, r = .mediaError n → stripeOutcome f time r = .mediaError := by
  cases r <;> simp [stripeOutcome]

/-- A good reply to a stripe command. -/
theorem State.stripe_reply_facts (r : Reply) (o : StripeOutcome) :
    let t := ((s.replied r).stripeReplied o).settle
    t.link.inFlight = none ∧ t.erase.inbox = s.erase.inbox ++ .reply o :: t.grantEvent ∧
      (∀ n, r = .mediaError n → t.link.mediaErrors = satInc16 s.link.mediaErrors) ∧
      s.sameBut (([.eraseInbox, .link, .pageLink] : List Part) ++ showing) t := by
  intro t
  let q := s.replied r
  obtain ⟨n, link, counted⟩ := State.replied_link (s := s) r
  have frame : s.sameBut [.link, .pageLink] q := State.replied_sameBut r
  have settled : (q.stripeReplied o).sameBut showing t := State.settled
  obtain ⟨inbox, decided, told⟩ := State.stripeReplied_facts (s := q) (by rw [show q.link = _ from link]) o
  obtain ⟨landed, -, errors, -⟩ := decided.fields
  have held : t.link = (q.stripeReplied o).link := State.sameBut_agree settled .link
  have events : t.erase.inbox = (q.stripeReplied o).erase.inbox := State.sameBut_agree settled .eraseInbox
  have before : q.erase.inbox = s.erase.inbox := State.sameBut_agree frame .eraseInbox
  have after : t.grantEvent = (q.stripeReplied o).grantEvent := State.grantEvent_settle
  refine ⟨?_, by rw [events, inbox, before, after], fun a media => ?_,
    State.sameBut_then (State.sameBut_then (rs := [.eraseInbox, .link, .pageLink]) frame told) settled⟩
  · rw [held, landed]
    exact congrArg Link.inFlight link
  · rw [held, errors, ← counted a media]
    exact congrArg Link.mediaErrors link

/-- A good IDENT: the guard has the report, and the identity is being taken (R101). -/
theorem State.identReply_facts (cap : BitVec 32) (ef ed : BitVec 16) :
    let t := (s.identReply (.ident cap ef ed)).settle
    t.link = { s.link with inFlight := none, ident := .guard } ∧ t.guard.inbox = s.guard.inbox ++ [.capacity cap ef ed] ∧
      s.sameBut (([.link, .guardInbox] : List Part) ++ showing) t := by
  intro t
  let i := (s.modLink fun l => { l with inFlight := none, ident := .guard }).tellGuard (.capacity cap ef ed)
  have settled : i.sameBut showing t := State.settled
  exact ⟨State.sameBut_agree settled .link, (State.sameBut_agree settled .guardInbox).1,
    State.sameBut_then (State.sameBut_then (rs := [.link, .guardInbox]) (State.modLink_sameBut _) (State.tellGuard_sameBut _))
      settled⟩

end Sys2Proof.Machine

open Sys2Proof Sys2Proof.Machine

/-- Settles O41: by who is answered; what a good frame is; and the two commands that issue IDENT. -/
theorem identitiesAndRepliesToTheEngine : Obligations.IdentitiesAndRepliesToTheEngine := by
  refine ⟨fun s x time alive => ⟨fun quiet => ?_, fun f cap ef ed flies issued owner _ good reply => ?_,
    fun f flies issued owner good _ => ?_⟩, frameFits_iff, fun s due unasked quiet untaken serves => ?_,
    fun s alive fault runs quiet untaken serves => ?_⟩
  · exact ⟨_, State.exec_strayFrame alive quiet x time, State.modLink_shown _⟩
  · refine ⟨_, State.exec_goodReply alive flies issued good time, ?_⟩
    rw [State.takeReply, owner, reply]
    exact State.identReply_facts cap ef ed
  · obtain ⟨landed, inbox, errors, frame⟩ := State.stripe_reply_facts (s := s) x.reply (stripeOutcome f time x.reply)
    obtain ⟨ok, data, media⟩ := stripeOutcome_cases f time x.reply
    refine ⟨_, State.exec_goodReply alive flies issued good time, ?_⟩
    rw [State.takeReply, owner]
    exact ⟨landed, ⟨_, inbox, ok, data, fun n error => ⟨media n error, errors n error⟩⟩, frame⟩
  · let w := s.modStartUp fun x => { x with identAsked := true }
    have asked : s.sameBut [.startUp] w := State.modStartUp_sameBut _
    have issued : w.sameBut [.link, .pageLink] (w.issue (identCommand false)) := State.issue_sameBut _
    obtain ⟨link, shown, -⟩ := State.modLink_shown (s := w) fun l =>
      { l with state := .busy, inFlight := some (identCommand false), granted := none }
    exact ⟨_, State.exec_startUpIdent due unasked quiet untaken serves, State.sameBut_agree issued .startUp, link, shown,
      State.sameBut_then asked issued⟩
  · exact ⟨_, State.exec_probe alive fault runs quiet untaken serves, rfl, State.modLink_sameBut _⟩
end

section
namespace Sys2Proof.Machine
set_option Elab.async false
variable {s t u : State} {ps : List Part} {f : InFlight}

/-! ### A failure counted (R98, R105) -/

/-- A failure of the command in flight: it has timed out, or a frame that is not good has come (R96, R97). -/
def InFlight.failing (f : InFlight) (c : Instr) : Prop :=
  c = .linkTimeout ∨ ∃ x time, c = .linkReply x time ∧ frameFits f x = false

/-- The failure counted as what it is, the section not yet rewritten. -/
def State.failureCounted (s : State) (c : Instr) : State := s.modLink fun l =>
  { l with
    timeouts := if c = .linkTimeout then satInc16 l.timeouts else l.timeouts
    malformed := if c = .linkTimeout then l.malformed else satInc16 l.malformed }

theorem State.exec_failing {c : Instr} (alive : s.alive = true) (flies : s.link.inFlight = some f) (issued : f.resetting = false)
    (failing : f.failing c) : exec c s = .next ((s.failureCounted c).commandFails f).settle := by
  rcases failing with rfl | ⟨x, time, rfl, bad⟩
  · refine congrArg go ?_
    simp [alive, flies, issued, State.failureCounted]
  · refine congrArg go ?_
    simp [alive, flies, issued, bad, State.failureCounted, State.countMalformed]

/-- The two counts of failures after a failure. -/
theorem State.failureCounted_counts (c : Instr) (timeouts : t.link.timeouts = (s.failureCounted c).link.timeouts)
    (malformed : t.link.malformed = (s.failureCounted c).link.malformed) :
    (c = .linkTimeout → t.link.timeouts = satInc16 s.link.timeouts ∧ t.link.malformed = s.link.malformed) ∧
      (c ≠ .linkTimeout → t.link.malformed = satInc16 s.link.malformed ∧ t.link.timeouts = s.link.timeouts) := by
  rw [timeouts, malformed]
  refine ⟨fun h => ?_, fun h => ?_⟩ <;> simp [State.failureCounted, h]

/-! ### A command given up (R98) -/

/-- The status with which a command that is given up ends the sector request. -/
def State.givenUpStatus (s : State) : Status := s.sector.ended.getD s.linkRefusal

/-- A command has been given up. -/
structure State.gaveUp (s t : State) (f : InFlight) : Prop where
  landed : t.link.inFlight = none
  faults : t.link.faults = s.link.faults
  reissues : t.link.reissues = s.link.reissues
  unserved : s.linkServes = false → t.link.state = .ready ∧ t.link.granted = none
  sector : f.owner = .sector →
    (∀ r, s.sectorHead = some r → s.givenUpStatus ≠ .flashError →
      t.sector.phase = .idle ∧ (s.zeroed s.givenUpStatus).completed t r s.givenUpStatus s.sector.done []) ∧
      s.sameBut (sectorEnding ++ showing) t
  engine : f.owner = .engine → t.erase.inbox = s.erase.inbox ++ .reply .givenUp :: t.grantEvent ∧
    s.sameBut (([.eraseInbox, .link, .pageLink] : List Part) ++ showing) t
  controller : f.owner = .controller → t.startUp = { s.startUp with identAsked := false } ∧
    s.sameBut (.startUp :: (granting ++ showing)) t

theorem State.giveUp_of_sector (owner : f.owner = .sector) :
    s.giveUp f = (s.linkReady.endSector s.givenUpStatus).boundary := by
  have path : s.linkReady.sector = s.sector := State.sameBut_agree State.linkReady_sameBut .sector
  rw [State.giveUp, owner, State.givenUpStatus, ← path]

theorem State.giveUp_of_engine (owner : f.owner = .engine) : s.giveUp f = s.linkReady.stripeReplied .givenUp := by
  rw [State.giveUp, owner]

theorem State.giveUp_of_controller (owner : f.owner = .controller) :
    s.giveUp f = (s.linkReady.modStartUp fun x => { x with identAsked := false }).boundary := by
  rw [State.giveUp, owner]

/-- Whoever is told, the link is READY but for the boundary. -/
theorem State.giveUp_linkDecided : s.linkReady.linkDecided (s.giveUp f) := by
  have unheld : s.linkReady.link.granted = none := by rw [State.linkReady_link]
  cases owner : f.owner with
  | sector =>
    rw [State.giveUp_of_sector owner]
    exact (State.endSector_linkDecided (by simp [unheld]) _).trans State.boundary_linkDecided
  | engine =>
    rw [State.giveUp_of_engine owner]
    obtain ⟨-, decided, -⟩ := State.stripeReplied_facts unheld .givenUp
    exact decided
  | controller =>
    rw [State.giveUp_of_controller owner]
    exact (State.modStartUp_sameBut _).linkDecided.trans State.boundary_linkDecided

theorem State.giveUp_gaveUp (ok : s.memOk = true) : s.gaveUp (s.giveUp f).settle f := by
  let q := s.linkReady
  have frame : s.sameBut [.link, .pageLink] q := State.linkReady_sameBut
  have settled : (s.giveUp f).sameBut showing (s.giveUp f).settle := State.settled
  have held : (s.giveUp f).settle.link = (s.giveUp f).link := State.sameBut_agree settled .link
  have decided : q.linkDecided (s.giveUp f) := State.giveUp_linkDecided
  obtain ⟨landed, -, -, -, -, reissues, faults⟩ := decided.fields
  have ready : q.link = { s.link with state := .ready, inFlight := none, granted := none } := State.linkReady_link
  rw [ready] at landed reissues faults
  refine ⟨by rw [held, landed], by rw [held, faults], by rw [held, reissues], fun no => ?_,
    fun owner => ⟨fun r head other => ?_, ?_⟩, fun owner => ?_, fun owner => ?_⟩
  · have same := decided.unserved (State.linkReady_serves.trans no)
    rw [ready] at same
    rw [held]
    exact same
  · have head' : q.sectorHead = some r := (congrArg (fun x : Exchange => x.sectorQ.head?) frame.exch).trans head
    have path : q.sector = s.sector := State.sameBut_agree frame .sector
    rw [State.giveUp_of_sector owner]
    have ended := (State.endSector_requestEnded (frame.memOk ok) head' State.linkReady_open s.givenUpStatus).settle
    refine ⟨by rw [ended.path], ?_⟩
    exact ended.completed (State.zeroed_mem_congr path (by rw [frame.exch]) _) (by rw [path]) (SectorPath.results_of_ne other)
  · rw [State.giveUp_of_sector owner] at settled ⊢
    exact State.sameBut_then (State.sameBut_then (rs := sectorEnding) frame
      (State.sameBut_then (rs := sectorEnding) (State.endSector_sameBut _) State.boundary_sameBut)) settled
  · rw [State.giveUp_of_engine owner] at settled ⊢
    obtain ⟨inbox, -, told⟩ := State.stripeReplied_facts (s := q) (by rw [ready]) .givenUp
    have events : (q.stripeReplied .givenUp).settle.erase.inbox = (q.stripeReplied .givenUp).erase.inbox :=
      State.sameBut_agree settled .eraseInbox
    have before : q.erase.inbox = s.erase.inbox := State.sameBut_agree frame .eraseInbox
    exact ⟨by rw [events, inbox, before, State.grantEvent_settle],
      State.sameBut_then (State.sameBut_then (rs := [.eraseInbox, .link, .pageLink]) frame told) settled⟩
  · rw [State.giveUp_of_controller owner] at settled ⊢
    let w := q.modStartUp fun x => { x with identAsked := false }
    have asked : q.sameBut [.startUp] w := State.modStartUp_sameBut _
    have after : w.sameBut (granting ++ showing) w.boundary.settle := State.sameBut_then State.boundary_sameBut settled
    have start : w.boundary.settle.startUp = w.startUp := State.sameBut_agree after .startUp
    have before : q.startUp = s.startUp := State.sameBut_agree frame .startUp
    refine ⟨start.trans ?_, State.sameBut_then (State.sameBut_then (rs := [.startUp, .link, .pageLink]) frame asked) after⟩
    rw [← before]
    rfl

/-- A failure counted before is no matter of what a giving up does. -/
theorem State.gaveUp_of_counted {c : Instr} (h : (s.failureCounted c).gaveUp t f) : s.gaveUp t f := by
  have counted : s.sameBut [.link] (s.failureCounted c) := State.modLink_sameBut _
  refine ⟨h.landed, h.faults, h.reissues, h.unserved, fun owner => ?_, fun owner => ?_, fun owner => ?_⟩
  · obtain ⟨ends, frame⟩ := h.sector owner
    refine ⟨fun r head other => ?_, State.sameBut_then counted frame⟩
    obtain ⟨idle, done⟩ := ends r head other
    exact ⟨idle, State.completed_of_mem done (State.zeroed_mem_congr (s := s) (t := s.failureCounted c) rfl rfl _)⟩
  · obtain ⟨inbox, frame⟩ := h.engine owner
    exact ⟨inbox, State.sameBut_then counted frame⟩
  · obtain ⟨start, frame⟩ := h.controller owner
    exact ⟨start, State.sameBut_then counted frame⟩

/-- The counts of failures stand when a command is given up. -/
theorem State.giveUp_counts : (s.giveUp f).settle.link.timeouts = s.link.timeouts ∧
    (s.giveUp f).settle.link.malformed = s.link.malformed := by
  have held : (s.giveUp f).settle.link = (s.giveUp f).link := State.sameBut_agree State.settled .link
  obtain ⟨-, -, -, timeouts, malformed, -⟩ := (State.giveUp_linkDecided (s := s) (f := f)).fields
  rw [State.linkReady_link] at timeouts malformed
  rw [held]
  exact ⟨timeouts, malformed⟩

/-! ### The link enters FAULT (R100) -/

/-- The FAULT counted, shown and attended to, nobody told of it yet. -/
def State.faultShown (s : State) : State :=
  ((s.modLink fun l =>
    { l with state := .fault, inFlight := none, granted := none, faults := satInc16 l.faults, probeLeft := some 1000 }).attend
      .link).refresh .link

/-- A sector request that is active ends LINK_FAULT. -/
def State.pathFaulted (s : State) : State :=
  if s.sector.phase = .waitingGrant ∨ s.sector.phase = .checking ∨ s.sector.phase = .inFlight then s.endSector .linkFault else s

/-- Start-up goes on, or the engine is told (R101, R127). -/
def State.faultTold (s : State) : State :=
  if s.device = .starting then s.modStartUp fun x => { x with next := if x.identAsked then 6 else x.next, identAsked := false }
  else s.tellEngine .linkFault

theorem State.enterFault_eq : s.enterFault = s.faultShown.pathFaulted.faultTold := by
  have path : s.faultShown.pathFaulted = match s.faultShown.sector.phase with
      | .idle => s.faultShown
      | .deciding => s.faultShown
      | .ending => s.faultShown
      | .waitingGrant => s.faultShown.endSector .linkFault
      | .checking => s.faultShown.endSector .linkFault
      | .inFlight => s.faultShown.endSector .linkFault := by
    unfold State.pathFaulted
    cases s.faultShown.sector.phase <;> simp
  rw [path]
  rfl

theorem State.faultShown_facts :
    s.faultShown.link = { s.link with
      state := .fault, inFlight := none, granted := none, faults := satInc16 s.link.faults, probeLeft := some 1000 } ∧
      s.faultShown.attending .link = true ∧ s.sameBut [.link, .attn, .pageLink] s.faultShown := by
  let l := s.modLink fun l =>
    { l with state := .fault, inFlight := none, granted := none, faults := satInc16 l.faults, probeLeft := some 1000 }
  have changed : s.sameBut [.link] l := State.modLink_sameBut _
  have flagged : l.sameBut [.attn] (l.attend .link) := State.attend_sameBut _
  have shown : (l.attend .link).sameBut [.pageLink] s.faultShown := State.refresh_sameBut .link
  exact ⟨State.refresh_link _, (shown.attending _).trans (State.attend_attending _),
    State.sameBut_then (State.sameBut_then (rs := [.link, .attn]) changed flagged) shown⟩

theorem State.pathFaulted_sameBut : s.sameBut sectorEnding s.pathFaulted := by
  unfold State.pathFaulted
  split_ifs
  exacts [State.endSector_sameBut _, State.sameBut_refl]

theorem State.pathFaulted_quietly : s.quietly s.pathFaulted := by
  unfold State.pathFaulted
  split_ifs
  exacts [State.endSector_quietly _, State.quietly_refl]

theorem State.pathFaulted_link (ungranted : s.link.granted ≠ some .sector) :
    ∃ sec, s.pathFaulted.link = { s.link with sectorAsks := sec } := by
  unfold State.pathFaulted
  split_ifs
  · obtain ⟨sec, link, -⟩ := State.endSector_link_of_ungranted ungranted .linkFault
    exact ⟨sec, link⟩
  · exact ⟨s.link.sectorAsks, rfl⟩

theorem State.faultTold_sameBut : s.sameBut [.startUp, .eraseInbox] s.faultTold := by
  unfold State.faultTold
  split_ifs
  · exact State.sameBut_mono (State.modStartUp_sameBut _)
  · exact State.sameBut_mono (State.tellEngine_sameBut _)

/-- The link has gone to FAULT. -/
structure State.toFault (s t : State) : Prop where
  state : t.link.state = .fault
  landed : t.link.inFlight = none
  faults : t.link.faults = satInc16 s.link.faults
  probe : t.link.probeLeft = some 1000
  counts : t.link.timeouts = s.link.timeouts ∧ t.link.malformed = s.link.malformed
  flag : t.attending .link = true
  told : s.device ≠ .starting → t.erase.inbox.getLast? = some .linkFault
  startUp : s.device = .starting →
    t.startUp = { s.startUp with next := if s.startUp.identAsked then 6 else s.startUp.next, identAsked := false }
  ended : ∀ r, s.sectorHead = some r →
    s.sector.phase = .waitingGrant ∨ s.sector.phase = .checking ∨ s.sector.phase = .inFlight →
    t.sector.phase = .idle ∧ s.completed t r .linkFault s.sector.done []
  frame : s.sameBut (linkEnding ++ showing) t

theorem State.enterFault_toFault (ok : s.memOk = true) : s.toFault s.enterFault.settle := by
  let q := s.faultShown
  let w := q.pathFaulted
  obtain ⟨faulted, flag, frame⟩ := State.faultShown_facts (s := s)
  have path : q.sameBut sectorEnding w := State.pathFaulted_sameBut
  have before : s.sameBut sectorEnding w := State.sameBut_then frame path
  have told : w.sameBut [.startUp, .eraseInbox] w.faultTold := State.faultTold_sameBut
  have settled : w.faultTold.sameBut showing w.faultTold.settle := State.settled
  have after : w.sameBut (([.startUp, .eraseInbox] : List Part) ++ showing) w.faultTold.settle := State.sameBut_then told settled
  obtain ⟨sec, link⟩ := State.pathFaulted_link (s := q) (by rw [show q.link = _ from faulted]; simp)
  have held : w.faultTold.settle.link = w.link := State.sameBut_agree after .link
  rw [show q.link = _ from faulted] at link
  replace held := held.trans link
  have device : w.device = s.device := State.sameBut_agree before .device
  rw [State.enterFault_eq]
  refine ⟨by rw [held], by rw [held], by rw [held], by rw [held], by rw [held]; exact ⟨rfl, rfl⟩, ?_, fun awake => ?_,
    fun starting => ?_, fun r head active => ?_, State.sameBut_then before after⟩
  · rw [after.attending, (State.pathFaulted_quietly (s := q)).2 _ (by decide)]
    exact flag
  · have events : w.faultTold.settle.erase.inbox = w.faultTold.erase.inbox := State.sameBut_agree settled .eraseInbox
    have tells : w.faultTold = w.tellEngine .linkFault := if_neg (by rw [device]; exact awake)
    rw [events, tells]
    exact List.getLast?_concat
  · have start : w.faultTold.settle.startUp = w.faultTold.startUp := State.sameBut_agree settled .startUp
    have goes : w.faultTold = w.modStartUp fun x => { x with next := if x.identAsked then 6 else x.next, identAsked := false } :=
      if_pos (device.trans starting)
    have same : w.startUp = s.startUp := State.sameBut_agree before .startUp
    rw [start, goes, ← same]
    rfl
  · have same : q.sector = s.sector := State.sameBut_agree frame .sector
    have mem : q.exch.mem = s.exch.mem := State.sameBut_agree frame .mem
    have queues : q.exch.queuesOnly = s.exch.queuesOnly := State.sameBut_agree frame .queues
    have head' : q.sectorHead = some r := (congrArg (fun x : Exchange => x.sectorQ.head?) queues).trans head
    have ends : w = q.endSector .linkFault := if_pos (by rw [same]; exact active)
    have idle : w.faultTold.settle.sector = w.sector := State.sameBut_agree after .sector
    have done := State.endSector_completed (s := q) (by rw [State.memOk, mem]; exact ok) head' .linkFault
    rw [← ends, SectorPath.results_of_ne (by decide), same] at done
    refine ⟨?_, after.completed (State.completed_of_mem done ?_)⟩
    · rw [idle, ends, State.endSector_sector head']
    · rw [State.zeroed_of_kept rfl, mem]

/-! ### What a failure comes to (R98) -/

theorem State.commandFails_of_probe (probe : f.probe = true) : s.commandFails f =
    (s.modLink fun l =>
      { l with inFlight := none, probeLeft := if l.warned || s.device = .halted then none else some 1000 }).refresh .link :=
  if_pos probe

theorem State.commandFails_of_unwanted (probe : f.probe = false) (unwanted : f.withdrawn = true ∨ s.linkServes = false) :
    s.commandFails f = s.giveUp f := by
  rw [State.commandFails, if_neg (by simp [probe]), if_pos (by simpa using unwanted)]

theorem State.commandFails_of_first (probe : f.probe = false) (wanted : f.withdrawn = false) (serves : s.linkServes = true)
    (first : f.failedOnce = false) : s.commandFails f =
      (s.modLink fun l =>
        { l with
          reissues := satInc16 l.reissues
          inFlight := some { f with failedOnce := true, resetting := true, left := 20 } }).refresh .link := by
  simp [State.commandFails, probe, wanted, serves, first]

theorem State.commandFails_of_second (probe : f.probe = false) (wanted : f.withdrawn = false) (serves : s.linkServes = true)
    (second : f.failedOnce = true) : s.commandFails f = s.enterFault := by
  simp [State.commandFails, probe, wanted, serves, second]

/-- LINK_REISSUE at the end of a link reset. -/
theorem State.exec_linkReissue (alive : s.alive = true) (flies : s.link.inFlight = some f) (resets : f.resetting = true) :
    exec .linkReissue s = .next (s.reissue f).settle := by
  refine congrArg go ?_
  simp [alive, flies, resets]

theorem State.reissue_of_unwanted (unwanted : f.withdrawn = true ∨ s.linkServes = false) : s.reissue f = s.giveUp f :=
  if_pos (by simpa using unwanted)

theorem State.reissue_of_wanted (wanted : f.withdrawn = false) (serves : s.linkServes = true) :
    s.reissue f = s.modLink fun l => { l with inFlight := some { f with resetting := false, left := f.timeout } } :=
  if_neg (by simp [wanted, serves])

/-- A failure that changes the link alone, shown in its section, as it stands when the indicators are shown. -/
theorem State.modLink_shown_settle (g : Link → Link) :
    let t := ((s.modLink g).refresh .link).settle
    t.link = g s.link ∧ s.rewritten t .link ∧ s.sameBut (([.link, .pageLink] : List Part) ++ showing) t := by
  intro t
  obtain ⟨link, shown, frame⟩ := State.modLink_shown (s := s) g
  have settled : ((s.modLink g).refresh .link).sameBut showing t := State.settled
  have held : t.link = ((s.modLink g).refresh .link).link := State.sameBut_agree settled .link
  exact ⟨held.trans link, State.rewritten_link_congr shown held (State.sameBut_agree settled .pageLink),
    State.sameBut_then frame settled⟩

end Sys2Proof.Machine

open Sys2Proof Sys2Proof.Machine

/-- Settles O42: a failure is counted and comes to a probe's end, a giving up, a reissue or FAULT; the end of a link reset to a
command issued again or given up. -/
theorem linkFailures : Obligations.LinkFailures := by
  intro s f alive ok flies failing counted givenUp
  have told {t : State} (h : s.gaveUp t f) : givenUp t := by
    refine ⟨h.landed, h.faults, h.reissues, h.unserved, ?_⟩
    split
    next owner => exact h.sector owner
    next owner => exact h.engine owner
    next owner => exact h.controller owner
  have count {c : Instr} {t : State} (timeouts : t.link.timeouts = (s.failureCounted c).link.timeouts)
      (malformed : t.link.malformed = (s.failureCounted c).link.malformed) : counted c t :=
    State.failureCounted_counts c timeouts malformed
  have begun (c : Instr) : s.sameBut [.link] (s.failureCounted c) := State.modLink_sameBut _
  refine ⟨fun issued probe c fails => ?_, fun issued probe unwanted c fails => ?_,
    fun issued probe wanted serves c fails => ?_, fun resets wanted serves => ?_, fun resets unwanted => ?_⟩
  · obtain ⟨link, shown, frame⟩ := State.modLink_shown_settle (s := s.failureCounted c) fun l =>
      { l with inFlight := none, probeLeft := if l.warned || (s.failureCounted c).device = .halted then none else some 1000 }
    rw [← State.commandFails_of_probe probe] at link shown frame
    refine ⟨_, State.exec_failing alive flies issued fails, count (by rw [link]) (by rw [link]), ?_⟩
    rw [link]
    exact ⟨rfl, rfl, rfl, rfl, shown, State.sameBut_then (begun c) frame⟩
  · refine ⟨_, State.exec_failing alive flies issued fails, ?_⟩
    rw [State.commandFails_of_unwanted (s := s.failureCounted c) probe unwanted]
    obtain ⟨timeouts, malformed⟩ := State.giveUp_counts (s := s.failureCounted c) (f := f)
    exact ⟨count timeouts malformed, told (State.gaveUp_of_counted (State.giveUp_gaveUp ok))⟩
  · refine ⟨_, State.exec_failing alive flies issued fails, ?_⟩
    cases once : f.failedOnce with
    | false =>
      rw [State.commandFails_of_first (s := s.failureCounted c) probe wanted serves once]
      obtain ⟨link, shown, frame⟩ := State.modLink_shown_settle (s := s.failureCounted c) fun l =>
        { l with
          reissues := satInc16 l.reissues
          inFlight := some { f with failedOnce := true, resetting := true, left := 20 } }
      refine ⟨count (by rw [link]) (by rw [link]), fun _ => ?_, nofun⟩
      rw [link]
      exact ⟨rfl, rfl, shown, State.sameBut_then (begun c) frame⟩
    | true =>
      rw [State.commandFails_of_second (s := s.failureCounted c) probe wanted serves once]
      have fault := State.enterFault_toFault (s := s.failureCounted c) ok
      refine ⟨count fault.counts.1 fault.counts.2, nofun, fun _ => ⟨fault.state, fault.landed, fault.faults, fault.probe,
        fault.flag, fault.told, fault.startUp, fun r head active => ?_, State.sameBut_then (begun c) fault.frame⟩⟩
      obtain ⟨idle, done⟩ := fault.ended r head active
      exact ⟨idle, State.completed_of_mem done rfl⟩
  · refine ⟨_, State.exec_linkReissue alive flies resets, ?_⟩
    rw [State.reissue_of_wanted wanted serves]
    let l := s.modLink fun l => { l with inFlight := some { f with resetting := false, left := f.timeout } }
    have settled : l.sameBut showing l.settle := State.settled
    have held : l.settle.link = l.link := State.sameBut_agree settled .link
    refine ⟨held.trans ?_, State.sameBut_then (State.modLink_sameBut _) settled⟩
    cases owner : f.owner <;> simp [l, InFlight.timeout, owner, stripeTimeout, sectorTimeout]
  · refine ⟨_, State.exec_linkReissue alive flies resets, ?_⟩
    rw [State.reissue_of_unwanted unwanted]
    obtain ⟨timeouts, malformed⟩ := State.giveUp_counts (s := s) (f := f)
    exact ⟨timeouts, malformed, told (State.giveUp_gaveUp ok)⟩
end
